-- ==== Sys2Proof/Word.lean ====
section
/-! DEFINITION. The byte, and the plainest readings of a list of bytes. -/

namespace Sys2Proof

/-- One byte of a register, frame, descriptor or key. -/
abbrev Byte := BitVec 8

/-- The value of `n` bytes from offset `o`, the byte at the lowest offset least significant; bytes past the end count as 0 (R8). -/
def leAt (l : List Byte) (o : Nat) : Nat → Nat
  | 0 => 0
  | n + 1 => (l.getD o 0).toNat + 256 * leAt l (o + 1) n

/-- `n` bytes of a value, least significant first (R8). -/
def leBytes : Nat → Nat → List Byte
  | 0, _ => []
  | n + 1, v => BitVec.ofNat 8 (v % 256) :: leBytes n (v / 256)

/-- The big-endian value of a byte string, as the payment standards write numbers (R8). -/
def beNat (l : List Byte) : Nat := l.foldl (fun a b => a * 256 + b.toNat) 0

/-- `n` bytes of a value, most significant first. -/
def beBytes (n v : Nat) : List Byte := (leBytes n v).reverse

end Sys2Proof
end

