-- ==== Sys2Proof/Machine/Types.lean ====
section
/-! DEFINITION. The named values of the manual: status codes, slice and slot states, key attributes, pair and RNG states, and the
persistent records that frames carry between devices. -/

namespace Sys2Proof

/-- The status codes of R297; no other value appears in a completion or a response. -/
inductive Status where
  | ok | format | opcode | pinBlock
  | keyAccess | keyUsage | keyExhausted | keyDamaged | keyBlockMac | keyBlockFormat | keyExport | keyEmpty
  | keyOccupied | keyLmk | keyStrength | dukptKsn
  | tagMismatch | macMismatch | pinMismatch | arqcMismatch | ccvMismatch | digestMismatch | signature | decode
  | token | sessionAuth
  | length
  | policy | quorum | lifecycle | session | nonce | locked | pairRole
  | busy | sliceState | flowLimit | cacheQuota | timeout | cpRestart
  | fault | aborted | dmaFault | pkFault
  | rngFail | rngTest
  | pkRange | pkPoint | pkCurve
deriving DecidableEq, Repr

/-- The 16-bit code of a status (R297). -/
def Status.code : Status → Nat
  | .ok => 0x0000 | .format => 0x0101 | .opcode => 0x0102 | .pinBlock => 0x0103
  | .keyAccess => 0x0201 | .keyUsage => 0x0202 | .keyExhausted => 0x0203 | .keyDamaged => 0x0204
  | .keyBlockMac => 0x0205 | .keyBlockFormat => 0x0206 | .keyExport => 0x0207 | .keyEmpty => 0x0208
  | .keyOccupied => 0x0209 | .keyLmk => 0x020A | .keyStrength => 0x020B | .dukptKsn => 0x020C
  | .tagMismatch => 0x0301 | .macMismatch => 0x0302 | .pinMismatch => 0x0303 | .arqcMismatch => 0x0304
  | .ccvMismatch => 0x0305 | .digestMismatch => 0x0306 | .signature => 0x0307 | .decode => 0x0308
  | .token => 0x0309 | .sessionAuth => 0x030A
  | .length => 0x0401
  | .policy => 0x0501 | .quorum => 0x0502 | .lifecycle => 0x0503 | .session => 0x0504 | .nonce => 0x0505
  | .locked => 0x0506 | .pairRole => 0x0507
  | .busy => 0x0601 | .sliceState => 0x0602 | .flowLimit => 0x0603 | .cacheQuota => 0x0604 | .timeout => 0x0605
  | .cpRestart => 0x0606
  | .fault => 0x0701 | .aborted => 0x0702 | .dmaFault => 0x0703 | .pkFault => 0x0704
  | .rngFail => 0x0801 | .rngTest => 0x0802
  | .pkRange => 0x0901 | .pkPoint => 0x0902 | .pkCurve => 0x0903

/-- Slice states (R44, R298). -/
inductive SliceState where
  | free | bound | active | quiesced | frozen | error
deriving DecidableEq, Repr

/-- The encoding of `SLICE_STATUS.STATE` (R44). -/
def SliceState.code : SliceState → Nat
  | .free => 0 | .bound => 1 | .active => 2 | .quiesced => 3 | .frozen => 4 | .error => 5

/-- Flow types (R75). -/
inductive FlowType where
  | unordered | ordered | atomic
deriving DecidableEq, Repr

/-- Key usages of R109. -/
inductive Usage where
  | B0 | B1 | C0 | D0 | E0 | E1 | E2 | K0 | K1 | K2 | K3 | M0 | M1 | M3 | M6 | M7 | P0 | S0 | V0 | V1 | V2
deriving DecidableEq, Repr

/-- Key algorithms of R109: AES, TDES, HMAC, RSA, ECC, ML-KEM, ML-DSA. -/
inductive Alg where
  | A | T | H | R | E | K1 | D2
deriving DecidableEq, Repr

/-- Modes of use of R109. -/
inductive KMode where
  | B | C | D | E | G | S | V | X
deriving DecidableEq, Repr

/-- Exportability of R109; `S` is treated as `N`. -/
inductive Expo where
  | E | N | S
deriving DecidableEq, Repr

/-- A key's attributes: the header values of R109 and the optional blocks of R110 that the device carries. -/
structure Attr where
  usage : Usage := .D0
  alg : Alg := .A
  mode : KMode := .B
  kvn : List Byte := [0x30, 0x30]
  expo : Expo := .N
  /-- `9C`, the usage ceiling. -/
  ceil9C : Option Nat := none
  /-- `HM`, the hash code of R197 that the HMAC key names. -/
  hm : Option Nat := none
  /-- `IK`, the AES DUKPT initial key identifier. -/
  ik : Option (List Byte) := none
  /-- `KS`, the TDES DUKPT key set identifier. -/
  ks : Option (List Byte) := none
deriving DecidableEq, Repr

/-- A key with its attributes, as a cache entry or the key scratch of an item holds it (R126). -/
structure Key where
  attr : Attr := {}
  bytes : List Byte := []
deriving DecidableEq, Repr

/-- Slot states (R114). -/
inductive SlotState where
  | empty | live | exhausted | damaged
deriving DecidableEq, Repr

/-- One persistent key slot (R113, R117, R120). `resEnd`, the end of the last committed reservation, is persistent; the three fields
after it are this device's volatile share of the counter. -/
structure Slot where
  st : SlotState := .empty
  version : Nat := 0
  key : Key := {}
  /-- 0 where the slot carries no ceiling (algorithm H). -/
  ceiling : Nat := 0
  resEnd : Nat := 0
  /-- Counts granted to this device and not yet drawn, as ranges in the order they are drawn. -/
  ranges : List (Nat × Nat) := []
  /-- A reservation step has been requested and not committed (R120). -/
  asked : Bool := false
  /-- Counting resumes past the requested reservation (R121). -/
  void : Bool := false
deriving DecidableEq, Repr

/-- One LMK generation (R104). -/
structure LmkSet where
  aes : Option (List Byte) := none
  tdes : Option (List Byte) := none
  damaged : Bool := false
deriving DecidableEq, Repr

/-- One Officer: index, algorithm 1 or 2, public key (R273). -/
structure Officer where
  index : Nat
  alg : Nat
  key : List Byte
deriving DecidableEq, Repr

/-- An Officer set (R273). -/
structure OfficerSet where
  k : Nat := 0
  members : List Officer := []
deriving DecidableEq, Repr

/-- A loaded curve (R213): field length in bytes, the parameters as sent, and the tag. -/
structure Curve where
  len : Nat
  params : List Byte
  tag : List Byte
deriving DecidableEq, Repr

/-- Ring configuration (R302); `log2 = 0` is unconfigured. -/
structure RingCfg where
  log2 : Nat := 0
  sqBase : Nat := 0
  cqBase : Nat := 0
deriving DecidableEq, Repr

/-- The persistent part of a slice (10, "States and transitions"). -/
structure SliceRec where
  pasid : Nat := 0
  flowQuota : Nat := 16
  inflight : Nat := 512
  cacheGuar : Nat := 16
  cacheCeil : Nat := 4096
  migratable : Bool := false
  noGuar : Bool := false
  urgentOk : Bool := false
  /-- Tenant policy word of R289: bit 0 SLOT_WRITE, bit 1 PIN_ISSUE, bit 2 PIN_DOWNGRADE. -/
  policy : Nat := 0
  rings : List RingCfg := []
  officers : OfficerSet := {}
  lmk : List LmkSet := []
  lmkActive : Option Nat := none
  slots : List (Nat × Slot) := []
  curves : List (Nat × Curve) := []
  /-- KRD public keys as returned by `TR34_KRD_INIT` (R294): RSA public key and encapsulation key. -/
  krd : Option (List Byte) := none
  anchor : Option (List Byte) := none
  /-- The record authenticates (R103). -/
  sound : Bool := true
deriving DecidableEq, Repr

/-- Pair states (R379). -/
inductive PairState where
  | unpaired | seeking | forming | paired | waiting | soloUnproven | soloProven | diverged
deriving DecidableEq, Repr

/-- `PAIR_STATUS.PAIR_STATE` (R397). -/
def PairState.code : PairState → Nat
  | .unpaired => 0 | .seeking => 1 | .forming => 2 | .paired => 3 | .waiting => 4 | .soloUnproven => 5
  | .soloProven => 6 | .diverged => 7

/-- Roles of a pair (R381). -/
inductive Role where
  | none | primary | secondary
deriving DecidableEq, Repr

/-- States of one noise source (08, "Source states"). -/
inductive SrcState where
  | standby | startup | active | retired
deriving DecidableEq, Repr

/-- Failures of a device-issued read, with the code of record 0x9010 (R65). -/
inductive ReadFail where
  | unsupported | abort | timeout | poisoned | ide
deriving DecidableEq, Repr

/-- The failure code in [23:16] of parameter 2 of record 0x9010 (R65). -/
def ReadFail.code : ReadFail → Nat
  | .unsupported => 1 | .abort => 2 | .timeout => 3 | .poisoned => 4 | .ide => 5

/-- What a device-issued read was for (R65). -/
inductive ReadFor where
  /-- Input data of the item on a thread. -/
  | input (core thread : Nat)
  /-- A kind 1 key block of the item on a thread. -/
  | keyBlock (core thread : Nat)
  /-- The oldest outstanding descriptor fetch of a ring pair. -/
  | descriptor (slice ring : Nat)
deriving DecidableEq, Repr

/-- Engine pools (R179, R211). -/
inductive Pool where
  | cipher | digest | pk
deriving DecidableEq, Repr

/-- The checkers Mule tests (R331), with the unit the test was made on. -/
inductive Checker where
  | core (n : Nat) | secdedCore (n : Nat) | secdedBank (n : Nat) | secdedUnspared
  | cipher (n : Nat) | digest (n : Nat) | pk (n : Nat)
  | conditioner | drbg (n : Nat) | health (src : Nat) | gates | lockstep | goose | unspared
deriving DecidableEq, Repr

/-- What one scrub read found (R324, R326). -/
inductive ScrubFound where
  | clean | corrected | uncorrectable
deriving DecidableEq, Repr

/-- SEC-DED arrays by the unit they lie in (R323). -/
inductive Arr where
  | core (n : Nat) | cipher (n : Nat) | digest (n : Nat) | pk (n : Nat) | bank (n : Nat) | drbg (n : Nat)
  | sliceState (slice : Nat) | cpMemory | unspared (block : Nat)
deriving DecidableEq, Repr

/-- A Skerry record by region (R17, R103): the region number of the table of R17 and the record number. -/
structure SkRec where
  region : Nat
  number : Nat
deriving DecidableEq, Repr

end Sys2Proof
end

