-- ==== Sys2Proof/Frames.lean ====
section
/-! DEFINITION. What arrives at the block's edges with a command: BAR accesses, configuration requests, management requests with
their quorum blocks, state-changing steps, Strait frames and service-port frames. Where the manual leaves a public-key check
to a standard, the check's verdict travels here as an operand, so that every statement holds for either verdict (DESIGN CHOICE, safe:
assumption 4). -/

namespace Sys2Proof

/-- One access to a BAR (R36): bar 0, 2 or 4, the PASID prefix if any, the virtual channel, and whether it came inside an IDE
stream (R67). `value` is little-endian. -/
structure BarAccess where
  bar : Nat
  off : Nat
  size : Nat := 8
  write : Bool := true
  value : Nat := 0
  pasid : Option Nat := none
  vc1 : Bool := false
  ide : Bool := false
deriving DecidableEq, Repr

/-- What a configuration request addresses (R31, R33, R64, R65). -/
inductive ConfigOp where
  | read
  /-- Device Control: Relaxed Ordering enable. -/
  | relaxedOrdering (on : Bool)
  /-- VC capability: VC1 enable, and traffic class 7 mapped to VC1 alone. -/
  | virtualChannel (enable tc7Alone : Bool)
  /-- Device Control 2: completion timeout value. -/
  | completionTimeout (v : Nat)
  /-- MSI-X message control: function enable. -/
  | msixEnable (on : Bool)
  | otherWrite
deriving DecidableEq, Repr

/-- Capabilities a host request would need that the device does not have (R32). -/
inductive UrKind where
  | sriov | ats | pri | tdisp | peerToPeer | intx | msi | flr | idOrdering | atomic
deriving DecidableEq, Repr

/-- How a BAR access was answered (R36). -/
inductive BarAnswer where
  | unsupportedRequest | completerAbort | discarded | zero | accepted
deriving DecidableEq, Repr

/-- One entry of a quorum block (R278) with the verdict of its signature over the message of R277. -/
structure QEntry where
  officer : Nat
  alg : Nat
  sigLen : Nat
  valid : Bool
deriving DecidableEq, Repr

/-- An owner-root authorisation block (R357): its length and tag, the SHA-384 of its two public keys, and the verdicts of its
two signatures over the message of R277. -/
structure OwnerBlk where
  len : Nat
  tagOk : Bool
  digest : BitVec 384
  ecdsaOk : Bool
  mldsaOk : Bool
deriving DecidableEq, Repr

/-- One management request as a mailbox or a secured SPDM session delivers it (R265, R272). `input` is the plaintext input
less quorum block and tag; `tagOk` is the verdict of the session's tag (R271); `nonce` and `qseq` are the values the
Officers' signed message carries (R275, R277). -/
structure MbReq where
  mailbox : Nat
  /-- The secured SPDM session that carries the request, if any. -/
  spdm : Option Nat := none
  scope : Nat := 0xFFFF
  reqId : Nat := 0
  bodyLen : Nat := 0
  session : Nat := 0
  inAddr : Nat := 0
  inLen : Nat := 0
  outCap : Nat := 0
  outAddr : Nat := 0
  quorumLen : Nat := 0
  rsv : Nat := 0
  input : List Byte := []
  tagOk : Bool := true
  quorum : List QEntry := []
  /-- The three zero bytes after the count byte of the quorum block (R278). -/
  quorumPad : Nat := 0
  owner : Option OwnerBlk := none
  nonce : List Byte := []
  qseq : Nat := 0
  dmaFail : Option ReadFail := none
  vc1 : Bool := false
  ide : Bool := false
deriving DecidableEq, Repr

/-- Verdict of an enrolled public key under R273. -/
inductive KeyVerdict where
  | good | badPoint | badFormat
deriving DecidableEq, Repr

/-- Verdicts on a migration offer or reply (R315). -/
structure MigVerdict where
  chainOk : Bool := true
  sigOk : Bool := true
  pointOk : Bool := true
  encapOk : Bool := true
deriving DecidableEq, Repr

/-- Verdicts on a TR-34 token (R293, R295): structure, chain, signature and decryption all passed, the KRD random number it
carries, and the transported key. -/
structure TokenVerdict where
  ok : Bool := true
  random : List Byte := []
  usageOk : Bool := true
  alg : Alg := .A
  key : List Byte := []
deriving DecidableEq, Repr

/-- The first failing check of a curve or parameter set (R214), or none. -/
inductive CurveVerdict where
  | good | badRange | badPoint | badCurve
deriving DecidableEq, Repr

/-- The management operations (R283), `PAIR`, `MIGRATION_KEY_AGREE`, `CURVE_LOAD` and `PAIR_SWITCHOVER` split by mode as the
command table splits them, each with the verdicts and drawn values that its checks need. -/
inductive MOp where
  | devInfo | devReset | timeSet | nonceGet
  /-- The ephemeral point and the encapsulation key pass their checks. -/
  | sessionOpen (pointOk encapOk : Bool)
  | sessionClose | hifPolicySet
  /-- Bit 0: the conditioner set fails; bit 1: the DRBG set fails. -/
  | rngSelfTest (fails : Nat)
  | rngRawSample
  | sliceCreate | sliceBind | sliceRingSetup | sliceActivate | sliceQuiesce | sliceFreeze | sliceResume | sliceReset
  | sliceRemove | sliceSave
  /-- The image's plaintext body and the verdict of its tag. -/
  | sliceRestore (body : List Byte) (tagOk : Bool)
  | slicePolicySet | sliceStatus
  | migOffer | migAccept (v : MigVerdict) | migComplete (v : MigVerdict)
  | tenantPolicySet
  | officerEnroll (v : List KeyVerdict) | officerRemove | quorumSet | officerList
  | lmkComponentLoad | lmkCommit | lmkTr34Load (v : TokenVerdict) | lmkActivate | lmkRemove | lmkInfo
  /-- The generated KRD public keys, 392 and 1,568 bytes. -/
  | krdInit (pub : List Byte)
  | anchorSet (parses : Bool)
  | curveLoad (v : CurveVerdict) | curveClear
  | slotImport | slotDelete
  | logRead | logClear | logRateSet
  | ctrSelect | ctrRead | ctrDumpSet | bwmonSet | ctrGrant | ctrRevoke
  | tamperStatus | tamperUnlock | tamperConfig | tamperFuseDisable | lcClose | lcScrap | debugChallenge
  /-- Both Vendor signatures verify. -/
  | debugReopen (sigsOk : Bool)
  | fwStatus | fwActivate | fwDiscard
  | pairFound | pairJoin | pairAdmit | pairResolve | unpair | pairStatus | pairTimeoutSet | pairSwap | pairTakeOver
deriving DecidableEq, Repr

/-- State-changing steps (R383). -/
inductive StepKind where
  /-- A key into a slot with its ceiling (0: none); `overwrite` as `KFLAGS`[0]. -/
  | slotWrite (slot : Nat) (key : Key) (ceiling : Nat) (overwrite : Bool)
  | slotDelete (slot : Nat)
  /-- A reservation of a slot version: the range of counts, fixed when the step is sequenced or committed (R120, R391). -/
  | reserve (slot version start upTo : Nat)
  | exhaust (slot version : Nat)
  /-- A mirrored management command with its plaintext input, and the key it resolved to where the input does not hold it
  (`LMK_COMMIT`, whose components are staged on one device only). -/
  | mgmt (op : MOp) (scope : Nat) (input : List Byte) (data : List Byte)
  /-- The commit of a slice's entry into ERROR (R310 cause 1). -/
  | sliceErr
deriving DecidableEq, Repr

/-- A state-changing step of a slice, or of the device where `slice` is `0xFFFF`. -/
structure Step where
  slice : Nat
  kind : StepKind
deriving DecidableEq, Repr

/-- A sequenced journal entry (R385). -/
structure Entry where
  seq : Nat
  records : Nat := 1
  /-- 0 primary, 1 secondary. -/
  origin : Nat := 0
  chain : BitVec 128 := 0
  step : Step
deriving DecidableEq, Repr

/-- One slot's counter as the devices compare it when a pair forms (R392). -/
structure SlotEnd where
  slice : Nat
  slot : Nat
  version : Nat
  resEnd : Nat
  exhausted : Bool := false
deriving DecidableEq, Repr

/-- The facts a partner's `HELLO` carries (R374, R375), with the verdicts of its signatures and chain. -/
structure HelloMsg where
  serial : Nat
  nonce : List Byte := []
  sigOk : Bool := true
  /-- Life cycle of the partner: 0 OPEN, 1 CLOSED, 2 invalid. -/
  lifecycle : Nat := 0
  chainOk : Bool := true
  debugOpen : Bool := false
  group : BitVec 128 := 0
  major : Nat := 4
  preferPrimary : Bool := false
  holdsSlices : Bool := false
  journalSeq : Nat := 0
  chain : BitVec 128 := 0
  /-- The chain value the partner's journal holds at this device's position, if it retains it. -/
  chainAtOurs : Option (BitVec 128) := none
  /-- The command of R377 the partner is executing: none, 0 FOUND, 1 JOIN, 2 ADMIT. -/
  pairMode : Option Nat := none
  pairSerial : Nat := 0
  /-- Last common position, where the journals have diverged. -/
  common : Nat := 0
  /-- The partner's reservation ends (R392). -/
  ends : List SlotEnd := []
deriving DecidableEq, Repr

/-- A heartbeat (R373). -/
structure HbMsg where
  journalSeq : Nat
  state : Nat := 3
  time : Nat := 0
  epoch : Bool := false
  ready : Bool := true
  fw : Nat := 0x0402_0402
  /-- The measured link delay, in ns (R386). -/
  delay : Nat := 0
deriving DecidableEq, Repr

/-- What a `CONTROL` frame carries (R373, R374, R386, R395). -/
inductive ControlMsg where
  | swap (position : Nat)
  | setTime (ns : Nat)
  | rekey
deriving DecidableEq, Repr

/-- What a full resynchronisation carries of the primary's persistent state (R392). -/
structure ResyncMsg where
  slices : List (Nat × SliceRec) := []
  officers : OfficerSet := {}
  journalSeq : Nat := 0
  chain : BitVec 128 := 0
  kib : Nat := 0
deriving DecidableEq, Repr

/-- A service-port request frame (R432), its `LEN` that of the payload; the row gives its `TYPE`. -/
structure SvcFrame where
  sync : Nat := 0xA5
  seq : Nat := 0
  spStatus : Nat := 0
  payload : List Byte := []
  crc : Nat := 0
deriving DecidableEq, Repr

/-- Verdicts of the signatures of R441 steps 6 and 7, and whether the image read back from the bank is the one written (step 8). -/
structure PkgVerdict where
  vendorOk : Bool := true
  ownerOk : Bool := true
  digestOk : Bool := true
deriving DecidableEq, Repr

/-- Verdicts of the checks of R428 on the active bank: the digest, the vendor's signature, the owner's signature. -/
structure BootVerdict where
  digestOk : Bool := true
  vendorOk : Bool := true
  ownerOk : Bool := true
deriving DecidableEq, Repr

/-- One internal access as its target gate sees it (R340). -/
structure GateAccess where
  master : Nat
  target : Nat
  addr : Nat
  size : Nat := 8
  write : Bool := false
  exec : Bool := false
  tag : Nat := 0
  cpw : Bool := false
  /-- The master's rule set is damaged (R344). -/
  damaged : Bool := false
  /-- A Mule test probe (R331). -/
  probe : Bool := false
deriving DecidableEq, Repr

/-- An SPDM request on DOE (R68): the object's length, whether it came under a secured session, and the slot or session or
stream it names. `ok` is the verdict of the protocol's own cryptographic check of the request. -/
structure DoeReq where
  len : Nat := 64
  session : Option Nat := none
  a : Nat := 0
  b : Nat := 0
  ok : Bool := true
deriving DecidableEq, Repr

/-- Zatik running one command of the item on a thread: the bytes its input DMA delivered, those of a gather list followed by those of
its segments, and whether ML-DSA's attempt budget ran out (R236). -/
structure Run where
  core : Nat
  thread : Nat
  input : List Byte := []
  chance : Bool := false
deriving DecidableEq, Repr

/-- The straps, the PUF's first reading and the start-up known-answer tests at the release of a reset (R101, R254, R459). -/
structure Pins where
  pairEn : Bool := false
  preferPrimary : Bool := false
  pufOk : Bool := true
  /-- Start-up known-answer tests that fail: bit 0 the conditioner set, bit 1 the DRBG set (R254). -/
  katFails : Nat := 0
deriving DecidableEq, Repr

end Sys2Proof
end

