-- ==== Sys2Proof/Syntax.lean ====
section
/-! DEFINITION. The commands and events of the block, one constructor per row of the command table. -/

namespace Sys2Proof

/-- Everything that reaches the block from outside it, and every event inside it that the command table names. An operand is what
the row's rule lets vary: an access, a frame, a unit, the outcome of an analogue or public-key check. -/
inductive Instr where
  -- Resets, power and the link (15, 02).
  | resetNAssert (heldNs : Nat)
  | resetNRelease (p : Pins)
  | powerLoss
  | perstNAssert
  | perstNRelease (p : Pins)
  | hotReset (p : Pins)
  | linkDown (p : Pins)
  | linkRetrain (speed width : Nat)
  -- The PCIe host interface (02).
  | configurationRequest (op : ConfigOp)
  | unsupportedRequest (k : UrKind)
  | barAccessRejected (a : BarAccess)
  | registerWrite (a : BarAccess)
  | sqTailWrite (a : BarAccess)
  | cqHeadWrite (a : BarAccess)
  | interruptMessageStoreWrite (a : BarAccess)
  | descriptorFetch
  | descriptorArrival (slice ring : Nat) (desc : List Byte)
  | dmaReadFault (r : ReadFor) (f : ReadFail) (addr : Nat)
  | pcieCompletionTimeout (r : ReadFor) (addr : Nat)
  | ideCheckFail (stream : Nat) (reads : List ReadFor)
  -- SPDM and IDE key management over DOE (02).
  | doeDiscovery (r : DoeReq)
  | getVersion (r : DoeReq)
  | getCapabilities (r : DoeReq)
  | negotiateAlgorithms (r : DoeReq)
  | getDigests (r : DoeReq)
  | getCertificate (r : DoeReq)
  | challenge (r : DoeReq)
  | getMeasurements (r : DoeReq)
  | keyExchange (r : DoeReq)
  | finish (r : DoeReq)
  | heartbeatSpdm (r : DoeReq)
  | keyUpdate (r : DoeReq)
  | endSession (r : DoeReq)
  | ideKm (r : DoeReq)
  -- Sheepdog and fencing (03, 11).
  | itemDispatch
  | preemptSave (core thread : Nat)
  | itemFinish (core thread : Nat)
  | drainCeilingExpiry (slice : Nat)
  | coreFence (core cause : Nat)
  | engineFence (cipher : Bool) (n cause : Nat)
  | pkEngineFence (n cause : Nat)
  | keyCacheBankFence (bank cause : Nat) (reader : Option (Nat × Nat))
  | sliceError (slice cause : Nat)
  | deviceFaultStop (block : Nat)
  | cpLockstepMismatch
  | cpWatchdogKick
  | cpWatchdogExpiry
  | cpRestartComplete
  | gateViolation (a : GateAccess)
  | engineRequestStart (pool : Pool)
  | engineRequestComplete (pool : Pool) (n : Nat)
  | engineAbortComplete (pool : Pool) (n : Nat)
  | pkAbortComplete (n : Nat)
  -- Key management opcodes (04).
  | keyImport (r : Run)
  | keyExport (r : Run)
  | keyGenerate (r : Run)
  | keyCheckValue (r : Run)
  | keyStore (r : Run)
  | keyDelete (r : Run)
  | keyDerive (r : Run)
  | keyTranslate (r : Run)
  | keyLoadEphemeral (r : Run)
  | keyRelease (r : Run)
  | keySlotInfo (r : Run)
  | reservationCommit (slice slot : Nat)
  -- Payment opcodes (05).
  | pinTranslate (r : Run)
  | pinVerifyOffset (r : Run)
  | pinOffsetGenerate (r : Run)
  | pinVerifyPvv (r : Run)
  | pvvGenerate (r : Run)
  | pinVerifyReference (r : Run)
  | pinReferenceGenerate (r : Run)
  | arqcVerify (r : Run)
  | arpcGenerate (r : Run)
  | emvScriptMac (r : Run)
  | emvScriptPin (r : Run)
  | ccvGenerate (r : Run)
  | ccvVerify (r : Run)
  | macGenerate (r : Run)
  | macVerify (r : Run)
  -- Bulk opcodes (06).
  | dataEncrypt (r : Run)
  | dataDecrypt (r : Run)
  | bulkMacGenerate (r : Run)
  | bulkMacVerify (r : Run)
  | digest (r : Run)
  | digestVerify (r : Run)
  | hmacDeriveKey (r : Run)
  -- Public-key opcodes (07).
  | rsaSign (r : Run)
  | rsaVerify (r : Run)
  | rsaDecrypt (r : Run)
  | ecdsaSign (r : Run)
  | ecdsaVerify (r : Run)
  | ecdhDerive (r : Run)
  | eddsaSign (r : Run)
  | eddsaVerify (r : Run)
  | mlkemEncapsulate (r : Run)
  | mlkemDecapsulate (r : Run)
  | mldsaSign (r : Run)
  | mldsaVerify (r : Run)
  | pkKeyGenerate (r : Run)
  -- Random numbers (08).
  | randomGenerate (r : Run)
  | rngStatus (r : Run)
  | conditionedBlock
  | aptWindowClose
  | healthTestFailure (test : Nat)
  | sourceStartupPass
  | sourceStartupTimeout
  | instanceInstantiate
  | drbgGenerate (n : Nat)
  | reseedDue (n : Nat)
  | reseedComplete
  | conditionerMismatch
  | drbgInstanceFence (n cause : Nat) (reader : Option (Nat × Nat))
  | rawSampleRunEnd (healthFails : Nat)
  -- Management mailboxes (09) and the commands they carry (09 to 15).
  | mbAck (mailbox : Nat)
  | executionLimitExpiry (mailbox : Nat)
  | devInfo (r : MbReq)
  | devReset (r : MbReq)
  | devResetStart (p : Pins)
  | timeSet (r : MbReq)
  | nonceGet (r : MbReq)
  | sessionOpen (r : MbReq) (pointOk encapOk : Bool)
  | sessionClose (r : MbReq)
  | sessionIdleExpiry (session : Nat)
  | hifPolicySet (r : MbReq)
  | rngSelfTest (r : MbReq) (fails : Nat)
  | rngRawSample (r : MbReq)
  | sliceCreate (r : MbReq)
  | sliceBind (r : MbReq)
  | sliceRingSetup (r : MbReq)
  | sliceActivate (r : MbReq)
  | sliceQuiesce (r : MbReq)
  | sliceFreeze (r : MbReq)
  | sliceResume (r : MbReq)
  | sliceReset (r : MbReq)
  | sliceRemove (r : MbReq)
  | sliceSave (r : MbReq)
  | sliceRestore (r : MbReq) (body : List Byte) (imageTagOk : Bool)
  | slicePolicySet (r : MbReq)
  | sliceStatus (r : MbReq)
  | migrationKeyOffer (r : MbReq)
  | migrationKeyAccept (r : MbReq) (v : MigVerdict)
  | migrationKeyComplete (r : MbReq) (v : MigVerdict)
  | migrationKeyExpiry (entry : Nat)
  | tenantPolicySet (r : MbReq)
  | officerEnroll (r : MbReq) (v : List KeyVerdict)
  | officerRemove (r : MbReq)
  | quorumSet (r : MbReq)
  | officerList (r : MbReq)
  | lmkComponentLoad (r : MbReq)
  | lmkCommit (r : MbReq)
  | lmkTr34Load (r : MbReq) (v : TokenVerdict)
  | lmkActivate (r : MbReq)
  | lmkRemove (r : MbReq)
  | lmkInfo (r : MbReq)
  | tr34KrdInit (r : MbReq) (pub : List Byte)
  | tr34AnchorSet (r : MbReq) (parses : Bool)
  | curveLoad (r : MbReq) (v : CurveVerdict)
  | curveClear (r : MbReq)
  | slotImport (r : MbReq)
  | slotDelete (r : MbReq)
  | logRead (r : MbReq)
  | logClear (r : MbReq)
  | logRateSet (r : MbReq)
  | ctrSelect (r : MbReq)
  | ctrRead (r : MbReq)
  | ctrDumpSet (r : MbReq)
  | bwmonSet (r : MbReq)
  | ctrGrant (r : MbReq)
  | ctrRevoke (r : MbReq)
  | tamperStatus (r : MbReq)
  | tamperUnlock (r : MbReq)
  | tamperConfig (r : MbReq)
  | tamperFuseDisable (r : MbReq)
  | lcClose (r : MbReq)
  | lcScrap (r : MbReq)
  | lcScrapStart
  | debugChallenge (r : MbReq)
  | debugChallengeExpiry
  | debugReopen (r : MbReq) (sigsOk : Bool)
  | debugReopenStart
  | fwStatus (r : MbReq)
  | fwActivate (r : MbReq)
  | fwDiscard (r : MbReq)
  | pairFound (r : MbReq)
  | pairJoin (r : MbReq)
  | pairAdmit (r : MbReq)
  | pairResolve (r : MbReq)
  | unpair (r : MbReq)
  | pairStatus (r : MbReq)
  | pairTimeoutSet (r : MbReq)
  | pairSwap (r : MbReq)
  | pairTakeOver (r : MbReq)
  -- Tamper and life cycle (12).
  | tamperAlarm (mask : BitVec 12) (temps : Option (BitVec 16 × BitVec 16))
  | eraseVolatileComplete
  | eraseShareComplete
  | tamperSourceClear (n : Nat)
  | extTamperEdge (lineB : Bool) (phaseUs : Nat)
  | extTamperPhaseTimeout (lineB : Bool)
  | extTamperPowerupCheck
  | fuseResense (ok : Bool)
  | shieldPatternRenew (ok : Bool)
  | jtagInstructionLoad (ir : Nat)
  -- Self-test, scrubbing and commits (11).
  | muleCheckerTest (c : Checker) (pass : Bool)
  | muleProgress
  | muleProgressTimeout
  | scrubPass (a : Arr) (found : ScrubFound) (word : Nat)
  | skerryScrub (r : SkRec) (ok : Bool)
  | skerryCommit
  -- The pair (13).
  | straitTrainingStart
  | straitTrainingComplete (lanes : Nat)
  | straitTrainingRetry
  | heartbeatSend
  | hello (auth : Bool) (m : HelloMsg)
  | heartbeat (auth : Bool) (m : HbMsg)
  | journalReq (auth : Bool) (step : Step)
  | journal (auth : Bool) (e : Entry)
  | journalAck (auth : Bool) (seq : Nat)
  | resync (auth : Bool) (m : ResyncMsg)
  | resyncComplete
  | relinquish (auth : Bool) (seq : Nat)
  | control (auth : Bool) (m : ControlMsg)
  | heartbeatLoss
  | journalAckTimeout
  | pairTimeoutExpiry
  -- Event recorder and counters (14).
  | eventRecordWrite
  | tokenAdd (code : Nat)
  | suppressionSummary
  | bwmonWindowEnd (m bytes : Nat)
  | dumpPeriodEnd (late : Bool)
  -- Start-up, service port and activation (15).
  | pufReread (ok : Bool)
  | bootImageVerify (v : BootVerdict)
  | deviceReady (selfTestFails : List (Nat × Nat)) (loadFail : Option (Nat × Nat)) (badSlices : List Nat)
  | status (f : SvcFrame)
  | svcLogRead (f : SvcFrame)
  | pkgBegin (f : SvcFrame)
  | pkgData (f : SvcFrame)
  | pkgEnd (f : SvcFrame) (v : PkgVerdict)
  | pkgAbort (f : SvcFrame)
  | activate (f : SvcFrame)
  | test (f : SvcFrame)
  | svcResponseRead
  | svcBootStatusRead
  | svcResponseTimeout
  | svcTransactionTimeout
  | svcReceptionTimeout
  | activationDrainExpiry
  | activationBankCommit
  | activationLoadComplete (failedCores : List Nat)
deriving DecidableEq, Repr

end Sys2Proof
end

