-- ==== Sys2Proof/Config.lean ====
section
/-! DEFINITION. What the manual leaves to standards or to manufacture: free values without a body, which no proof can see
through, and the constants of the two ordering codes. -/

namespace Sys2Proof.Config

/-- Byte `n` of the device's random output (08): nothing constrains it. DESIGN CHOICE, safe (assumption 9). -/
opaque randomByte : Nat → Byte

/-- Signature of a message digest by a device key: slot 0 device unique root, slot 1 owner root chain (R270, R294, R315, R374). With
the six constants after it, DESIGN CHOICE, safe (assumption 5). -/
opaque deviceSign : Nat → List Byte → Nat
/-- A certificate chain of a slot as bytes (R68). -/
opaque certChain : Nat → List Byte
/-- A public point or encapsulation key the device generates, by kind and random position (R270, R315). -/
opaque ephemeral : Nat → Nat → Nat
/-- Shared secret of a key agreement, from both sides' public values (R270, R316, R374). -/
opaque agree : List Byte → List Byte → Nat
/-- The vendor identifier of PCI-SIG and other identity constants the manual does not print. -/
opaque vendorId : Nat
/-- The digest of the boot ROM (R69). -/
opaque romDigest : List Byte
/-- Digests of the sections of the running image, by section type (R69, R440). -/
opaque sectionDigest : List Byte → Nat → List Byte
/-- The two primes of a generated RSA modulus, by modulus bits and the random bytes drawn (R230). With the functions of EdDSA, ML-KEM
and ML-DSA below, DESIGN CHOICE, safe (assumption 10). -/
opaque rsaPrimes : Nat → List Byte → Nat × Nat
/-- EdDSA by algorithm code: public key of a seed, signature of a context and message, whether an encoded point passes R232, and
whether a signature verifies (R227). -/
opaque edPublic : Nat → List Byte → Nat
opaque edSign : Nat → List Byte → List Byte → List Byte → Nat
opaque edPointOk : Nat → List Byte → Bool
opaque edVerify : Nat → List Byte → List Byte → List Byte → List Byte → Bool
/-- ML-KEM by parameter code: encapsulation key of the seeds, ciphertext and shared secret of an encapsulation, and the shared secret
of a decapsulation (R228). -/
opaque kemPublic : Nat → List Byte → Nat
opaque kemEncaps : Nat → List Byte → List Byte → Nat × Nat
opaque kemDecaps : Nat → List Byte → List Byte → Nat
/-- ML-DSA by parameter code: public key of a seed, hedged signature by seed, randomness, context, `EXT_MU` and message, and
verification (R229). -/
opaque dsaPublic : Nat → List Byte → Nat
opaque dsaSign : Nat → List Byte → List Byte → List Byte → Bool → List Byte → Nat
opaque dsaVerify : Nat → List Byte → List Byte → List Byte → Bool → List Byte → Bool
/-- The plaintext of a journal entry, over which its chain value runs (R385). -/
opaque entryText : Nat → Step → List Byte
/-- An AES-256-GCM response or image under a key, a nonce and additional data: the sealed bytes as a number (R271, R317). -/
opaque sealed : List Byte → List Byte → List Byte → List Byte → Nat
/-- A raw sample byte of a noise source (R255), by source and position. -/
opaque rawByte : Nat → Nat → Byte
/-- Whether a low pulse of `RESET_n` of 20 to 100 ns resets, by its position among such pulses (R461). Safe (assumption 18). -/
opaque shortPulse : Nat → Bool
/-- A fresh opaque value of the model, by position, where the manual gives none. Safe (assumption 11). -/
opaque freeNat : Nat → Nat

/-- Numbers of transaction cores, PK, cipher and digest engines of PG64-A and PG40-A (R2). -/
def cores (pg40 : Bool) : Nat := if pg40 then 40 else 64
/-- PK engines (R2). -/
def pkEngines (pg40 : Bool) : Nat := if pg40 then 16 else 24
/-- Cipher engines (R2). -/
def cipherEngines (pg40 : Bool) : Nat := if pg40 then 10 else 16
/-- Digest engines (R2). -/
def digestEngines (pg40 : Bool) : Nat := if pg40 then 6 else 8

end Sys2Proof.Config
end

