-- ==== Sys2Proof/Machine/Primitives.lean ====
section
/-! DEFINITION. The block ciphers and hashes that the standards of R13 define: AES (FIPS 197), DES as the part of TDES (SP 800-67), SHA-1
and SHA-2 (FIPS 180-4), SHA-3 (FIPS 202).
PRESUMED, unsafe where a definition slips: assumption 6. -/

namespace Sys2Proof.Machine

/-- `f` of a number, the number worked out first. -/
def force {α : Type} (n : Nat) (f : Nat → α) : α :=
  match n with
  | 0 => f 0
  | m + 1 => f (m + 1)

theorem force_eq {α : Type} (n : Nat) (f : Nat → α) : force n f = f n := by cases n <;> rfl

/-- `f` of a list of numbers, each worked out first. -/
def forceAll {α : Type} : List Nat → (List Nat → α) → α
  | [], f => f []
  | x :: xs, f => force x (fun y => forceAll xs (fun ys => f (y :: ys)))

theorem forceAll_eq {α : Type} (l : List Nat) (f : List Nat → α) : forceAll l f = f l := by
  induction l generalizing f with
  | nil => rfl
  | cons x xs ih => unfold forceAll; rw [force_eq, ih]

/-- Rotation to the right in words of `w` bits. -/
def rotr (w n x : Nat) : Nat := x / 2 ^ n + x % 2 ^ n * 2 ^ (w - n)

/-- Entry `i` of a table of bytes packed least significant first. -/
def tableAt (t i : Nat) : Nat := t / 2 ^ (8 * i) % 256

/-! ## AES -/

/-- The S-box of FIPS 197, entry 0 lowest. -/
def sboxTable : Nat :=
  0xC072A49CAFA2D4ADF04759FA7DC982CA76ABD7FE2B670130C56F6BF27B777C63
  ||| 0x75B227EBE28012079A059618C323C7041531D871F1E5A534CCF73F362693FDB7 <<< 256
  ||| 0xCF584C4A39BECB6A5BB1FC20ED00D153842FE329B3D63B52A05A6E1B1A2C8309 <<< 512
  ||| 0xD2F3FF1021DAB6BCF5389D928F40A351A89F3C507F02F94585334D43FBAAEFD0 <<< 768
  ||| 0xDB0B5EDE14B8EE4688902A22DC4F816073195D643D7EA7C41744975FEC130CCD <<< 1024
  ||| 0x08AE7A65EAF4566CA94ED58D6D37C8E779E4959162ACD3C25C2406490A3A32E0 <<< 1280
  ||| 0x9E1DC186B95735610EF6034866B53E708A8BBD4B1F74DDE8C6B4A61C2E2578BA <<< 1536
  ||| 0x16BB54B00F2D99416842E6BF0D89A18CDF2855CEE9871E9B948ED9691198F8E1 <<< 1792

/-- The inverse S-box of FIPS 197. -/
def invSboxTable : Nat :=
  0xCBE9DEC444438E3487FF2F9B8239E37CFBD7F3819EA340BF38A53630D56A0952
  ||| 0x25D18B6D49A25B76B224D92866A12E084EC3FA420B954CEE3D23C2A632947B54 <<< 256
  ||| 0x849D8DA75746155EDAB9EDFD5048706C92B6655DCC5CA4D41698688664F6F872 <<< 512
  ||| 0x6B8A130103BDAFC1020F3FCA8F1E2CD00645B3B80558E4F70AD3BC8C00ABD890 <<< 768
  ||| 0x6EDF751CE837F9E28535ADE72274AC9673E6B4F0CECFF297EADC674F4111913A <<< 1024
  ||| 0xF45ACD78FEC0DB9A2079D2C64B3E56FC1BBE18AA0E62B76F89C5291D711AF147 <<< 1280
  ||| 0xEF9CC9939F7AE52D0D4AB519A97F51605FEC8027591012B131C7078833A8DD1F <<< 1536
  ||| 0x7D0C2155631469E126D677BA7E042B17619953833CBBEBC8B0F52AAE4D3BE0A0 <<< 1792

/-- Multiplication by x in GF(2^8), on each byte of a word. -/
def xtime (w : Nat) : Nat := ((w &&& 0x7F7F7F7F) * 2) ^^^ ((w / 128 &&& 0x01010101) * 0x1B)

/-- A column's bytes through a table, each from a column of its own. -/
def subBytes (t a b c d : Nat) : Nat :=
  tableAt t (a / 2 ^ 24) * 2 ^ 24 + tableAt t (b / 2 ^ 16 % 256) * 2 ^ 16 + tableAt t (c / 2 ^ 8 % 256) * 2 ^ 8 + tableAt t (d % 256)

/-- MixColumns on one column: 2a + 3b + c + d in each row. -/
def mixColumn (w : Nat) : Nat := xtime w ^^^ rotr 32 24 (w ^^^ xtime w) ^^^ rotr 32 16 w ^^^ rotr 32 8 w

/-- InvMixColumns on one column: the inverse matrix is that of MixColumns times 5, 0, 4, 0. -/
def invMixColumn (w : Nat) : Nat := mixColumn (w ^^^ xtime (xtime (w ^^^ rotr 32 16 w)))

/-- The S-box on the four bytes of a word. -/
def subWord (x : Nat) : Nat := subBytes sboxTable x x x x

/-- The round constant of FIPS 197. -/
def rcon : Nat → Nat
  | 0 | 1 => 1
  | n + 1 => xtime (rcon n)

/-- `n` more words of the key schedule after word `i`, from the last `nk` words. -/
def expandGo (nk : Nat) : Nat → Nat → List Nat → List Nat
  | 0, _, _ => []
  | n + 1, i, win =>
    let t := win.getLastD 0
    let u := if i % nk = 0 then subWord (rotr 32 24 t) ^^^ (rcon (i / nk) * 2 ^ 24)
      else if nk = 8 ∧ i % nk = 4 then subWord t else t
    force (win.headD 0 ^^^ u) (fun x => x :: expandGo nk n (i + 1) (win.tail ++ [x]))

/-- The words of a byte string, four bytes each. -/
def wordsOf : List Byte → List Nat
  | a :: b :: c :: d :: l => (a.toNat * 2 ^ 24 + b.toNat * 2 ^ 16 + c.toNat * 2 ^ 8 + d.toNat) :: wordsOf l
  | _ => []

/-- The key schedule: `Nk + 7` round keys of four words (FIPS 197, KeyExpansion). -/
def keySchedule (k : List Byte) : List Nat :=
  let w := wordsOf k
  w ++ expandGo w.length (4 * (w.length + 7) - w.length) w.length w

/-- The columns of a number of 128 bits. -/
def stateOf (x : Nat) : List Nat := [x / 2 ^ 96, x / 2 ^ 64 % 2 ^ 32, x / 2 ^ 32 % 2 ^ 32, x % 2 ^ 32]

/-- The number of four columns. -/
def ofState (l : List Nat) : Nat := l.foldl (fun a b => a * 2 ^ 32 + b) 0

/-- AddRoundKey with round key `r`. -/
def addKey (ks : List Nat) (r : Nat) (s : List Nat) : List Nat := List.zipWith (· ^^^ ·) s (ks.drop (4 * r))

/-- SubBytes and ShiftRows of the cipher (`n` 1, the S-box) or of its inverse (`n` 3, the inverse S-box): column j takes row i from column
j + n·i. -/
def subShift (t n : Nat) (s : List Nat) : List Nat :=
  (List.range 4).map (fun j => subBytes t (s.getD j 0) (s.getD ((j + n) % 4) 0) (s.getD ((j + 2) % 4) 0) (s.getD ((j + 3 * n) % 4) 0))

/-- Rounds of the cipher from round `r`, `n` of them with MixColumns before the last (FIPS 197, Cipher). -/
def encRounds (ks : List Nat) : Nat → Nat → List Nat → List Nat
  | 0, r, s => addKey ks r (subShift sboxTable 1 s)
  | n + 1, r, s => forceAll (subShift sboxTable 1 s) (fun t =>
      forceAll (addKey ks r (t.map mixColumn)) (fun u => encRounds ks n (r + 1) u))

/-- Rounds of the inverse cipher, `n` round keys left (FIPS 197, InvCipher). -/
def decRounds (ks : List Nat) : Nat → List Nat → List Nat
  | 0, s => addKey ks 0 (subShift invSboxTable 3 s)
  | n + 1, s => forceAll (addKey ks (n + 1) (subShift invSboxTable 3 s)) (fun u =>
      forceAll (u.map invMixColumn) (fun v => decRounds ks n v))

/-- One AES block under a key of 16, 24 or 32 bytes (FIPS 197). -/
@[irreducible] def aesEnc (k : List Byte) (b : BitVec 128) : BitVec 128 :=
  forceAll (keySchedule k) (fun ks =>
    forceAll (addKey ks 0 (stateOf b.toNat)) (fun s => BitVec.ofNat 128 (ofState (encRounds ks (k.length / 4 + 5) 1 s))))

/-- The inverse block operation (FIPS 197). -/
@[irreducible] def aesDec (k : List Byte) (b : BitVec 128) : BitVec 128 :=
  forceAll (keySchedule k) (fun ks =>
    forceAll (addKey ks (k.length / 4 + 6) (stateOf b.toNat)) (fun s => BitVec.ofNat 128 (ofState (decRounds ks (k.length / 4 + 5) s))))

/-! ## DES -/

/-- Bits of a word of `w` bits by position, 1 the most significant. -/
def permute (w : Nat) (t : List Nat) (x : Nat) : Nat := t.foldl (fun a p => 2 * a + x / 2 ^ (w - p) % 2) 0

/-- Initial permutation. -/
def desIP : List Nat :=
  [58, 50, 42, 34, 26, 18, 10, 2, 60, 52, 44, 36, 28, 20, 12, 4,
   62, 54, 46, 38, 30, 22, 14, 6, 64, 56, 48, 40, 32, 24, 16, 8,
   57, 49, 41, 33, 25, 17, 9, 1, 59, 51, 43, 35, 27, 19, 11, 3,
   61, 53, 45, 37, 29, 21, 13, 5, 63, 55, 47, 39, 31, 23, 15, 7]

/-- Its inverse. -/
def desFP : List Nat :=
  [40, 8, 48, 16, 56, 24, 64, 32, 39, 7, 47, 15, 55, 23, 63, 31,
   38, 6, 46, 14, 54, 22, 62, 30, 37, 5, 45, 13, 53, 21, 61, 29,
   36, 4, 44, 12, 52, 20, 60, 28, 35, 3, 43, 11, 51, 19, 59, 27,
   34, 2, 42, 10, 50, 18, 58, 26, 33, 1, 41, 9, 49, 17, 57, 25]

/-- Expansion. -/
def desE : List Nat :=
  [32, 1, 2, 3, 4, 5, 4, 5, 6, 7, 8, 9, 8, 9, 10, 11,
   12, 13, 12, 13, 14, 15, 16, 17, 16, 17, 18, 19, 20, 21, 20, 21,
   22, 23, 24, 25, 24, 25, 26, 27, 28, 29, 28, 29, 30, 31, 32, 1]

/-- Permutation of the round function. -/
def desP : List Nat :=
  [16, 7, 20, 21, 29, 12, 28, 17, 1, 15, 23, 26, 5, 18, 31, 10,
   2, 8, 24, 14, 32, 27, 3, 9, 19, 13, 30, 6, 22, 11, 4, 25]

/-- Permuted choice 1. -/
def desPC1 : List Nat :=
  [57, 49, 41, 33, 25, 17, 9, 1, 58, 50, 42, 34, 26, 18,
   10, 2, 59, 51, 43, 35, 27, 19, 11, 3, 60, 52, 44, 36,
   63, 55, 47, 39, 31, 23, 15, 7, 62, 54, 46, 38, 30, 22,
   14, 6, 61, 53, 45, 37, 29, 21, 13, 5, 28, 20, 12, 4]

/-- Permuted choice 2. -/
def desPC2 : List Nat :=
  [14, 17, 11, 24, 1, 5, 3, 28, 15, 6, 21, 10,
   23, 19, 12, 4, 26, 8, 16, 7, 27, 20, 13, 2,
   41, 52, 31, 37, 47, 55, 30, 40, 51, 45, 33, 48,
   44, 49, 39, 56, 34, 53, 46, 42, 50, 36, 29, 32]

/-- The S-boxes, each 64 values of four bits, box by box, row by row, the first value lowest. -/
def desBoxes : List Nat :=
  [0xD60AE3B5719428CF05A379CFB26D8E148359BC6A1D2E47F07095C6A38BF21D4E,
   0x9E50C76B24F31A8DF2396C851D4AB7E05B96A10CE82F74D3A50CD27943B6E81F,
   0xC25B3EF478960DA17EA5C21B03F8946D1FBCE582A643907D824B7CD15F36E90A,
   0xE27CB5498D1A60F34825E31FD7BC096A9EA1C27430F65B8DF4CB5821A9603ED7,
   0x354A90F6D2E17C8BE0365C9F87DAB1246893AF051D74C2BE9E0DF3586BA714C2,
   0xD80671EBAF59C2346BD1A4073C825FE983B0ED1659C724FAB57E43D08629FA1C,
   0xC32EF0597A418DB6295086FAE73CDB4168F2C53EA1947B0D16A579C3D80FE2B4,
   0xB65309CFD8A47E12853FDA602EC914B729E0B65C473A8DF17C05E39A1BF6482D]

/-- Output of the eight S-boxes for 48 bits. -/
def desSubst (x : Nat) : Nat :=
  (List.range 8).foldl (fun a i =>
    let b := x / 2 ^ (42 - 6 * i) % 64
    a * 16 + desBoxes.getD i 0 / 2 ^ (4 * (b / 32 * 32 + b % 2 * 16 + b / 2 % 16)) % 16) 0

/-- The round function. -/
def desF (r k : Nat) : Nat := permute 32 desP (desSubst (permute 32 desE r ^^^ k))

/-- Rotation to the left of half a key. -/
def rotl28 (n x : Nat) : Nat := x % 2 ^ (28 - n) * 2 ^ n + x / 2 ^ (28 - n)

/-- The sixteen round keys. -/
def desKeysGo : List Nat → Nat → Nat → List Nat
  | [], _, _ => []
  | n :: ns, c, d => force (rotl28 n c) (fun c => force (rotl28 n d) (fun d => permute 56 desPC2 (c * 2 ^ 28 + d) :: desKeysGo ns c d))

def desKeys (k : Nat) : List Nat :=
  force (permute 64 desPC1 k) (fun x => desKeysGo [1, 1, 2, 2, 2, 2, 2, 2, 1, 2, 2, 2, 2, 2, 2, 1] (x / 2 ^ 28) (x % 2 ^ 28))

def desRounds : List Nat → Nat → Nat → Nat
  | [], l, r => r * 2 ^ 32 + l
  | k :: ks, l, r => force (l ^^^ desF r k) (fun x => desRounds ks r x)

def desBlock (ks : List Nat) (b : Nat) : Nat :=
  forceAll ks (fun ks => force (permute 64 desIP b) (fun x => permute 64 desFP (desRounds ks (x / 2 ^ 32) (x % 2 ^ 32))))

/-- One DES block under a key of 64 bits, eight of them parity (SP 800-67). -/
@[irreducible] def desEnc (k b : BitVec 64) : BitVec 64 := BitVec.ofNat 64 (desBlock (desKeys k.toNat) b.toNat)

/-- The inverse block operation. -/
@[irreducible] def desDec (k b : BitVec 64) : BitVec 64 := BitVec.ofNat 64 (desBlock (desKeys k.toNat).reverse b.toNat)

/-! ## Hashes -/

/-- Blocks of `n` words of `b` bytes, most significant byte first. -/
def hashWords (b : Nat) : Nat → List Byte → List Nat
  | 0, _ => []
  | n + 1, l => beNat (l.take b) :: hashWords b n (l.drop b)

/-- The padding of FIPS 180-4 to blocks of `n` bytes with a length of `m` bytes. -/
def shaPad (n m : Nat) (l : List Byte) : List Byte :=
  l ++ [0x80] ++ List.replicate ((2 * n - 1 - m - l.length % n) % n) 0 ++ beBytes m (8 * l.length)

/-- The eighty rounds of SHA-1 on a window of sixteen words. -/
def sha1Rounds : Nat → Nat → List Nat → Nat → Nat → Nat → Nat → Nat → List Nat
  | 0, _, _, a, b, c, d, e => [a, b, c, d, e]
  | n + 1, t, win, a, b, c, d, e =>
    let f := if t < 20 then (b &&& c) ||| ((2 ^ 32 - 1 - b) &&& d)
      else if 40 ≤ t ∧ t < 60 then (b &&& c) ||| (b &&& d) ||| (c &&& d) else b ^^^ c ^^^ d
    let k := if t < 20 then 0x5A827999 else if t < 40 then 0x6ED9EBA1 else if t < 60 then 0x8F1BBCDC else 0xCA62C1D6
    force ((rotr 32 27 a + f + e + k + win.headD 0) % 2 ^ 32) (fun x =>
      force (rotr 32 31 (win.getD 13 0 ^^^ win.getD 8 0 ^^^ win.getD 2 0 ^^^ win.getD 0 0)) (fun w =>
        force (rotr 32 2 b) (fun c' => sha1Rounds n (t + 1) (win.tail ++ [w]) x a c' c d)))

/-- The constants and rotations of one half of SHA-2. -/
structure Sha2 where
  w : Nat
  k : List Nat
  /-- Rotations of the two functions on the working variables, then rotations and shift of the two of the message schedule. -/
  big0 : Nat × Nat × Nat
  big1 : Nat × Nat × Nat
  small0 : Nat × Nat × Nat
  small1 : Nat × Nat × Nat

/-- Three rotations. -/
def rot3 (w : Nat) (t : Nat × Nat × Nat) (x : Nat) : Nat := rotr w t.1 x ^^^ rotr w t.2.1 x ^^^ rotr w t.2.2 x

/-- Two rotations and a shift. -/
def rot2s (w : Nat) (t : Nat × Nat × Nat) (x : Nat) : Nat := rotr w t.1 x ^^^ rotr w t.2.1 x ^^^ x / 2 ^ t.2.2

/-- The rounds of SHA-2 on a window of sixteen words. -/
def sha2Rounds (p : Sha2) : List Nat → List Nat → Nat → Nat → Nat → Nat → Nat → Nat → Nat → Nat → List Nat
  | [], _, a, b, c, d, e, f, g, h => [a, b, c, d, e, f, g, h]
  | k :: ks, win, a, b, c, d, e, f, g, h =>
    force (h + rot3 p.w p.big1 e + ((e &&& f) ^^^ ((2 ^ p.w - 1 - e) &&& g)) + k + win.headD 0) (fun t =>
      force ((d + t) % 2 ^ p.w) (fun e' =>
        force ((t + rot3 p.w p.big0 a + ((a &&& b) ^^^ (a &&& c) ^^^ (b &&& c))) % 2 ^ p.w) (fun a' =>
          force ((rot2s p.w p.small1 (win.getD 14 0) + win.getD 9 0 + rot2s p.w p.small0 (win.getD 1 0) + win.headD 0) % 2 ^ p.w) (fun w =>
            sha2Rounds p ks (win.tail ++ [w]) a' a b c e' e f g))))

/-- The chaining of blocks: each adds its rounds to the state. -/
def shaBlocks (w blk : Nat) (rounds : List Nat → List Nat → List Nat) : Nat → List Byte → List Nat → List Nat
  | 0, _, h => h
  | n + 1, l, h => forceAll (hashWords (w / 8) 16 (l.take blk)) (fun m =>
      forceAll (List.zipWith (fun x y => (x + y) % 2 ^ w) h (rounds m h)) (fun h' => shaBlocks w blk rounds n (l.drop blk) h'))

/-- The words of a state as one number. -/
def ofWords (w : Nat) (h : List Nat) : Nat := h.foldl (fun a b => a * 2 ^ w + b) 0

def sha1 (l : List Byte) : Nat :=
  let m := shaPad 64 8 l
  ofWords 32 (shaBlocks 32 64 (fun w h => sha1Rounds 80 0 w (h.getD 0 0) (h.getD 1 0) (h.getD 2 0) (h.getD 3 0) (h.getD 4 0)) (m.length / 64) m
    [0x67452301, 0xEFCDAB89, 0x98BADCFE, 0x10325476, 0xC3D2E1F0])

/-- SHA-2 from initial words, over blocks of sixteen words. -/
def sha2 (p : Sha2) (init : List Nat) (l : List Byte) : List Nat :=
  let m := shaPad (2 * p.w) (p.w / 4) l
  shaBlocks p.w (2 * p.w) (fun w h => sha2Rounds p p.k w (h.getD 0 0) (h.getD 1 0) (h.getD 2 0) (h.getD 3 0) (h.getD 4 0) (h.getD 5 0)
    (h.getD 6 0) (h.getD 7 0)) (m.length / (2 * p.w)) m init

/-- Constants of SHA-256, words 0 to 31. -/
def sha256K0 : List Nat :=
  [0x428A2F98, 0x71374491, 0xB5C0FBCF, 0xE9B5DBA5, 0x3956C25B, 0x59F111F1, 0x923F82A4, 0xAB1C5ED5,
   0xD807AA98, 0x12835B01, 0x243185BE, 0x550C7DC3, 0x72BE5D74, 0x80DEB1FE, 0x9BDC06A7, 0xC19BF174,
   0xE49B69C1, 0xEFBE4786, 0xFC19DC6, 0x240CA1CC, 0x2DE92C6F, 0x4A7484AA, 0x5CB0A9DC, 0x76F988DA,
   0x983E5152, 0xA831C66D, 0xB00327C8, 0xBF597FC7, 0xC6E00BF3, 0xD5A79147, 0x6CA6351, 0x14292967]

/-- Constants of SHA-256, words 32 to 63. -/
def sha256K1 : List Nat :=
  [0x27B70A85, 0x2E1B2138, 0x4D2C6DFC, 0x53380D13, 0x650A7354, 0x766A0ABB, 0x81C2C92E, 0x92722C85,
   0xA2BFE8A1, 0xA81A664B, 0xC24B8B70, 0xC76C51A3, 0xD192E819, 0xD6990624, 0xF40E3585, 0x106AA070,
   0x19A4C116, 0x1E376C08, 0x2748774C, 0x34B0BCB5, 0x391C0CB3, 0x4ED8AA4A, 0x5B9CCA4F, 0x682E6FF3,
   0x748F82EE, 0x78A5636F, 0x84C87814, 0x8CC70208, 0x90BEFFFA, 0xA4506CEB, 0xBEF9A3F7, 0xC67178F2]

/-- The half of 32-bit words. -/
def sha32 : Sha2 :=
  { w := 32, k := sha256K0 ++ sha256K1, big0 := (2, 13, 22), big1 := (6, 11, 25), small0 := (7, 18, 3), small1 := (17, 19, 10) }

/-- Constants of SHA-512, words 0 to 39. -/
def sha512K0 : List Nat :=
  [0x428A2F98D728AE22, 0x7137449123EF65CD, 0xB5C0FBCFEC4D3B2F, 0xE9B5DBA58189DBBC, 0x3956C25BF348B538,
   0x59F111F1B605D019, 0x923F82A4AF194F9B, 0xAB1C5ED5DA6D8118, 0xD807AA98A3030242, 0x12835B0145706FBE,
   0x243185BE4EE4B28C, 0x550C7DC3D5FFB4E2, 0x72BE5D74F27B896F, 0x80DEB1FE3B1696B1, 0x9BDC06A725C71235,
   0xC19BF174CF692694, 0xE49B69C19EF14AD2, 0xEFBE4786384F25E3, 0xFC19DC68B8CD5B5, 0x240CA1CC77AC9C65,
   0x2DE92C6F592B0275, 0x4A7484AA6EA6E483, 0x5CB0A9DCBD41FBD4, 0x76F988DA831153B5, 0x983E5152EE66DFAB,
   0xA831C66D2DB43210, 0xB00327C898FB213F, 0xBF597FC7BEEF0EE4, 0xC6E00BF33DA88FC2, 0xD5A79147930AA725,
   0x6CA6351E003826F, 0x142929670A0E6E70, 0x27B70A8546D22FFC, 0x2E1B21385C26C926, 0x4D2C6DFC5AC42AED,
   0x53380D139D95B3DF, 0x650A73548BAF63DE, 0x766A0ABB3C77B2A8, 0x81C2C92E47EDAEE6, 0x92722C851482353B]

/-- Constants of SHA-512, words 40 to 79. -/
def sha512K1 : List Nat :=
  [0xA2BFE8A14CF10364, 0xA81A664BBC423001, 0xC24B8B70D0F89791, 0xC76C51A30654BE30, 0xD192E819D6EF5218,
   0xD69906245565A910, 0xF40E35855771202A, 0x106AA07032BBD1B8, 0x19A4C116B8D2D0C8, 0x1E376C085141AB53,
   0x2748774CDF8EEB99, 0x34B0BCB5E19B48A8, 0x391C0CB3C5C95A63, 0x4ED8AA4AE3418ACB, 0x5B9CCA4F7763E373,
   0x682E6FF3D6B2B8A3, 0x748F82EE5DEFB2FC, 0x78A5636F43172F60, 0x84C87814A1F0AB72, 0x8CC702081A6439EC,
   0x90BEFFFA23631E28, 0xA4506CEBDE82BDE9, 0xBEF9A3F7B2C67915, 0xC67178F2E372532B, 0xCA273ECEEA26619C,
   0xD186B8C721C0C207, 0xEADA7DD6CDE0EB1E, 0xF57D4F7FEE6ED178, 0x6F067AA72176FBA, 0xA637DC5A2C898A6,
   0x113F9804BEF90DAE, 0x1B710B35131C471B, 0x28DB77F523047D84, 0x32CAAB7B40C72493, 0x3C9EBE0A15C9BEBC,
   0x431D67C49C100D4C, 0x4CC5D4BECB3E42B6, 0x597F299CFC657E2A, 0x5FCB6FAB3AD6FAEC, 0x6C44198C4A475817]

/-- The half of 64-bit words. -/
def sha64 : Sha2 :=
  { w := 64, k := sha512K0 ++ sha512K1, big0 := (28, 34, 39), big1 := (14, 18, 41), small0 := (1, 8, 7), small1 := (19, 61, 6) }

def sha224 (l : List Byte) : Nat :=
  ofWords 32 ((sha2 sha32 [0xC1059ED8, 0x367CD507, 0x3070DD17, 0xF70E5939, 0xFFC00B31, 0x68581511, 0x64F98FA7, 0xBEFA4FA4] l).take 7)

def sha256 (l : List Byte) : Nat :=
  ofWords 32 (sha2 sha32 [0x6A09E667, 0xBB67AE85, 0x3C6EF372, 0xA54FF53A, 0x510E527F, 0x9B05688C, 0x1F83D9AB, 0x5BE0CD19] l)

/-- SHA-384 as a number. -/
def sha384Nat (l : List Byte) : Nat :=
  ofWords 64 ((sha2 sha64 [0xCBBB9D5DC1059ED8, 0x629A292A367CD507, 0x9159015A3070DD17, 0x152FECD8F70E5939,
    0x67332667FFC00B31, 0x8EB44A8768581511, 0xDB0C2E0D64F98FA7, 0x47B5481DBEFA4FA4] l).take 6)

def sha512 (l : List Byte) : Nat :=
  ofWords 64 (sha2 sha64 [0x6A09E667F3BCC908, 0xBB67AE8584CAA73B, 0x3C6EF372FE94F82B, 0xA54FF53A5F1D36F1,
    0x510E527FADE682D1, 0x9B05688C2B3E6C1F, 0x1F83D9ABFB41BD6B, 0x5BE0CD19137E2179] l)

/-- Rotation offsets of Keccak, lane x + 5y. -/
def keccakRot : List Nat :=
  [0, 1, 62, 28, 27, 36, 44, 6, 55, 20, 3, 10, 43, 25, 39, 41, 45, 15, 21, 8, 18, 2, 61, 56, 14]

/-- Round constants of Keccak. -/
def keccakRc : List Nat :=
  [0x1, 0x8082, 0x800000000000808A, 0x8000000080008000, 0x808B, 0x80000001,
   0x8000000080008081, 0x8000000000008009, 0x8A, 0x88, 0x80008009, 0x8000000A,
   0x8000808B, 0x800000000000008B, 0x8000000000008089, 0x8000000000008003, 0x8000000000008002, 0x8000000000000080,
   0x800A, 0x800000008000000A, 0x8000000080008081, 0x8000000000008080, 0x80000001, 0x8000000080008008]

/-- Rotation to the left of a lane. -/
def rotl64 (n x : Nat) : Nat := if n = 0 then x else rotr 64 (64 - n) x

/-- One round of Keccak-f[1600] on 25 lanes (FIPS 202). -/
def keccakRound {α : Type} (rc : Nat) (s : List Nat) (f : List Nat → α) : α :=
  let a := fun i => s.getD i 0
  forceAll ((List.range 5).map (fun x => a x ^^^ a (x + 5) ^^^ a (x + 10) ^^^ a (x + 15) ^^^ a (x + 20))) (fun c =>
    forceAll ((List.range 5).map (fun x => c.getD ((x + 4) % 5) 0 ^^^ rotl64 1 (c.getD ((x + 1) % 5) 0))) (fun d =>
      forceAll ((List.range 25).map (fun i =>
          let x := (i % 5 + 3 * (i / 5)) % 5
          let j := x + 5 * (i % 5)
          rotl64 (keccakRot.getD j 0) (a j ^^^ d.getD x 0))) (fun b =>
        forceAll ((List.range 25).map (fun i =>
            let y := i / 5 * 5
            (b.getD i 0 ^^^ ((2 ^ 64 - 1 - b.getD (y + (i + 1) % 5) 0) &&& b.getD (y + (i + 2) % 5) 0))
              ^^^ (if i = 0 then rc else 0))) f)))

def keccakRounds {α : Type} : List Nat → List Nat → (List Nat → α) → α
  | [], s, f => f s
  | r :: rs, s, f => keccakRound r s (fun t => keccakRounds rs t f)

/-- The value of bytes, least significant first. -/
def leNat (l : List Byte) : Nat := leAt l 0 l.length

/-- Absorption of blocks of `rate` bytes. -/
def absorb (rate : Nat) : Nat → List Byte → List Nat → List Nat
  | 0, _, s => s
  | n + 1, l, s => keccakRounds keccakRc
      ((List.range 25).map (fun i => s.getD i 0 ^^^ (if 8 * i < rate then leNat ((l.drop (8 * i)).take 8) else 0)))
      (fun t => absorb rate n (l.drop rate) t)

/-- SHA-3 with a rate and an output length in bytes (FIPS 202). -/
def sha3 (rate out : Nat) (l : List Byte) : Nat :=
  let q := rate - l.length % rate
  let m := l ++ (if q = 1 then [0x86] else [0x06] ++ List.replicate (q - 2) 0 ++ [0x80])
  beNat (((absorb rate (m.length / rate) m (List.replicate 25 0)).flatMap (leBytes 8)).take out)

/-- The digest of a message as a number, by hash code of R197: 1 SHA-1, 2 SHA-224, 3 SHA-256, 4 SHA-384, 5 SHA-512, 6 SHA3-256, 7 SHA3-384,
8 SHA3-512. -/
@[irreducible] def hashValue (code : Nat) (l : List Byte) : Nat :=
  match code with
  | 1 => sha1 l
  | 2 => sha224 l
  | 3 => sha256 l
  | 4 => sha384Nat l
  | 5 => sha512 l
  | 6 => sha3 136 32 l
  | 7 => sha3 104 48 l
  | 8 => sha3 72 64 l
  | _ => 0

end Sys2Proof.Machine
end

