-- ==== Sys2Proof/Machine/Tab.lean ====
section
/-! DEFINITION. Sparse data: a list of key and value pairs with strictly rising keys, and the byte buffers of the mailbox
windows, which list no byte equal to what an unlisted address reads as. -/

namespace Sys2Proof

/-- A sparse table: pairs of key and value, keys strictly rising. -/
abbrev Tab (α : Type) := List (Nat × α)

/-- The entry under a key. -/
def Tab.find {α : Type} : Tab α → Nat → Option α
  | [], _ => none
  | (j, v) :: t, k => if j = k then some v else Tab.find t k

/-- The entry under a key, or the value an absent entry stands for. -/
def Tab.getD {α : Type} (t : Tab α) (k : Nat) (d : α) : α := (Tab.find t k).getD d

/-- Stores an entry in its place. -/
def Tab.put {α : Type} : Tab α → Nat → α → Tab α
  | [], k, v => [(k, v)]
  | (j, w) :: t, k, v =>
    if k < j then (k, v) :: (j, w) :: t else if k = j then (k, v) :: t else (j, w) :: Tab.put t k v

/-- Removes what is stored under a key. -/
def Tab.del {α : Type} : Tab α → Nat → Tab α
  | [], _ => []
  | (j, w) :: t, k => if j = k then Tab.del t k else (j, w) :: Tab.del t k

/-- Changes the entry under a key, an absent one standing for `d`. -/
def Tab.upd {α : Type} (t : Tab α) (k : Nat) (d : α) (f : α → α) : Tab α := Tab.put t k (f (Tab.getD t k d))

/-- Keys strictly rise from `lo` on. -/
def Tab.sortedFrom {α : Type} : Nat → Tab α → Bool
  | _, [] => true
  | lo, (k, _) :: t => decide (lo ≤ k) && Tab.sortedFrom (k + 1) t

/-- The canonical form of a table. -/
def Tab.wf {α : Type} (t : Tab α) : Bool := Tab.sortedFrom 0 t

/-- An addressed buffer: offsets strictly rising, no byte equal to 0, which is what an unlisted offset reads as. -/
abbrev Mem := Tab Byte

/-- One byte of a buffer. -/
def Mem.read (m : Mem) (a : Nat) : Byte := Tab.getD m a 0

/-- Writes one byte, keeping the canonical form. -/
def Mem.write (m : Mem) (a : Nat) (b : Byte) : Mem := if b = 0 then Tab.del m a else Tab.put m a b

/-- Writes a run of bytes from an offset. -/
def Mem.writeAll : Mem → Nat → List Byte → Mem
  | m, _, [] => m
  | m, a, b :: bs => Mem.writeAll (Mem.write m a b) (a + 1) bs

/-- Reads a run of bytes from an offset. -/
def Mem.readAll (m : Mem) (a : Nat) : Nat → List Byte
  | 0 => []
  | n + 1 => Mem.read m a :: Mem.readAll m (a + 1) n

/-- No listed byte reads as an unlisted one. -/
def Mem.noZero : Mem → Bool
  | [] => true
  | (_, b) :: t => decide (b ≠ 0) && Mem.noZero t

/-- The canonical form of a buffer. -/
def Mem.wf (m : Mem) : Bool := Tab.wf m && Mem.noZero m

end Sys2Proof
end

