-- ==== Sys2Proof/Machine/Parts.lean ====
section
/-! DEFINITION. The state of each part of the device as plain data, and what leaves the device. A default is the value after a
reset; a part's persistent fields (Skerry, fuses) say so. -/

namespace Sys2Proof.Machine

/-- What leaves the device, in the order it leaves (R50). The log of it is the model's own: DESIGN CHOICE, safe (assumption 108). -/
inductive Out where
  /-- A descriptor read issued under the slice's PASID (R49, R59). -/
  | fetch (slice ring index pasid addr : Nat)
  /-- Output data of an item under its PASID (R50). -/
  | data (pasid addr : Nat) (bytes : List Byte)
  /-- A 64-byte completion record at an address of the completion ring (R57). -/
  | completion (pasid addr : Nat) (bytes : List Byte)
  /-- An interrupt message of the interrupt message store, mode 0 (R62). -/
  | message (addr data : Nat)
  /-- An MSI-X message (R63). -/
  | msix (vector : Nat)
  /-- Mailbox DMA output (R261). -/
  | mailboxData (addr : Nat) (bytes : List Byte)
  /-- A counter snapshot (R421). -/
  | dump (addr : Nat) (bytes : List Byte)
  /-- The answer to a BAR access: its kind, and the value a read returns (R36). -/
  | barAnswer (a : BarAnswer) (value : Nat)
  /-- Answer to a configuration request: `true` is Configuration Request Retry Status (R33). -/
  | configAnswer (retry : Bool)
  /-- A DOE response: request code, 1 where it is `ERROR`, and its data (R68). -/
  | doe (request error : Nat) (data : List Byte)
  | hello (serial : Nat) (nonce : List Byte) (mode : Option Nat)
  | heartbeat (journalSeq state time : Nat) (epoch ready : Bool) (fw : Nat)
  | journalReq (step : Step)
  | journal (e : Entry)
  | journalAck (seq : Nat)
  | resync (m : ResyncMsg)
  | relinquish (seq : Nat)
  | control (m : ControlMsg)
  /-- A service-port response frame as driven, or `BOOT_STATUS` (R431). -/
  | service (bytes : List Byte)
deriving DecidableEq, Repr

/-- Resets begun 100 µs after a response (R285, R367 to R369). -/
inductive Sched100 where
  | devReset | lcClose | lcScrap | debugReopen
deriving DecidableEq, Repr

/-- The Skerry share (R101). -/
inductive Share where
  | blank | erased | written
deriving DecidableEq, Repr

/-- Reset, start-up, time base and the fault registers (01, 11, 15). -/
structure Sys where
  /-- The main supplies are on. -/
  powered : Bool := true
  /-- Held in reset: by `RESET_n`, or by `PERST_n` after a device reset (R424). -/
  inReset : Bool := false
  /-- A reset by `RESET_n` is in force, or power is off: the service port is down as well (R424). -/
  resetLow : Bool := false
  perstHigh : Bool := false
  /-- Model's own: low pulses of `RESET_n` of 20 to 100 ns so far, the argument of the free value `Config.shortPulse` (R461). -/
  pulses : Nat := 0
  pairEn : Bool := false
  preferPrimary : Bool := false
  /-- What the boot ROM senses of the fuses at each start: life cycle 0 OPEN, 1 CLOSED, 2 invalid; ordering code; serial. -/
  lc : Nat := 0
  pg40 : Bool := false
  serial : Nat := 0
  /-- Time base, 63 bits, in ns; `epoch` is clear until `TIME_SET` (R25, R401). -/
  time : Nat := 0
  epoch : Bool := false
  /-- Time since the reset was released, in ns; never set by `TIME_SET`. -/
  uptime : Nat := 0
  /-- `RESET_CAUSE`[5:0] (R426). -/
  cause : BitVec 6 := 1
  /-- `BOOT_STATUS.STAGE` and `HALT_CAUSE` (R426). -/
  stage : Nat := 0
  haltCause : Nat := 0
  bootMs : Nat := 0
  /-- Readings of the PUF array in this start, and whether its response corrected (R101). -/
  pufReads : Nat := 0
  pufOk : Bool := true
  /-- The CP runs an image. -/
  cpUp : Bool := false
  /-- `DEV_STATUS.CP_RESTART` (R264). -/
  cpRestart : Bool := false
  /-- The last CP restart belongs to an activation, whose request is answered with `ABANDONED` clear (R264). -/
  cpActivation : Bool := false
  /-- Uptimes of the last CP resets, and of the last watchdog kick (R330). -/
  cpResets : List Nat := []
  watchdogKick : Nat := 0
  ready : Bool := false
  scheduled : Option Sched100 := none
  linkSpeed : Nat := 64
  linkWidth : Nat := 16
  /-- Persistent (Skerry): the KSK share (R17, R101). -/
  share : Share := .blank
  /-- Persistent: record `0x1010` is owed once the new image runs (R356). -/
  startOwed : Bool := false
  /-- The KSK and the region keys exist (R101). -/
  ksk : Bool := false
  /-- `FAULT_STATUS` (R346). -/
  faultStatus : BitVec 32 := 0
  corrCount : Nat := 0
  gateViolCount : Nat := 0
  gateViolInfo : BitVec 64 := 0
  gateViolAddr : BitVec 64 := 0
  lastFence : BitVec 32 := 0
deriving DecidableEq, Repr

/-- Units fenced until the next reset (R327, R345), and Mule's record of its tests (R331, R333). -/
structure Fences where
  tc : BitVec 64 := 0
  pk : BitVec 24 := 0
  ce : BitVec 16 := 0
  de : BitVec 8 := 0
  bank : BitVec 16 := 0
  drbg : BitVec 16 := 0
  /-- Units fenced at start (R450 record `0x0002`). -/
  atStart : Nat := 0
  /-- Uptime of Mule's last progress report (R333). -/
  muleProgress : Nat := 0
  /-- Checkers tested since reset, with the uptime of the last test (R331). -/
  tested : List (Checker × Nat) := []
deriving DecidableEq, Repr

/-- An MSI-X table entry (R35). -/
structure MsixEntry where
  addr : Nat := 0
  data : Nat := 0
  masked : Bool := true
deriving DecidableEq, Repr

/-- One IDE stream (R67): 0 to 7 selective, 8 link IDE. -/
structure IdeStream where
  keyed : Bool := false
  insecure : Bool := false
deriving DecidableEq, Repr

/-- A secured SPDM session (R68, R272): finished, its nonce, and the authority and Officer it is bound to. -/
structure SpdmSession where
  finished : Bool := false
  nonce : Option (List Byte) := none
  bound : Option (Nat × Nat) := none
  updates : Nat := 0
deriving DecidableEq, Repr

/-- The host interface (02). -/
structure Hif where
  /-- `HIF_ERR_STATUS`, `HIF_ERR_LOG`, `SPOOF_TOTAL` (R37, R41). -/
  err : BitVec 32 := 0
  errLog : BitVec 64 := 0
  spoofTotal : Nat := 0
  /-- Persistent (configuration): `HIF_CONFIG`[0] (R287). -/
  ideRequired : Bool := false
  vc1Enable : Bool := false
  tc7Alone : Bool := false
  relaxedOrdering : Bool := false
  cplTimeout : Nat := 0
  msixEnable : Bool := false
  msix : Tab MsixEntry := []
  /-- Pending bit array: vectors signalled while masked (R35). -/
  pba : List Nat := []
  ide : Tab IdeStream := []
  /-- SPDM negotiation: version got, capabilities got, algorithms negotiated (R68). -/
  spdmPhase : Nat := 0
  spdm : Tab SpdmSession := []
  spdmNext : Nat := 1
  /-- AER: uncorrectable and correctable error status bits (R66), one flag per cause of this device. -/
  aerUnsupported : Bool := false
  aerCompleterAbort : Bool := false
  aerTimeout : Bool := false
  aerIde : Bool := false
  aerAdvisory : Bool := false
  /-- Slice last served by the fetch round-robin (R49). -/
  rrSlice : Nat := 4095
deriving DecidableEq, Repr

/-- A ring pair's volatile part (R47 to R50, R65). -/
structure RingDyn where
  enabled : Bool := false
  halted : Bool := false
  /-- Submission head, accepted tail, accepted completion head, completion write index. -/
  head : Nat := 0
  tail : Nat := 0
  cHead : Nat := 0
  write : Nat := 0
  phase : Bool := true
  /-- Ring indices of the fetches issued and not yet arrived, oldest first. -/
  fetches : List Nat := []
  /-- Descriptors fetched whose completion record is not yet written. -/
  inflight : Nat := 0
  /-- A ring-halt record is owed (R65). -/
  haltOwed : Bool := false
deriving DecidableEq, Repr

/-- An interrupt message store entry (R61, R62). -/
structure IrqEntry where
  addr : Nat := 0
  data : Nat := 0
  masked : Bool := true
  pending : Bool := false
  msixMode : Bool := false
  vector : Nat := 0
deriving DecidableEq, Repr

/-- A quiesce in progress (R305): the mailboxes that wait for it, its start in ns of uptime, and its counts. -/
structure Drain where
  mailboxes : List Nat := []
  start : Nat := 0
  drained : Nat := 0
  aborted : Nat := 0
  last : Nat := 0
deriving DecidableEq, Repr

/-- A staged LMK component (R290): generation, part, Officer, bytes. -/
structure Staged where
  gen : Nat
  part : Nat
  officer : Nat
  bytes : List Byte
deriving DecidableEq, Repr

/-- One slice: its persistent record and its volatile part (10). -/
structure Slice where
  /-- Persistent (Skerry, mirrored). -/
  per : SliceRec := {}
  /-- `SLICE_STATUS.STATE` (R44). -/
  state : SliceState := .free
  spoof : Bool := false
  dbErr : Bool := false
  dmaErr : Bool := false
  spoofCount : Nat := 0
  dbErrCount : Nat := 0
  rings : Tab RingDyn := []
  /-- Ring last served by the fetch round-robin (R49), flow last served by dispatch (R82). -/
  rrRing : Nat := 7
  rrFlow : Nat := 65535
  intake : Bool := false
  drain : Option Drain := none
  /-- Saved since frozen (R306). -/
  saved : Bool := false
  irq : IrqEntry := {}
  staged : List Staged := []
  /-- `INDEX` of the next kind 2 handle (R129). -/
  nextHandle : Nat := 1
deriving DecidableEq, Repr

/-- Where an item is (R75 to R78, R82 to R84, R93). -/
inductive Place where
  | ready
  | running (core thread : Nat)
  | preempted (core slot : Nat)
  | stalled (core thread : Nat)
  | parked (core slot : Nat)
  | reorder
  /-- Finished without a thread and waiting for a reorder entry (R77). -/
  | held
deriving DecidableEq, Repr

/-- What a running item waits for. -/
inductive Wait where
  | none
  /-- A reservation of a slot (R120). -/
  | reservation (slot : Nat)
  /-- Random output (R250). -/
  | rng
  /-- An engine request (R180). -/
  | engine
  /-- A state-changing step (R116). -/
  | step
deriving DecidableEq, Repr

/-- An item's final result: status, output for `OUT_ADDR` or the inline area, the opcode's fixed result, `TRUNC`. -/
structure Res where
  status : Status
  out : List Byte := []
  fixed : List Byte := []
  trunc : Bool := false
deriving DecidableEq, Repr

/-- What a finished result still has to deliver (R133, R224): nothing, a step, or a key as a kind 2 handle. -/
inductive After where
  | nothing
  | step (k : StepKind)
  | handle (key : Key)
deriving DecidableEq, Repr

/-- A key as an item copied it at its lookup (R126): the slot and version it came from, and the first count drawn for it. -/
structure Copy where
  key : Key
  slot : Option (Nat × Nat) := none
  count : Nat := 0
deriving DecidableEq, Repr

/-- One item in flight (R57, R74). -/
structure Item where
  slice : Nat
  ring : Nat
  /-- The 128 bytes of its descriptor (R51). -/
  desc : List Byte
  /-- None for an item completed directly (R53, R72, R73). -/
  seq : Option Nat := none
  place : Place := .ready
  res : Option Res := none
  wait : Wait := .none
  retried : Bool := false
  /-- Taken back by a fence: ahead of every undispatched item of its flow (R89). -/
  front : Bool := false
  /-- The CP has ordered it aborted (R93). -/
  abort : Bool := false
  /-- Sheepdog has interrupted its core to preempt it (R84). -/
  preempt : Bool := false
  unmirrored : Bool := false
  /-- The input as its DMA delivered it, held while the item waits (R120, R250). -/
  run : Option Run := none
  /-- Its keys in key scratch, in the thread's partition or the save slot, once its counts are drawn (R88, R126). -/
  copies : List Copy := []
  /-- An engine result that waits in the core's completion queue until the item runs again (R84). -/
  queued : Option (Res × After) := none
  /-- Order of its last dispatch (R83) and of its wait for a reorder entry (R77). -/
  stamp : Nat := 0
  waitStamp : Nat := 0
deriving DecidableEq, Repr

/-- A flow context (R71). -/
structure Flow where
  kind : FlowType
  nextSeq : Nat := 0
  nextRel : Nat := 0
deriving DecidableEq, Repr

/-- The rule set active for a thread (R86, R341): none yet, a slice's set, or the CP-work set. -/
inductive RuleTag where
  | none
  | slice (s : Nat)
  | cpWork
deriving DecidableEq, Repr

/-- One hardware thread (R82, R86). -/
structure Thread where
  item : Option Nat := none
  /-- Slice the thread last served. -/
  last : Option Nat := none
  active : RuleTag := .none
  shadow : RuleTag := .none
deriving DecidableEq, Repr

/-- Sheepdog (03). Flows are keyed slice × 65,536 + `FLOW_ID`, threads core × 4 + thread, items by acceptance. -/
structure Sched where
  items : Tab Item := []
  nextItem : Nat := 0
  flows : Tab Flow := []
  threads : Tab Thread := []
  rrSlice : Nat := 4095
  clock : Nat := 0
deriving DecidableEq, Repr

/-- What a cache entry was filled from (R123). -/
inductive CacheSrc where
  | slot (n version : Nat)
  /-- Kind 1: generation, then the MAC field and encrypted key field as presented. -/
  | block (gen : Nat) (fields : List Byte)
  | eph (handle : Nat)
  | lmk (gen part : Nat)
deriving DecidableEq, Repr

/-- One key in the cache (R122, R123): the entries it takes, all of one bank. -/
structure CacheEnt where
  slice : Nat
  src : CacheSrc
  key : Key := {}
  pinned : Bool := false
  size : Nat := 1
  bank : Nat := 0
  /-- A kind 2 handle whose bank was fenced (R128). -/
  damaged : Bool := false
deriving DecidableEq, Repr

/-- The key cache (04). -/
structure Keys where
  cache : Tab CacheEnt := []
  nextEnt : Nat := 0
  /-- Position of the clock sweep (R125). -/
  hand : Nat := 0
deriving DecidableEq, Repr

/-- One engine request (R180, R211): the item, its result when done and what follows it, the data bytes it processes. -/
structure EngReq where
  pool : Pool
  item : Nat
  prio : Nat
  arrival : Nat
  res : Res
  after : After := .nothing
  bytes : Nat := 0
deriving DecidableEq, Repr

/-- One engine: its request, and whether the request is being aborted (R205, R237). -/
structure Engine where
  cur : Option EngReq := none
  aborting : Bool := false
  /-- Tag of the rule set of its request (R342). -/
  rules : RuleTag := .none
deriving DecidableEq, Repr

/-- The engine pools (06, 07). -/
structure Engines where
  ce : Tab Engine := []
  de : Tab Engine := []
  pk : Tab Engine := []
  queue : List EngReq := []
  arrivals : Nat := 0
deriving DecidableEq, Repr

/-- A DRBG instance (R245 to R248). -/
structure Drbg where
  seeded : Bool := false
  /-- Generate requests since its last instantiation or reseed. -/
  gens : Nat := 0
  /-- Must be reseeded before it serves again (R248 hard limit, R256). -/
  stopped : Bool := false
  /-- Bytes left in its output buffer. -/
  buffer : Nat := 0
deriving DecidableEq, Repr

/-- A raw-sample run (R255): mailbox, source, mode. -/
structure RawRun where
  mailbox : Nat
  source : Nat
  mode : Nat
deriving DecidableEq, Repr

/-- The random number generator (08). -/
structure Rng where
  src : List SrcState := [.startup, .standby, .standby, .standby, .standby, .standby]
  kat : Bool := false
  /-- Finished blocks awaiting their window, and blocks in the conditioned queue (R242). -/
  held : Nat := 0
  queue : Nat := 0
  inst : Tab Drbg := []
  /-- Instances with a reseed due, in the order it became due (R247). -/
  due : List Nat := []
  failed : Bool := false
  raw : Option RawRun := none
  /-- Model's own: bytes drawn so far, the argument of the free value `Config.randomByte`. -/
  drawn : Nat := 0
deriving DecidableEq, Repr

/-- Mailbox handshake states (R260); `MB_STATUS` reads UNAVAIL while the CP restarts. -/
inductive MbState where
  | idle | busy | done
deriving DecidableEq, Repr

/-- A response ready to be written (R266). -/
structure Resp where
  status : Status
  opcode : Nat := 0
  reqId : Nat := 0
  body : List Byte := []
  outLen : Nat := 0
  unmirrored : Bool := false
  eventSeq : Nat := 0
deriving DecidableEq, Repr

/-- What a BUSY mailbox waits for. -/
inductive MbWait where
  | none
  /-- The CP to take up a request submitted by a `GO` write. -/
  | submitted
  /-- A state-changing step (R282). -/
  | step
  /-- A slice's drain (R305). -/
  | quiesce (slice : Nat)
  /-- A seeded DRBG (R250). -/
  | rng
  /-- A raw-sample run (R256). -/
  | raw
  /-- An activation (R445). -/
  | activation
  /-- A pair formation (R377). -/
  | pair
  /-- The recorder's acceptance of a held record (R266). -/
  | record (r : Resp)
deriving DecidableEq, Repr

/-- One management mailbox (R259, R260). -/
structure Mailbox where
  state : MbState := .idle
  abandoned : Bool := false
  rejected : Bool := false
  reqId : Nat := 0
  irqEn : Bool := true
  qseq : Nat := 0
  nonce : Option (List Byte) := none
  window : Mem := []
  response : Mem := []
  /-- The operation and request in service. -/
  cur : Option (MOp × MbReq) := none
  wait : MbWait := .none
  /-- Number of the last record the request in service has written, 0 for none (R266). -/
  lastRec : Nat := 0
  /-- The window and doorbell accesses of the request all came inside an IDE stream (R287). -/
  ide : Bool := true
deriving DecidableEq, Repr

/-- A mailbox session (R270, R271). -/
structure Session where
  scope : Nat
  officer : Nat
  lastReq : Option Nat := none
  /-- The request key and the response key. -/
  key : List Byte := []
  /-- Uptime of its last request. -/
  used : Nat := 0
deriving DecidableEq, Repr

/-- Roles of a migration key entry (R316). -/
inductive MigRole where
  | offered | outgoing | incoming
deriving DecidableEq, Repr

/-- A migration key entry (R316). -/
structure MigKey where
  keyId : Nat
  role : MigRole
  partner : Nat := 0
  key : List Byte := []
deriving DecidableEq, Repr

/-- The control processor's management state (09, 10). -/
structure Mgmt where
  boxes : Tab Mailbox := []
  sessions : Tab Session := []
  nextSession : Nat := 1
  /-- Persistent (Skerry, mirrored): the device Officer set (R273). -/
  officers : OfficerSet := {}
  migration : Tab MigKey := []
  nextKeyId : Nat := 1
deriving DecidableEq, Repr

/-- One alarm-log entry (R361). -/
structure Alarm where
  time : Nat
  epoch : Bool
  source : Nat
  response : Nat
  powerUp : Bool
  erasing : Bool
deriving DecidableEq, Repr

/-- Goose, the life cycle's volatile part and debug (12, 16). -/
structure Goose where
  armed : Bool := false
  asserted : BitVec 12 := 0
  latched : BitVec 12 := 0
  /-- Latched sources that have not cleared under R348. -/
  uncleared : BitVec 12 := 0
  lowered : BitVec 12 := 0
  lock : Bool := false
  eraseRunning : Bool := false
  erased : Bool := false
  /-- An Erase has begun since reset (R353). -/
  eraseBegun : Bool := false
  /-- The volatile erase of step 3 is complete (R354). -/
  volatileDone : Bool := false
  alarmOut : Bool := false
  logFull : Bool := false
  log : List Alarm := []
  /-- `EXT_TAMPER_MON` (R361), and the phases each line has completed since `RESET_n` (R351). -/
  aValid : Bool := false
  bValid : Bool := false
  aPhase : Nat := 0
  bPhase : Nat := 0
  aPhases : Nat := 0
  bPhases : Nat := 0
  tjMax : BitVec 16 := 0
  tjMin : BitVec 16 := 0
  /-- The check of the external lines at 0.9 ms after the release of `RESET_n` is still due (R351). -/
  checkDue : Bool := true
  /-- Shield patterns driven since reset (R348). -/
  pattern : Nat := 0
deriving DecidableEq, Repr

/-- Debug and the TAP (R364, R369, R464). -/
structure Debug where
  /-- `LC_STATUS.DEBUG_OPEN` by a reopening. -/
  reopened : Bool := false
  /-- The last TAP instruction loaded; 1 stands for BYPASS, 2 for IDCODE. -/
  ir : Nat := 2
  challenge : Option Nat := none
  challenges : Nat := 0
  nonce : List Byte := []
deriving DecidableEq, Repr

/-- Where a state-changing step came from. -/
inductive Origin where
  | item (id : Nat)
  | mailbox (m : Nat)
  | device
deriving DecidableEq, Repr

/-- How far a step has come (R384, R390). -/
inductive Phase where
  /-- Waits for PAIRED or SOLO. -/
  | waiting
  /-- In the commit path of a device without a partner (R325). -/
  | committing
  /-- Sequenced and journalled by this primary, awaiting `JOURNAL_ACK`. -/
  | sequenced (seq : Nat)
  /-- Sent to the primary in a `JOURNAL_REQ`. -/
  | requested
deriving DecidableEq, Repr

/-- A step under way. -/
structure Pend where
  step : Step
  origin : Origin
  phase : Phase
  /-- Result of the originating item, before the slot version is known (R134). -/
  draft : Res := { status := .ok }
  /-- The partner originated it. -/
  foreign : Bool := false
  /-- Both journals hold it; its effect waits for items that have looked up what it replaces (R119). -/
  mirrored : Bool := false
deriving DecidableEq, Repr

/-- What the pair timer counts from (R382, R389). -/
inductive PairTimer where
  | off | ready | loss
deriving DecidableEq, Repr

/-- The pair (13). -/
structure Pair where
  state : PairState := .unpaired
  role : Role := .none
  lanes : Nat := 0
  training : Bool := false
  /-- The pair transport key exists (R374). -/
  key : Bool := false
  /-- Frames sent under the key in this direction (R374). -/
  frames : Nat := 0
  /-- Own `HELLO` nonce. -/
  nonce : List Byte := []
  helloSent : Bool := false
  /-- A partner's `HELLO` has passed check 1 (R382). -/
  seen : Bool := false
  timer : PairTimer := .off
  missed : Nat := 0
  lossCount : Nat := 0
  partnerSeq : Nat := 0
  commonSeq : Nat := 0
  partnerReady : Bool := false
  partnerFw : Nat := 0
  /-- The time base counts at half rate until aligned, this many ns ahead (R386). -/
  ahead : Nat := 0
  /-- `RELINQUISH` sent: nothing more commits until a pair forms (R388). -/
  relinquished : Bool := false
  /-- A full resynchronisation is running, and the KiB received (R392). -/
  resync : Bool := false
  resyncKib : Nat := 0
  /-- This journal's position when the pair began to form. -/
  formSeq : Nat := 0
  /-- Steps are held for a switchover (R395). -/
  held : Bool := false
  /-- The `PAIR` command in service: mode, partner serial, mailbox (R377). -/
  cmd : Option (Nat × Nat × Nat) := none
  steps : List Pend := []
deriving DecidableEq, Repr

/-- The pair's persistent part (Skerry): the journal, the recorded partner, the pair timeout, and the position of the last
common entry. -/
structure PairStore where
  journal : List Entry := []
  seq : Nat := 0
  chain : BitVec 128 := 0
  partner : Nat := 0
  timeoutMs : Nat := 2000
deriving DecidableEq, Repr

/-- A request at the recorder's port (R404). -/
structure EvReq where
  code : Nat
  source : Nat
  p1 : Nat
  p2 : Nat
  time : Nat
  epoch : Bool
  suppressed : Nat := 0
deriving DecidableEq, Repr

/-- A stored record (R401). -/
structure EvRec where
  seq : Nat
  req : EvReq
  /-- Written under the present KSK (R407). -/
  readable : Bool := true
  /-- Its slot fails authentication (R103, R411). -/
  damaged : Bool := false
deriving DecidableEq, Repr

/-- The event recorder (14). The areas, the reservation end, the clear mark and the rates are persistent. -/
structure Recorder where
  queue : List EvReq := []
  /-- Requests of exempt classes held by their raising units (R406). -/
  held : List EvReq := []
  /-- Next `SEQ` to be written. -/
  head : Nat := 0
  resEnd : Nat := 0
  clearMark : Nat := 0
  circ : Tab EvRec := []
  perm : Tab EvRec := []
  /-- Rate and burst by code, where not the default (R410). -/
  rates : Tab (Nat × Nat) := []
  /-- Tokens missing from a full bucket, by code (R408). -/
  spent : Tab Nat := []
  suppressed : Tab Nat := []
  /-- Suppressions of the 10 s window, by code (R409). -/
  window : Tab Nat := []
deriving DecidableEq, Repr

/-- A performance counter (R416, R417). -/
structure Ctr where
  value : Nat := 0
  ovf : Bool := false
  enabled : Bool := false
  grant : Option (Nat × Nat) := none
  event : Nat := 0
  eventMask : Nat := 0
  priv : Nat := 0
  master : Nat := 0
  masterMask : Nat := 0
  sliceEn : Bool := false
  slice : Nat := 0
  addrEn : Bool := false
  base : Nat := 0
  pages : Nat := 0
  target : Nat := 0
deriving DecidableEq, Repr

/-- A bandwidth monitor (R420). -/
structure Bwmon where
  window : Nat := 0
  last : Nat := 0
  peak : Nat := 0
  peakTime : Nat := 0
deriving DecidableEq, Repr

/-- Counters, monitors and the dump engine (14). -/
structure Counters where
  ctr : Tab Ctr := []
  mon : Tab Bwmon := []
  dumpAddr : Nat := 0
  dumpSlots : Nat := 0
  dumpPeriod : Nat := 0
  dumpSignal : Bool := false
  dumpSeq : Nat := 0
  /-- Snapshots skipped since the last written, and since enabling (R421). -/
  missed : Nat := 0
  dumpMissed : Nat := 0
deriving DecidableEq, Repr

/-- Staging states (R443). -/
inductive Staging where
  | none | receiving | verifying | staged | activating
deriving DecidableEq, Repr

/-- A firmware bank (persistent): version word, security version and digest of its image, and the image (R438, R440). -/
structure Bank where
  fw : Nat
  sec : Nat
  digest : List Byte
  image : List Byte := []
  /-- An Owner block lies beside it (R438). -/
  owner : Bool := false
deriving DecidableEq, Repr

/-- Firmware, staging, activation and the service port (15). -/
structure Firmware where
  /-- Persistent: the banks, and the active-bank pointer where one is readable. -/
  bank0 : Option Bank := none
  bank1 : Option Bank := none
  active : Option Nat := none
  staging : Staging := .none
  /-- Package bytes received, and the total announced (R441). -/
  package : List Byte := []
  total : Nat := 0
  /-- `LAST_RESULT` (R448). -/
  lastResult : Nat := 0
  staged : Option Bank := none
  stagedKind : Nat := 0
  /-- Activation step reached (R445), and the mailbox that waits for it. -/
  step : Nat := 0
  mailbox : Option Nat := none
  /-- Response frame waiting to be read (R431, R434). -/
  response : Option (List Byte) := none
  /-- A request accepted whose response is not yet written: type and sequence. -/
  unanswered : Option (Nat × Nat) := none
deriving DecidableEq, Repr

/-- Ordering codes (R2). -/
inductive Part where
  | pg64 | pg40
deriving DecidableEq, Repr

/-- The fuses (R363, R376, R447) and what manufacture fixes. No reset changes them. -/
structure Fuses where
  part : Part := .pg64
  serial : BitVec 64 := 0
  lc0 : BitVec 64 := 0
  lc1 : BitVec 64 := 0
  lc2 : BitVec 64 := 0
  disable0 : BitVec 12 := 0
  disable1 : BitVec 12 := 0
  raise0 : BitVec 12 := 0
  raise1 : BitVec 12 := 0
  eraseCount : BitVec 64 := 0
  debugReopen : BitVec 8 := 0
  reopenLogged : BitVec 8 := 0
  ownerRoot : BitVec 384 := 0
  secVersion : BitVec 64 := 0
  pg0 : BitVec 128 := 0
  pg1 : BitVec 128 := 0
  pg2 : BitVec 128 := 0
  pg3 : BitVec 128 := 0
  pgRevoke : BitVec 4 := 0
  /-- Fuse seed, PUF helper data and check digest, and the trims, all blown (R368). -/
  secretsBlown : Bool := false
deriving DecidableEq, Repr

/-- Everything of the device but its fuses. -/
structure Dev where
  sys : Sys := {}
  fen : Fences := {}
  hif : Hif := {}
  slices : Tab Slice := []
  sched : Sched := {}
  keys : Keys := {}
  eng : Engines := {}
  rng : Rng := {}
  mg : Mgmt := {}
  goose : Goose := {}
  dbg : Debug := {}
  pair : Pair := {}
  store : PairStore := {}
  log : Recorder := {}
  ctr : Counters := {}
  fw : Firmware := {}
  /-- What has left the device, newest first. -/
  out : List Out := []
deriving DecidableEq, Repr

end Sys2Proof.Machine
end

