-- ==== Sys2Proof/Machine/State.lean ====
section
/-! DEFINITION. The state of the device, the reasons a step can stop, and the state after reset. -/

namespace Sys2Proof.Machine

/-- Why the device stops with a fault. -/
inductive Fault where
  /-- Raised by a command whose operand names a mailbox, core, thread, engine, bank, instance, source, monitor, ring or slice that
  the part does not have. Safe: the hardware has no such unit for anything to happen in. -/
  | noSuchUnit
deriving DecidableEq, Repr

/-- Why a command has no meaning. -/
inductive Refusal where
  /-- Raised by an arm of `exec` whose command has no meaning yet. Safe. -/
  | notModelled (mnemonic : String)
  /-- Raised by `TEST` in OPEN: Chohedar manufacturing commands, whose effect the manual does not give (R435). Safe. -/
  | vendorTest
deriving DecidableEq, Repr

/-- The device, its fuses, and the commands that wait, first in first out (the queue is a DESIGN CHOICE, safe: assumption 1). -/
structure State where
  dev : Dev
  fuse : Fuses
  pending : List Instr
deriving DecidableEq, Repr

/-- Right after the release of `RESET_n` at the first start after manufacture: a PG64-A in OPEN with blank Skerry and no image, its
fuses sensed, its PUF response corrected, Goose armed and the known-answer tests passed (R2, R101, R254, R424, R427). What the manual gives no reset value for is zero or empty:
DESIGN CHOICE, unsafe (assumptions 8, 15 and 16). -/
def State.reset : State :=
  { dev := { sys := { pufReads := 1 }, goose := { armed := true }, rng := { kat := true } }, fuse := {}, pending := [] }

end Sys2Proof.Machine
end

