-- ==== Sys2Proof/Machine/Ops.lean ====
section
/-! DEFINITION. The operations every part shares: slices, status word, event records, counters' events, interrupts, the random
supply, and the tick of the time base.
Marks: assumptions 3, 9, 13, 14. -/

namespace Sys2Proof.Machine

/-- What a step answers. -/
abbrev Ans := Host.Outcome State Fault Refusal

/-- A number's low byte, as a byte. -/
def byteOf (n : Nat) : Byte := BitVec.ofNat 8 (n % 256)

/-- Bit `i` of a mask of naturals. -/
def bitOf (b : Bool) (i : Nat) : Nat := if b then 2 ^ i else 0

/-- Field `[hi:lo]` of a number. -/
def bits (v hi lo : Nat) : Nat := v / 2 ^ lo % 2 ^ (hi + 1 - lo)

/-- Bit `i` of a number. -/
def bitAt (v i : Nat) : Bool := v / 2 ^ i % 2 == 1

/-- The first `n` bytes of a list, missing bytes 0. -/
def takeFill : Nat → List Byte → List Byte
  | 0, _ => []
  | n + 1, [] => 0 :: takeFill n []
  | n + 1, b :: l => b :: takeFill n l

/-- `n` bytes of a list from an offset, missing bytes 0. -/
def slice8 (l : List Byte) (o n : Nat) : List Byte := takeFill n (l.drop o)

/-- Exactly `n` bytes: cut or filled with zeros. -/
def fit (l : List Byte) (n : Nat) : List Byte := slice8 l 0 n

/-- All bytes 0 from `lo` up to `hi`. -/
def zeroFrom (l : List Byte) (lo hi : Nat) : Bool := (slice8 l lo (hi - lo)).all (· == 0)

/-- Writes bytes into a list at an offset. -/
def patch (l : List Byte) (o : Nat) (v : List Byte) : List Byte := l.take o ++ v ++ l.drop (o + v.length)

/-- `x` limited to `m`. -/
def sat (m x : Nat) : Nat := if m < x then m else x

/-- ASCII text as bytes. -/
def ascii (l : List Nat) : List Byte := l.map (BitVec.ofNat 8)

/-- Something leaves the device. -/
def emit (o : Out) (d : Dev) : Dev := { d with out := o :: d.out }

/-! ## Slices -/

/-- The slice of a number; an absent entry is FREE. -/
def sliceOf (d : Dev) (n : Nat) : Slice := Tab.getD d.slices n {}

/-- Changes one slice. -/
def modSlice (n : Nat) (f : Slice → Slice) (d : Dev) : Dev := { d with slices := Tab.upd d.slices n {} f }

/-- A ring pair's volatile part. -/
def ringOf (s : Slice) (r : Nat) : RingDyn := Tab.getD s.rings r {}

/-- Changes one ring pair of a slice. -/
def modRing (n r : Nat) (f : RingDyn → RingDyn) (d : Dev) : Dev :=
  modSlice n (fun s => { s with rings := Tab.upd s.rings r {} f }) d

/-- A ring pair's configuration (R302). -/
def ringCfg (s : Slice) (r : Nat) : RingCfg := s.per.rings.getD r {}

/-- A ring pair's size N (R48); 0 unconfigured. -/
def ringSize (s : Slice) (r : Nat) : Nat := if (ringCfg s r).log2 = 0 then 0 else 2 ^ (ringCfg s r).log2

/-- A slot of a slice; an absent entry is empty at version 0 (R114). -/
def slotOf (s : Slice) (k : Nat) : Slot := Tab.getD s.per.slots k {}

/-- Changes one slot. -/
def modSlot (n k : Nat) (f : Slot → Slot) (d : Dev) : Dev :=
  modSlice n (fun s => { s with per := { s.per with slots := Tab.upd s.per.slots k {} f } }) d

/-! ## Readiness and status -/

/-- The pair bits of `DEV_STATUS` (R379): PAIRED, SOLO, PAIR_DEGRADED. -/
def pairBits : PairState → Bool × Bool × Bool
  | .unpaired => (false, true, false)
  | .seeking | .forming => (false, false, false)
  | .paired => (true, false, false)
  | .waiting => (false, false, true)
  | .soloUnproven | .soloProven | .diverged => (false, true, true)

/-- A device fault stop is in force (R346). -/
def devFault (d : Dev) : Bool := d.sys.faultStatus.getLsbD 5

/-- `VC1_ACTIVE` (R64). -/
def vc1Active (d : Dev) : Bool := d.hif.vc1Enable && d.hif.tc7Alone

/-- `DEV_STATUS` (R40). PAIRED and SOLO read 0 before READY and in a device fault stop (R329). -/
def devStatus (d : Dev) : BitVec 32 :=
  let (p, so, dg) := pairBits d.pair.state
  let up := d.sys.ready && !devFault d
  BitVec.ofNat 32 (bitOf up 0 + bitOf (up && p) 1 + bitOf (up && so) 2 + bitOf (up && dg) 3
    + bitOf d.goose.lock 4 + bitOf d.goose.erased 5 + bitOf (vc1Active d) 6 + bitOf d.rng.failed 7 + bitOf d.sys.cpRestart 8)

/-- Signals an MSI-X vector: a message, or a pending bit while the vector is masked or MSI-X is disabled (R35, R63). -/
def signal (v : Nat) (d : Dev) : Dev :=
  let e := Tab.getD d.hif.msix v {}
  if d.hif.msixEnable && !e.masked then emit (.msix v) d
  else if d.hif.pba.contains v then d else { d with hif := { d.hif with pba := v :: d.hif.pba } }

/-- Applies a change and signals vector 8 when `DEV_STATUS` changes (R63). -/
def watch (f : Dev → Dev) (d : Dev) : Dev :=
  if devStatus (f d) = devStatus d then f d else signal 8 (f d)

/-- Sets a bit of `HIF_ERR_STATUS`, keeps the detail of the first, and signals vector 9 for a bit newly set (R41, R63). -/
def hifError (bit slice addr : Nat) (d : Dev) : Dev :=
  let old := d.hif.err
  let d1 := { d with hif := { d.hif with
    err := old ||| BitVec.ofNat 32 (2 ^ bit)
    errLog := if old = 0 then BitVec.ofNat 64 (bit + slice * 2 ^ 5 + addr % 2 ^ 32 * 2 ^ 32) else d.hif.errLog } }
  if old.getLsbD bit then d1 else signal 9 d1

/-! ## Event records -/

/-- Classes under the rate limit (R408). -/
def rateLimited (code : Nat) : Bool := [3, 4, 5, 6, 9].contains (code / 4096)

/-- Rate and burst in force for a code (R408, R410). -/
def rateOf (d : Dev) (code : Nat) : Nat × Nat := Tab.getD d.log.rates code (32, 256)

/-- No record is written while the life cycle is invalid, nor after an Erase (R355, R406). -/
def recorderSilent (d : Dev) : Bool := d.sys.lc == 2 || d.goose.volatileDone

/-- A suppressed request: its code's count and the window's count step (R408, R409). -/
def suppress (code : Nat) (d : Dev) : Dev :=
  { d with log := { d.log with
    suppressed := Tab.upd d.log.suppressed code 0 (fun n => sat 0xFFFF (n + 1))
    window := Tab.upd d.log.window code 0 (· + 1) } }

/-- A request accepted into the queue carries the code's suppressed count, which restarts at 0 (R408). -/
def accept (q : EvReq) (d : Dev) : Dev :=
  { d with log := { d.log with
    queue := d.log.queue ++ [{ q with suppressed := Tab.getD d.log.suppressed q.code 0 }]
    suppressed := Tab.del d.log.suppressed q.code } }

/-- A unit raises an event record (R404, R406, R408). -/
def raise (code source p1 p2 : Nat) (d : Dev) : Dev :=
  if recorderSilent d then d else
  let q : EvReq := { code, source, p1 := p1 % 2 ^ 32, p2 := p2 % 2 ^ 32, time := d.sys.time, epoch := d.sys.epoch }
  if rateLimited code then
    if d.log.queue.length < 256 && Tab.getD d.log.spent code 0 < (rateOf d code).2 then
      accept q { d with log := { d.log with spent := Tab.upd d.log.spent code 0 (· + 1) } }
    else suppress code d
  else if d.log.queue.length < 256 && d.log.held.isEmpty then accept q d
  else { d with log := { d.log with held := d.log.held ++ [q] } }

/-- Requests accepted or held and not yet written. -/
def eventsPending (d : Dev) : Nat := d.log.queue.length + d.log.held.length

/-- The next `SEQ` to be assigned: requests take numbers in the order in which they reach the port (R403). -/
def nextSeq (d : Dev) : Nat := d.log.head + eventsPending d

/-- `TIME` of a record or block: bit 63 set until `TIME_SET` (R401). -/
def stampTime (time : Nat) (epoch : Bool) : Nat := time + bitOf (!epoch) 63

/-- Time base now, in the encoding of event records. -/
def now (d : Dev) : Nat := stampTime d.sys.time d.sys.epoch

/-! ## Performance counters' events (R417, R418) -/

/-- Adds to a counter; at 2^48 it wraps and sets its sticky overflow bit (R415). -/
def ctrAdd (n : Nat) (c : Ctr) : Ctr :=
  { c with value := (c.value + n) % 2 ^ 48, ovf := c.ovf || decide (2 ^ 48 ≤ c.value + n) }

/-- Privilege class of a master or of the work it does (R417): 0 slice work, 1 CP work, 2 privileged. -/
def privOf (master : Nat) (cpw : Bool) : Nat := if cpw then 1 else if 0x100 ≤ master && master < 0x300 then 0 else 2

/-- An enabled counter's filters match an event (R417). -/
def ctrMatches (ev : Nat) (slice master : Option Nat) (cpw : Bool) (at_ : Option (Nat × Nat)) (c : Ctr) : Bool :=
  c.enabled && (ev &&& c.eventMask == c.event &&& c.eventMask)
  && (match master with
      | none => true
      | some m => bitAt c.priv (privOf m cpw) && (m &&& c.masterMask == c.master &&& c.masterMask))
  && (!c.sliceEn || slice == some c.slice)
  && (!c.addrEn || (match at_ with
      | some (t, a) => t == c.target && decide (c.base ≤ a) && decide (a < c.base + c.pages * 4096)
      | none => false))

/-- An event steps every counter it matches. -/
def count (ev n : Nat) (slice : Option Nat := none) (master : Option Nat := none) (cpw : Bool := false)
    (at_ : Option (Nat × Nat) := none) (d : Dev) : Dev :=
  { d with ctr := { d.ctr with ctr := d.ctr.ctr.map (fun (k, c) =>
      (k, if ctrMatches ev slice master cpw at_ c then ctrAdd n c else c)) } }

/-! ## Random output -/

/-- An instance serves: seeded, not stopped, not fenced (R248, R253). -/
def instServes (d : Dev) (n : Nat) : Bool :=
  let i := Tab.getD d.rng.inst n {}
  i.seeded && !i.stopped && !d.fen.drbg.getLsbD n

/-- At least one instance serves, and neither FAILED nor RAW holds (R250, R252, R256). -/
def rngServing (d : Dev) : Bool :=
  !d.rng.failed && d.rng.raw.isNone && (List.range 16).any (instServes d)

/-- Items draw: under a Lock or an Erase the instances serve the CP alone (R352, R355). -/
def rngForItems (d : Dev) : Bool := rngServing d && !d.goose.lock

/-- Random bytes from a position. -/
def randomBytes (pos n : Nat) : List Byte := (List.range n).map (fun i => Config.randomByte (pos + i))

/-- Delivers bytes: none is delivered twice (R245). -/
def draw (n : Nat) (d : Dev) : Dev :=
  count 0x7000 n none none false none { d with rng := { d.rng with drawn := d.rng.drawn + n } }

/-- The first instance that serves, from `k` on in ascending order, wrapping from 15 to 0 (R246). -/
def servingFrom (d : Dev) (k : Nat) : Option Nat :=
  ((List.range 16).map (fun i => (k + i) % 16)).find? (instServes d)

/-- Changes one instance. -/
def modInst (n : Nat) (f : Drbg → Drbg) (d : Dev) : Dev := { d with rng := { d.rng with inst := Tab.upd d.rng.inst n {} f } }

/-- Generate requests of an instance: each refills the buffer; a reseed falls due at 4,096 since the last, and at 1,048,576 the
instance stops serving with record `0x6007` (R245, R248). -/
def generate (n times : Nat) (d : Dev) : Dev :=
  let g := (Tab.getD d.rng.inst n {}).gens + times
  let d1 := modInst n (fun i => { i with gens := g, stopped := i.stopped || decide (1048576 ≤ g) }) d
  let d2 := if 4096 ≤ g ∧ !d.rng.due.contains n then { d1 with rng := { d1.rng with due := d1.rng.due ++ [n] } } else d1
  if 1048576 ≤ g ∧ !(Tab.getD d.rng.inst n {}).stopped then raise 0x6007 n n 0 d2 else d2

/-- Takes `n` bytes from the buffer of the instance a consumer is assigned to, or of the next that serves; generate requests refill a
buffer that runs out (R245, R246). -/
def charge (consumer n : Nat) (d : Dev) : Dev :=
  if n = 0 then d else
  match servingFrom d consumer with
  | none => d
  | some k =>
    let b := (Tab.getD d.rng.inst k {}).buffer
    let times := (n - b + 4095) / 4096
    let d1 := modInst k (fun i => { i with buffer := b + 4096 * times - n }) d
    if times = 0 then d1 else generate k times d1

/-- The bytes the next draw of `n` delivers. -/
def drawBytes (n : Nat) (d : Dev) : List Byte := randomBytes d.rng.drawn n

/-- A draw of the CP, which instance 15 serves (R246). -/
def cpDraw (n : Nat) (d : Dev) : Dev := charge 15 n (draw n d)

/-! ## Life cycle and fuses -/

/-- Decode of one life-cycle copy (R362): 0 OPEN, 1 CLOSED, 2 invalid. -/
def lcDecode (c : BitVec 64) : Nat :=
  if c = 0 then 0 else if c = 0x7777777777777777#64 then 1 else 2

/-- The state at least two copies share, OPEN or CLOSED; otherwise invalid (R362). -/
def lcState (f : Fuses) : Nat :=
  let a := lcDecode f.lc0
  let b := lcDecode f.lc1
  let c := lcDecode f.lc2
  if a ≠ 2 ∧ (a = b ∨ a = c) then a else if b ≠ 2 ∧ b = c then b else 2

/-- A fuse word's count: the position of its highest blown bit plus 1 (R363). -/
def fuseCount {w : Nat} (x : BitVec w) : Nat :=
  (List.range w).foldl (fun n i => if x.getLsbD i then i + 1 else n) 0

/-- Blows the bit above the highest blown bit, if the word has one (R363). -/
def blowNext {w : Nat} (x : BitVec w) : BitVec w :=
  if fuseCount x < w then x ||| BitVec.ofNat w (2 ^ fuseCount x) else x

/-! ## Units of the part (R2, R4) -/

def coreCount (d : Dev) : Nat := Config.cores d.sys.pg40
def pkCount (d : Dev) : Nat := Config.pkEngines d.sys.pg40
def ceCount (d : Dev) : Nat := Config.cipherEngines d.sys.pg40
def deCount (d : Dev) : Nat := Config.digestEngines d.sys.pg40

/-! ## Digests -/

/-- Digest length in bytes by hash code (R197): 1 SHA-1, 2 SHA-224, 3 SHA-256, 4 SHA-384, 5 SHA-512, 6 to 8 SHA3-256, -384, -512. -/
def hashLen : Nat → Nat
  | 1 => 20 | 2 => 28 | 3 => 32 | 4 => 48 | 5 => 64 | 6 => 32 | 7 => 48 | 8 => 64 | _ => 0

/-- Digest of a message. -/
def digest (code : Nat) (m : List Byte) : List Byte := beBytes (hashLen code) (hashValue code m)

/-- SHA-384 of a message. -/
def sha384 (m : List Byte) : List Byte := digest 4 m

/-! ## Device and fuses together -/

/-- The device and its fuses: a state without its queue. -/
structure Cx where
  d : Dev
  f : Fuses
deriving DecidableEq, Repr

/-- Changes the device of a context. -/
def Cx.mod (g : Dev → Dev) (c : Cx) : Cx := { c with d := g c.d }

/-- The context of a state. -/
def State.cx (s : State) : Cx := { d := s.dev, f := s.fuse }

/-- A state with a new context, vector 8 watched. -/
def withCx (s : State) (c : Cx) : Ans := .next { s with dev := watch (fun _ => c.d) s.dev, fuse := c.f }

/-- A state with a new context where a reset begins or ends: the status word starts over, which is no change to signal (R63, R424). -/
def resetTo (s : State) (c : Cx) : Ans := .next { s with dev := c.d, fuse := c.f }

/-! ## Running a command -/

/-- A command that changes the device alone, vector 8 watched. -/
def onDev (f : Dev → Dev) (s : State) : Ans := .next { s with dev := watch f s.dev }

/-- A command of a unit the part has; another unit is a fault. -/
def onUnit (ok : Bool) (f : Dev → Dev) (s : State) : Ans :=
  if ok then .next { s with dev := watch f s.dev } else .fault .noSuchUnit

/-- One OCLK cycle: the time base steps by 20 ns (R25); a device ahead of its primary counts at half rate (R386). -/
def oclkTick (d : Dev) : Dev :=
  if !d.sys.powered || d.sys.inReset then d else
  let half := d.pair.state == .paired && d.pair.role == .secondary && decide (0 < d.pair.ahead)
  let d1 := { d with sys := { d.sys with time := (d.sys.time + if half then 10 else 20) % 2 ^ 63, uptime := d.sys.uptime + 20 } }
  if half then { d1 with pair := { d1.pair with ahead := d1.pair.ahead - 10 } } else d1

end Sys2Proof.Machine
end

