-- ==== Sys2Proof/Machine/Crypto.lean ====
section
/-! DEFINITION. Block-cipher modes, MACs and key derivation (R13), written over the block operations that the standards give.
PRESUMED, unsafe where a definition slips: assumption 6. -/

namespace Sys2Proof.Machine

/-- A block cipher under a key: block length in bytes and the two block operations. -/
structure Cipher where
  size : Nat
  enc : List Byte → List Byte
  dec : List Byte → List Byte

/-- AES under a key (R13). -/
def aes (k : List Byte) : Cipher :=
  { size := 16
    enc := fun b => beBytes 16 (aesEnc k (BitVec.ofNat 128 (beNat b))).toNat
    dec := fun b => beBytes 16 (aesDec k (BitVec.ofNat 128 (beNat b))).toNat }

/-- One 64-bit part of a TDES key, the third of a two-key TDES being the first (SP 800-67). -/
def desPart (k : List Byte) (i : Nat) : BitVec 64 :=
  BitVec.ofNat 64 (beNat (slice8 k (if i = 2 ∧ k.length < 24 then 0 else 8 * i) 8))

/-- Single DES under an 8-byte key. -/
def des (k : List Byte) : Cipher :=
  { size := 8
    enc := fun b => beBytes 8 (desEnc (desPart k 0) (BitVec.ofNat 64 (beNat b))).toNat
    dec := fun b => beBytes 8 (desDec (desPart k 0) (BitVec.ofNat 64 (beNat b))).toNat }

/-- TDES, two-key or three-key (SP 800-67). -/
def tdes (k : List Byte) : Cipher :=
  { size := 8
    enc := fun b => beBytes 8 (desEnc (desPart k 2) (desDec (desPart k 1)
      (desEnc (desPart k 0) (BitVec.ofNat 64 (beNat b))))).toNat
    dec := fun b => beBytes 8 (desDec (desPart k 0) (desEnc (desPart k 1)
      (desDec (desPart k 2) (BitVec.ofNat 64 (beNat b))))).toNat }

/-- The cipher of a symmetric key. -/
def cipherOf (a : Alg) (k : List Byte) : Cipher := if a = .T then tdes k else aes k

def xorB (a b : List Byte) : List Byte := List.zipWith (· ^^^ ·) a b

/-- Consecutive pieces of `n` bytes, the last possibly shorter; `fuel` bounds their number. -/
def chunksF (n : Nat) : Nat → List Byte → List (List Byte)
  | 0, _ => []
  | fuel + 1, l => if l.isEmpty then [] else l.take n :: chunksF n fuel (l.drop n)

def chunks (n : Nat) (l : List Byte) : List (List Byte) := chunksF n l.length l

def ecbEnc (c : Cipher) (m : List Byte) : List Byte := ((chunks c.size m).map c.enc).flatten
def ecbDec (c : Cipher) (m : List Byte) : List Byte := ((chunks c.size m).map c.dec).flatten

/-- CBC encryption over blocks, with the running chaining value. -/
def cbcEncGo (c : Cipher) : List Byte → List (List Byte) → List Byte
  | _, [] => []
  | iv, b :: bs => c.enc (xorB b iv) ++ cbcEncGo c (c.enc (xorB b iv)) bs

def cbcEnc (c : Cipher) (iv m : List Byte) : List Byte := cbcEncGo c iv (chunks c.size m)

def cbcDecGo (c : Cipher) : List Byte → List (List Byte) → List Byte
  | _, [] => []
  | iv, b :: bs => xorB (c.dec b) iv ++ cbcDecGo c b bs

def cbcDec (c : Cipher) (iv m : List Byte) : List Byte := cbcDecGo c iv (chunks c.size m)

/-- CFB with a segment of one block or one byte; `dec` selects which side feeds back. -/
def cfbGo (c : Cipher) (dec : Bool) : List Byte → List (List Byte) → List Byte
  | _, [] => []
  | sr, p :: ps =>
    let o := xorB p (c.enc sr)
    o ++ cfbGo c dec ((sr ++ if dec then p else o).drop p.length) ps

def cfb (c : Cipher) (seg : Nat) (dec : Bool) (iv m : List Byte) : List Byte := cfbGo c dec iv (chunks seg m)

def ofbGo (c : Cipher) : List Byte → List (List Byte) → List Byte
  | _, [] => []
  | v, p :: ps => xorB p (c.enc v) ++ ofbGo c (c.enc v) ps

def ofb (c : Cipher) (iv m : List Byte) : List Byte := ofbGo c iv (chunks c.size m)

/-- Counter mode from a counter block, stepping its low `w` bits. -/
def ctrGo (c : Cipher) (w : Nat) : Nat → List (List Byte) → List Byte
  | _, [] => []
  | v, p :: ps => xorB p (c.enc (beBytes c.size v)) ++ ctrGo c w (v / 2 ^ w * 2 ^ w + (v % 2 ^ w + 1) % 2 ^ w) ps

def ctrMode (c : Cipher) (w : Nat) (iv m : List Byte) : List Byte := ctrGo c w (beNat iv) (chunks c.size m)

/-- The last chaining value of CBC encryption. -/
def cbcLast (c : Cipher) (iv : List Byte) (bs : List (List Byte)) : List Byte := bs.foldl (fun v b => c.enc (xorB b v)) iv

/-- Doubling in GF(2^8n) for CMAC subkeys (SP 800-38B). -/
def cmacDbl (n : Nat) (l : List Byte) : List Byte :=
  let v := beNat l
  let r := if n = 16 then 0x87 else 0x1B
  let d := 2 * v % 2 ^ (8 * n)
  beBytes n (if 2 ^ (8 * n - 1) ≤ v then d ^^^ r else d)

/-- CMAC (SP 800-38B). -/
def cmac (c : Cipher) (m : List Byte) : List Byte :=
  let k1 := cmacDbl c.size (c.enc (List.replicate c.size 0))
  let bs := chunks c.size m
  let last := bs.getLast?.getD []
  let tail := if last.length = c.size then xorB last k1 else xorB (fit (last ++ [0x80]) c.size) (cmacDbl c.size k1)
  c.enc (xorB tail (cbcLast c (List.replicate c.size 0) bs.dropLast))

/-- ISO 9797-1 padding: 1 with zeros to a whole block (one block of zeros for nothing), 2 with `80` and zeros. -/
def isoPad (n method : Nat) (m : List Byte) : List Byte :=
  let l := if method = 2 then m ++ [0x80] else m
  l ++ List.replicate (if l.isEmpty then n else (n - l.length % n) % n) 0

/-- ISO 9797-1 algorithm 1: CBC-MAC over a padded message. -/
def cbcMac (c : Cipher) (padded : List Byte) : List Byte := cbcLast c (List.replicate c.size 0) (chunks c.size padded)

/-- ISO 9797-1 algorithm 3 under a two-key TDES key: single DES chaining, then the output transformation. -/
def retailMac (k : List Byte) (padded : List Byte) : List Byte :=
  let k1 := des (k.take 8)
  k1.enc ((des ((k.drop 8).take 8)).dec (cbcMac k1 padded))

/-- Multiplication in GF(2^128) as GCM defines it (SP 800-38D). -/
def gfMul (x y : BitVec 128) : BitVec 128 :=
  ((List.range 128).foldl (fun (zv : BitVec 128 × BitVec 128) i =>
    (if x.getMsbD i then zv.1 ^^^ zv.2 else zv.1,
     if zv.2.getLsbD 0 then (zv.2 >>> 1) ^^^ 0xE1000000000000000000000000000000#128 else zv.2 >>> 1)) (0, y)).1

def ghash (h : BitVec 128) (m : List Byte) : BitVec 128 :=
  (chunks 16 m).foldl (fun y b => gfMul (y ^^^ BitVec.ofNat 128 (beNat (fit b 16))) h) 0

/-- Zeros to a whole 16-byte block. -/
def pad16 (m : List Byte) : List Byte := m ++ List.replicate ((16 - m.length % 16) % 16) 0

/-- CCM with a nonce of 12 bytes (SP 800-38C): formatting of nonce, associated data and payload, then CBC-MAC. -/
def ccmMac (k nonce aad m : List Byte) (tagLen : Nat) : List Byte :=
  let q := 15 - nonce.length
  let flags := bitOf (!aad.isEmpty) 6 + (tagLen - 2) / 2 * 8 + (q - 1)
  let b0 := byteOf flags :: nonce ++ beBytes q m.length
  let alen := if aad.length < 0xFF00 then beBytes 2 aad.length else [0xFF, 0xFE] ++ beBytes 4 aad.length
  let a := if aad.isEmpty then [] else pad16 (alen ++ aad)
  cbcMac (aes k) (b0 ++ a ++ pad16 m)

def ccmCrypt (k nonce m : List Byte) : List Byte :=
  let q := 15 - nonce.length
  ctrMode (aes k) (8 * q) (byteOf (q - 1) :: nonce ++ beBytes q 1) m

def ccmTag (k nonce aad m : List Byte) (tagLen : Nat) : List Byte :=
  let q := 15 - nonce.length
  (xorB (ccmMac k nonce aad m tagLen) ((aes k).enc (byteOf (q - 1) :: nonce ++ beBytes q 0))).take tagLen

/-- Block length of a hash for HMAC (FIPS 180-4, FIPS 202), by code of R197. -/
def hashBlock : Nat → Nat
  | 1 | 2 | 3 => 64 | 4 | 5 => 128 | 6 => 136 | 7 => 104 | 8 => 72 | _ => 64

/-- HMAC (FIPS 198-1). -/
def hmac (code : Nat) (k m : List Byte) : List Byte :=
  let b := hashBlock code
  let k0 := fit (if b < k.length then digest code k else k) b
  digest code (k0.map (· ^^^ 0x5C#8) ++ digest code (k0.map (· ^^^ 0x36#8) ++ m))

/-- One-step KDF of SP 800-56C with SHA-384: `n` bytes from a shared secret and fixed information. -/
def oneStepKdf (n : Nat) (z info : List Byte) : List Byte :=
  (((List.range ((n + 47) / 48)).map (fun i => sha384 (beBytes 4 (i + 1) ++ z ++ info))).flatten).take n

/-- SP 800-108 counter-mode KDF with AES-CMAC: 4-byte counter, label, a zero byte, context, 4-byte output length in bits. -/
def cmacKdf (k label ctx : List Byte) (n : Nat) : List Byte :=
  (((List.range ((n + 15) / 16)).map (fun i =>
    cmac (aes k) (beBytes 4 (i + 1) ++ label ++ [0] ++ ctx ++ beBytes 4 (8 * n)))).flatten).take n

end Sys2Proof.Machine
end

