-- ==== Sys2Proof/Machine/KeyBlock.lean ====
section
/-! DEFINITION. X9.143 key blocks (R108 to R112, R131, R135): header values, optional blocks, wrapping and unwrapping.
Marks: assumptions 7 (PRESUMED), 43 to 45 (DEDUCED). -/

namespace Sys2Proof.Machine

/-! ## Header values (R109) -/

/-- The two ASCII characters of each usage. -/
def usageChars : Usage → Nat × Nat
  | .B0 => (0x42, 0x30) | .B1 => (0x42, 0x31) | .C0 => (0x43, 0x30) | .D0 => (0x44, 0x30)
  | .E0 => (0x45, 0x30) | .E1 => (0x45, 0x31) | .E2 => (0x45, 0x32)
  | .K0 => (0x4B, 0x30) | .K1 => (0x4B, 0x31) | .K2 => (0x4B, 0x32) | .K3 => (0x4B, 0x33)
  | .M0 => (0x4D, 0x30) | .M1 => (0x4D, 0x31) | .M3 => (0x4D, 0x33) | .M6 => (0x4D, 0x36) | .M7 => (0x4D, 0x37)
  | .P0 => (0x50, 0x30) | .S0 => (0x53, 0x30) | .V0 => (0x56, 0x30) | .V1 => (0x56, 0x31) | .V2 => (0x56, 0x32)

def allUsages : List Usage :=
  [.B0, .B1, .C0, .D0, .E0, .E1, .E2, .K0, .K1, .K2, .K3, .M0, .M1, .M3, .M6, .M7, .P0, .S0, .V0, .V1, .V2]

def algChar : Alg → Nat
  | .A => 0x41 | .T => 0x54 | .H => 0x48 | .R => 0x52 | .E => 0x45 | .K1 => 0x31 | .D2 => 0x32

def allAlgs : List Alg := [.A, .T, .H, .R, .E, .K1, .D2]

def modeChar : KMode → Nat
  | .B => 0x42 | .C => 0x43 | .D => 0x44 | .E => 0x45 | .G => 0x47 | .S => 0x53 | .V => 0x56 | .X => 0x58

def allModes : List KMode := [.B, .C, .D, .E, .G, .S, .V, .X]

def expoChar : Expo → Nat
  | .E => 0x45 | .N => 0x4E | .S => 0x53

def usageOf (a b : Byte) : Option Usage := allUsages.find? (fun u => usageChars u == (a.toNat, b.toNat))
def algOf (a : Byte) : Option Alg := allAlgs.find? (fun x => algChar x == a.toNat)
def modeOf (a : Byte) : Option KMode := allModes.find? (fun x => modeChar x == a.toNat)
def expoOf (a : Byte) : Option Expo := [Expo.E, .N, .S].find? (fun x => expoChar x == a.toNat)

/-- A block-cipher key (R113, R117). -/
def symmetric (a : Alg) : Bool := a == .A || a == .T
/-- A private asymmetric key (R113). -/
def asymmetric (a : Alg) : Bool := !symmetric a && a != .H

/-- The combinations of usage, algorithm and mode that some opcode accepts, and the two further families of R109. -/
def comboOk (u : Usage) (a : Alg) (m : KMode) : Bool :=
  (match u with
    | .B0 | .B1 => symmetric a && m == .X
    | .C0 => a == .T && (m == .G || m == .C || m == .V)
    | .D0 => (symmetric a && (m == .E || m == .D || m == .B)) || (a == .R && m == .D)
    | .E0 | .E1 | .E2 => symmetric a && (m == .X || m == .B)
    | .K0 | .K1 => symmetric a && (m == .E || m == .D || m == .B)
    | .K2 => (a == .R || a == .K1) && (m == .D || m == .B)
    | .K3 => (a == .E || a == .K1) && m == .X
    | .M0 | .M3 => a == .T && (m == .G || m == .C || m == .V)
    | .M1 | .M6 => symmetric a && (m == .G || m == .C || m == .V)
    | .M7 => a == .H && (m == .G || m == .C || m == .V || m == .X)
    | .P0 => symmetric a && (m == .E || m == .D || m == .B)
    | .S0 => (a == .R || a == .E || a == .D2) && m == .S
    | .V0 => a == .A && (m == .G || m == .C || m == .V)
    | .V1 | .V2 => a == .T && (m == .G || m == .C || m == .V))
  || (a == .A && m == .X && [Usage.B0, .B1, .D0, .E0, .E1, .E2, .K0, .K1, .M1, .M6, .P0, .V0].contains u)

/-- Default ceiling of a slot key (R117); 0 for a key that carries none. -/
def defaultCeiling (u : Usage) (a : Alg) : Nat :=
  match a with
  | .T => 2 ^ 20
  | .A => if u = .D0 then 2 ^ 32 else 2 ^ 48
  | _ => 0

/-- The ceiling a key takes in a slot (R118). -/
def ceilingOf (k : Attr) : Nat := k.ceil9C.getD (defaultCeiling k.usage k.alg)

/-! ## Text -/

def hexDigit (n : Nat) : Byte := byteOf (if n < 10 then 0x30 + n else 0x37 + n)

/-- Upper-case hexadecimal. -/
def hexText (l : List Byte) : List Byte := (l.map (fun b => [hexDigit (b.toNat / 16), hexDigit (b.toNat % 16)])).flatten

/-- Value of an upper-case hexadecimal digit. -/
def hexVal (b : Byte) : Option Nat :=
  let n := b.toNat
  if 0x30 ≤ n ∧ n ≤ 0x39 then some (n - 0x30) else if 0x41 ≤ n ∧ n ≤ 0x46 then some (n - 0x37) else none

def decVal (b : Byte) : Option Nat := if 0x30 ≤ b.toNat ∧ b.toNat ≤ 0x39 then some (b.toNat - 0x30) else none

/-- Value of a run of digits in a base, none where a character is no digit. -/
def textVal (base : Nat) (digit : Byte → Option Nat) (l : List Byte) : Option Nat :=
  l.foldl (fun acc b => match acc, digit b with
    | some a, some v => some (a * base + v)
    | _, _ => none) (some 0)

/-- Bytes of an even run of upper-case hexadecimal digits. -/
def hexBytes (l : List Byte) : Option (List Byte) :=
  if l.length % 2 = 0 then (textVal 16 hexVal l).map (beBytes (l.length / 2)) else none

/-- `n` decimal digits of a number. -/
def decText (n v : Nat) : List Byte := (List.range n).map (fun i => byteOf (0x30 + v / 10 ^ (n - 1 - i) % 10))

def alnum (b : Byte) : Bool :=
  let n := b.toNat
  (decide (0x30 ≤ n) && decide (n ≤ 0x39)) || (decide (0x41 ≤ n) && decide (n ≤ 0x5A)) || (decide (0x61 ≤ n) && decide (n ≤ 0x7A))

def letter (b : Byte) : Bool := alnum b && decide (0x41 ≤ b.toNat)

/-- The HMAC hash identifiers of X9.143 for the hashes of R110, as codes of R197. -/
def hmCode : Nat → Option Nat
  | 0x21 => some 3 | 0x22 => some 4 | 0x23 => some 5 | 0x31 => some 6 | 0x32 => some 7 | 0x33 => some 8 | _ => none

def hmText : Nat → Nat
  | 3 => 0x21 | 4 => 0x22 | 5 => 0x23 | 6 => 0x31 | 7 => 0x32 | _ => 0x33

/-! ## Parsing (R109, R110) -/

/-- A header as parsed: version, attributes, the generation of `9L`, and its length in characters with optional blocks. -/
structure Header where
  tdesForm : Bool
  attr : Attr
  gen : Option Nat := none
  seen : List (List Byte) := []
  len : Nat := 16
deriving DecidableEq, Repr

/-- One optional block taken into the header (R110). -/
def optBlock (h : Header) (id data : List Byte) : Option Header :=
  if h.seen.contains id then none else
  let h := { h with seen := id :: h.seen }
  let a := h.attr
  if id = ascii [0x39, 0x43] then
    (match textVal 16 hexVal data with
      | some v => if data.length = 12 ∧ symmetric a.alg ∧ v ≠ 0 ∧ v < defaultCeiling a.usage a.alg
          then some { h with attr := { a with ceil9C := some v } } else none
      | none => none)
  else if id = ascii [0x39, 0x4C] then
    (match textVal 10 decVal data with
      | some v => if data.length = 2 ∧ v ≤ 3 then some { h with gen := some v } else none
      | none => none)
  else if id = ascii [0x48, 0x4D] then
    (match (textVal 16 hexVal data).bind hmCode with
      | some c => if data.length = 2 then some { h with attr := { a with hm := some c } } else none
      | none => none)
  else if id = ascii [0x49, 0x4B] then
    (match hexBytes data with
      | some v => if data.length = 16 then some { h with attr := { a with ik := some v } } else none
      | none => none)
  else if id = ascii [0x4B, 0x53] then
    (match hexBytes data with
      | some v => if data.length = 10 then some { h with attr := { a with ks := some v } } else none
      | none => none)
  else if letter (id.getD 0 0) then some h
  else none

/-- The optional blocks, `n` of them, from offset `o` of a text that ends at `lim`. -/
def optBlocks (t : List Byte) (lim : Nat) : Nat → Nat → Header → Option Header
  | 0, o, h => some { h with len := o }
  | n + 1, o, h =>
    match textVal 16 hexVal (slice8 t (o + 2) 2) with
    | none => none
    | some l =>
      if l < 4 ∨ lim < o + l ∨ lim < o + 4 then none
      else match optBlock h (slice8 t o 2) (slice8 t (o + 4) (l - 4)) with
        | none => none
        | some h' => optBlocks t lim n (o + l) h'

/-- The optional blocks an algorithm and usage require (R110). -/
def requiredOk (a : Attr) : Bool :=
  (a.alg != .H || a.hm.isSome)
    && (a.usage != .B1 || ((a.alg != .A || a.ik.isSome) && (a.alg != .T || a.ks.isSome)))

/-- Header and optional blocks of a text of `lim` characters whose length field reads `lenText` (R109, R110); `combo` asks for an
accepted combination. -/
def parseHeader (combo : Bool) (t : List Byte) (lim : Nat) (lenText : List Byte) : Option Header :=
  let v := (t.getD 0 0).toNat
  match usageOf (t.getD 5 0) (t.getD 6 0), algOf (t.getD 7 0), modeOf (t.getD 8 0), expoOf (t.getD 11 0),
      textVal 10 decVal (slice8 t 12 2) with
  | some u, some a, some m, some e, some n =>
    let kvn := slice8 t 9 2
    if lim < 16 ∨ (v ≠ 0x42 ∧ v ≠ 0x44) ∨ slice8 t 1 4 ≠ lenText ∨ ¬kvn.all alnum ∨ kvn.getD 0 0 = 0x63
        ∨ 8 < n ∨ slice8 t 14 2 ≠ ascii [0x30, 0x30] ∨ (combo ∧ ¬comboOk u a m) then none
    else
      match optBlocks t lim n 16 { tdesForm := v == 0x42, attr := { usage := u, alg := a, mode := m, kvn, expo := e } } with
      | some h => if requiredOk h.attr then some h else none
      | none => none
  | _, _, _, _, _ => none

/-- A key block within an input: its whole text, its header, the encrypted key data and the MAC. -/
structure Block where
  text : List Byte
  hdr : Header
  data : List Byte
  mac : List Byte
deriving DecidableEq, Repr

/-- Cipher block length of a version. -/
def verSize (tdesForm : Bool) : Nat := if tdesForm then 8 else 16

/-- The extent of a block by its length field (R54, R112 step 1): its text, where it lies within the input. -/
def blockExtent (inp : List Byte) (off : Nat) : Except Status (List Byte) :=
  if inp.length < off + 5 then .error .length
  else match textVal 10 decVal (slice8 inp (off + 1) 4) with
    | none => .error .keyBlockFormat
    | some n => if inp.length < off + n then .error .length else .ok (slice8 inp off n)

/-- Step 2 of R112. -/
def parseBlock (t : List Byte) : Except Status Block :=
  match parseHeader true t t.length (decText 4 t.length) with
  | none => .error .keyBlockFormat
  | some h =>
    let sz := verSize h.tdesForm
    if h.len % sz ≠ 0 ∨ t.length < h.len + 4 * sz ∨ (t.length - h.len) % (2 * sz) ≠ 0 then .error .keyBlockFormat
    else match hexBytes (t.drop h.len) with
      | none => .error .keyBlockFormat
      | some b => .ok { text := t, hdr := h, data := b.take (b.length - sz), mac := b.drop (b.length - sz) }

/-- The encrypted key data and MAC of a block as they stand, the last characters of its text: the identity of a cache entry
(R123). -/
def blockFields (b : Block) : List Byte := b.text.drop b.hdr.len

/-! ## Key data (R111) -/

/-- Bytes of an asymmetric private key's encoding that fit its algorithm (R217). -/
def asymLenOk (a : Alg) (n : Nat) : Bool :=
  match a with
  | .R => (List.range 97).any (fun i => n == 8 + (256 + 8 * i) * 7 / 2)
  | .E => decide (41 ≤ n) && decide (n ≤ 75)
  | .K1 => n == 65
  | .D2 => n == 33
  | _ => false

/-- A key length in bits fits an algorithm (R111). -/
def bitsOk (a : Alg) (b : Nat) : Bool :=
  match a with
  | .A => b == 128 || b == 192 || b == 256
  | .T => b == 128 || b == 192
  | .H => decide (128 ≤ b) && decide (b ≤ 512) && b % 8 == 0
  | _ => b % 8 == 0 && asymLenOk a (b / 8)

/-- A TDES key whose first and second parts are equal (R111). -/
def weakTdes (a : Alg) (k : List Byte) : Bool := a == .T && k.take 8 == (k.drop 8).take 8

/-- Step 6 of R112: the key in decrypted key data. -/
def keyOfData (a : Alg) (p : List Byte) : Except Status (List Byte) :=
  let n := beNat (slice8 p 0 2)
  let k := (p.drop 2).take (n / 8)
  if !bitsOk a n || decide (p.length < 2 + n / 8) || weakTdes a k then .error .keyDamaged else .ok k

/-! ## Wrapping (R108, R135) -/

/-- Derives the block encryption key (usage 0) or the block MAC key (usage 1) from a wrapping key by the method of the version. -/
def deriveBlockKey (tdesForm : Bool) (use : Nat) (k : List Byte) : List Byte :=
  let c := if tdesForm then tdes k else aes k
  let ind := if tdesForm then (if k.length ≤ 16 then 0 else 1) else if k.length ≤ 16 then 2 else if k.length ≤ 24 then 3 else 4
  (((List.range ((k.length + c.size - 1) / c.size)).map (fun i =>
    cmac c ([byteOf (i + 1), 0, byteOf use, 0, 0, byteOf ind] ++ beBytes 2 (8 * k.length)))).flatten).take k.length

def blockCipher (tdesForm : Bool) (k : List Byte) : Cipher := if tdesForm then tdes k else aes k

/-- Steps 5 and 6 of R112 under a wrapping key. -/
def unwrapBlock (wrap : List Byte) (b : Block) : Except Status Key :=
  let v := b.hdr.tdesForm
  let p := cbcDec (blockCipher v (deriveBlockKey v 0 wrap)) b.mac b.data
  if cmac (blockCipher v (deriveBlockKey v 1 wrap)) (b.text.take b.hdr.len ++ p) ≠ b.mac then .error .keyBlockMac
  else (keyOfData b.hdr.attr.alg p).map (fun k => { attr := b.hdr.attr, bytes := k })

/-- One optional block as written: ID, length and data. -/
def optText (id : List Nat) (data : List Byte) : List Byte := ascii id ++ hexText [byteOf (4 + data.length)] ++ data

/-- The carried optional blocks of R135, in their order, `9L` for an LMK block of a generation, with their number. -/
def carriedBlocks (a : Attr) (gen : Option Nat) : List (List Byte) :=
  (a.ceil9C.toList.map (fun v => optText [0x39, 0x43] (hexText (beBytes 6 v))))
    ++ (a.hm.toList.map (fun c => optText [0x48, 0x4D] (hexText [byteOf (hmText c)])))
    ++ (a.ik.toList.map (fun v => optText [0x49, 0x4B] (hexText v)))
    ++ (a.ks.toList.map (fun v => optText [0x4B, 0x53] (hexText v)))
    ++ (gen.toList.map (fun g => optText [0x39, 0x4C] (decText 2 g)))

/-- The `PB` block that pads a header of `n` characters, where it needs one (R135). -/
def padBlock (size n : Nat) : List (List Byte) :=
  let need := (size - n % size) % size
  if need = 0 then []
  else [optText [0x50, 0x42] (List.replicate ((if need < 4 then need + size else need) - 4) 0x30)]

/-- Bytes of key data with its padding (R111). -/
def dataLen (size keyLen : Nat) : Nat := (2 + keyLen + size - 1) / size * size

/-- Padding bytes a block of a key needs (R111). -/
def padLen (tdesForm : Bool) (keyLen : Nat) : Nat := dataLen (verSize tdesForm) keyLen - 2 - keyLen

/-- Header and optional blocks the device writes (R135). -/
def headerText (tdesForm : Bool) (a : Attr) (gen : Option Nat) (keyLen : Nat) : List Byte :=
  let sz := verSize tdesForm
  let car := carriedBlocks a gen
  let opt := car ++ padBlock sz (16 + car.flatten.length)
  let total := 16 + opt.flatten.length + 2 * dataLen sz keyLen + 2 * sz
  let u := usageChars a.usage
  [byteOf (if tdesForm then 0x42 else 0x44)] ++ decText 4 total
    ++ ascii [u.1, u.2, algChar a.alg, modeChar a.mode] ++ a.kvn ++ ascii [expoChar a.expo] ++ decText 2 opt.length
    ++ ascii [0x30, 0x30] ++ opt.flatten

/-- Length of a block the device writes (R135). -/
def blockLen (tdesForm : Bool) (a : Attr) (gen : Option Nat) (keyLen : Nat) : Nat :=
  (headerText tdesForm a gen keyLen).length + 2 * dataLen (verSize tdesForm) keyLen + 2 * verSize tdesForm

/-- A block the device writes (R135). -/
def writeBlock (tdesForm : Bool) (wrap : List Byte) (gen : Option Nat) (k : Key) (pad : List Byte) : List Byte :=
  let h := headerText tdesForm k.attr gen k.bytes.length
  let p := beBytes 2 (8 * k.bytes.length) ++ k.bytes ++ pad
  let mac := cmac (blockCipher tdesForm (deriveBlockKey tdesForm 1 wrap)) (h ++ p)
  h ++ hexText (cbcEnc (blockCipher tdesForm (deriveBlockKey tdesForm 0 wrap)) mac p) ++ hexText mac

/-- Counts a wrap or unwrap draws from a slot key: blocks of the encrypted key data and of the MAC (R117). -/
def wrapCounts (tdesForm : Bool) (hdrLen dataBytes : Nat) : Nat :=
  let sz := verSize tdesForm
  (dataBytes + sz - 1) / sz + (hdrLen + dataBytes + sz - 1) / sz

/-! ## Strength (R131) -/

/-- Security strength of a curve or parameter code; a loaded curve by the bits of its order (R212). -/
def codeStrength (order : Nat → Nat) (code : Nat) : Nat :=
  match code with
  | 0x01 | 0x04 | 0x06 | 0x07 => 128
  | 0x02 | 0x05 | 0x21 | 0x31 => 192
  | 0x03 | 0x22 | 0x32 => 256
  | 0x08 => 224
  | c => if order c < 2 ^ 383 then 128 else if order c < 2 ^ 511 then 192 else 256

/-- Strength of a key in bits (R131). -/
def strength (order : Nat → Nat) (k : Key) : Nat :=
  match k.attr.alg with
  | .T => if k.bytes.length ≤ 16 then 80 else 112
  | .A => 8 * k.bytes.length
  | .H => min (8 * k.bytes.length) 256
  | .R =>
    let m := (k.bytes.length - 8) * 2 / 7
    if m < 384 then 112 else if m < 960 then 128 else 192
  | _ => codeStrength order (k.bytes.getD 0 0).toNat

/-! ## Check values (R132) -/

/-- Check value by method 0 or 1, and its length; none for algorithms without one (R134). -/
def kcv (method : Nat) (k : Key) : List Byte × Nat :=
  if !symmetric k.attr.alg then (List.replicate 5 0, 0) else
  let c := cipherOf k.attr.alg k.bytes
  let z := List.replicate c.size 0
  if method = 0 then ((c.enc z).take 3 ++ [0, 0], 3) else ((cmac c z).take 5, 5)

end Sys2Proof.Machine
end

