-- ==== Sys2Proof/Machine/Curves.lean ====
section
/-! DEFINITION. Curves (R212 to R215): the built-in short-Weierstrass curves of the standards R13 names, a slice's loaded curves, point
arithmetic, and X25519.
PRESUMED, unsafe where a definition slips: assumption 6. -/

namespace Sys2Proof.Machine

/-- A short-Weierstrass curve over a prime field; `len` is the field length in bytes, `tag` the curve tag (R213, R215). -/
structure WCurve where
  len : Nat
  p : Nat
  a : Nat
  b : Nat
  gx : Nat
  gy : Nat
  n : Nat
  tag : List Byte := List.replicate 8 0
deriving DecidableEq, Repr

/-- The built-in Weierstrass curves by code (R212). -/
def builtIn : Nat → Option WCurve
  | 0x01 => some
    { len := 32
      p := 0xffffffff00000001000000000000000000000000ffffffffffffffffffffffff
      a := 0xffffffff00000001000000000000000000000000fffffffffffffffffffffffc
      b := 0x5ac635d8aa3a93e7b3ebbd55769886bc651d06b0cc53b0f63bce3c3e27d2604b
      gx := 0x6b17d1f2e12c4247f8bce6e563a440f277037d812deb33a0f4a13945d898c296
      gy := 0x4fe342e2fe1a7f9b8ee7eb4a7c0f9e162bce33576b315ececbb6406837bf51f5
      n := 0xffffffff00000000ffffffffffffffffbce6faada7179e84f3b9cac2fc632551 }
  | 0x02 => some
    { len := 48
      p := 0xfffffffffffffffffffffffffffffffffffffffffffffffffffffffffffffffeffffffff0000000000000000ffffffff
      a := 0xfffffffffffffffffffffffffffffffffffffffffffffffffffffffffffffffeffffffff0000000000000000fffffffc
      b := 0xb3312fa7e23ee7e4988e056be3f82d19181d9c6efe8141120314088f5013875ac656398d8a2ed19d2a85c8edd3ec2aef
      gx := 0xaa87ca22be8b05378eb1c71ef320ad746e1d3b628ba79b9859f741e082542a385502f25dbf55296c3a545e3872760ab7
      gy := 0x3617de4a96262c6f5d9e98bf9292dc29f8f41dbd289a147ce9da3113b5f0b8c00a60b1ce1d7e819d7a431d7c90ea0e5f
      n := 0xffffffffffffffffffffffffffffffffffffffffffffffffc7634d81f4372ddf581a0db248b0a77aecec196accc52973 }
  | 0x03 => some
    { len := 66
      p := 0x1ffffffffffffffffffffffffffffffffffffffffffffffffffffffffffffffffffffffffffffffffffffffffffffffffffffffffffffffffffffffffffffffffff
      a := 0x1fffffffffffffffffffffffffffffffffffffffffffffffffffffffffffffffffffffffffffffffffffffffffffffffffffffffffffffffffffffffffffffffffc
      b := 0x51953eb9618e1c9a1f929a21a0b68540eea2da725b99b315f3b8b489918ef109e156193951ec7e937b1652c0bd3bb1bf073573df883d2c34f1ef451fd46b503f00
      gx := 0xc6858e06b70404e9cd9e3ecb662395b4429c648139053fb521f828af606b4d3dbaa14b5e77efe75928fe1dc127a2ffa8de3348b3c1856a429bf97e7e31c2e5bd66
      gy := 0x11839296a789a3bc0045c8a5fb42c7d1bd998f54449579b446817afbd17273e662c97ee72995ef42640c550b9013fad0761353c7086a272c24088be94769fd16650
      n := 0x1fffffffffffffffffffffffffffffffffffffffffffffffffffffffffffffffffa51868783bf2f966b7fcc0148f709a5d03bb5c9b8899c47aebb6fb71e91386409 }
  | 0x04 => some
    { len := 32
      p := 0xa9fb57dba1eea9bc3e660a909d838d726e3bf623d52620282013481d1f6e5377
      a := 0x7d5a0975fc2c3057eef67530417affe7fb8055c126dc5c6ce94a4b44f330b5d9
      b := 0x26dc5c6ce94a4b44f330b5d9bbd77cbf958416295cf7e1ce6bccdc18ff8c07b6
      gx := 0x8bd2aeb9cb7e57cb2c4b482ffc81b7afb9de27e1e3bd23c23a4453bd9ace3262
      gy := 0x547ef835c3dac4fd97f8461a14611dc9c27745132ded8e545c1d54c72f046997
      n := 0xa9fb57dba1eea9bc3e660a909d838d718c397aa3b561a6f7901e0e82974856a7 }
  | 0x05 => some
    { len := 48
      p := 0x8cb91e82a3386d280f5d6f7e50e641df152f7109ed5456b412b1da197fb71123acd3a729901d1a71874700133107ec53
      a := 0x7bc382c63d8c150c3c72080ace05afa0c2bea28e4fb22787139165efba91f90f8aa5814a503ad4eb04a8c7dd22ce2826
      b := 0x4a8c7dd22ce28268b39b55416f0447c2fb77de107dcd2a62e880ea53eeb62d57cb4390295dbc9943ab78696fa504c11
      gx := 0x1d1c64f068cf45ffa2a63a81b7c13f6b8847a3e77ef14fe3db7fcafe0cbd10e8e826e03436d646aaef87b2e247d4af1e
      gy := 0x8abe1d7520f9c2a45cb1eb8e95cfd55262b70b29feec5864e19c054ff99129280e4646217791811142820341263c5315
      n := 0x8cb91e82a3386d280f5d6f7e50e641df152f7109ed5456b31f166e6cac0425a7cf3ab6af6b7fc3103b883202e9046565 }
  | _ => none

/-- Bits of a number. -/
def bitLen (n : Nat) : Nat := if n = 0 then 0 else Nat.log2 n + 1

/-- A loaded curve's parameters (R213). -/
def loadedCurve (c : Curve) : WCurve :=
  let f := fun i => beNat (slice8 c.params (i * c.len) c.len)
  { len := c.len, p := f 0, a := f 1, b := f 2, gx := f 3, gy := f 4, n := f 5, tag := c.tag }

/-- The Weierstrass curve a code names in a slice: built in, or an entry of the loaded-curve table (R212, R213). -/
def curveOf (s : SliceRec) (code : Nat) : Option WCurve :=
  if 0x80 ≤ code ∧ code ≤ 0x83 then (Tab.find s.curves (code - 0x80)).map loadedCurve else builtIn code

/-- Order of the curve of a code, 0 where it names none. -/
def orderOf (s : SliceRec) (code : Nat) : Nat := ((curveOf s code).map (·.n)).getD 0

/-- Length in bytes of a curve's order. -/
def orderLen (c : WCurve) : Nat := (bitLen c.n + 7) / 8

/-- `b ^ e mod m`; `fuel` bounds the bits of `e`. -/
def powModF (m : Nat) : Nat → Nat → Nat → Nat
  | 0, _, _ => 1 % m
  | fuel + 1, b, e => if e = 0 then 1 % m else
    let h := powModF m fuel (b * b % m) (e / 2)
    if e % 2 = 1 then h * b % m else h

def powMod (b e m : Nat) : Nat := powModF m (bitLen e) (b % m) e

/-- Inverse modulo a prime. -/
def invMod (a p : Nat) : Nat := powMod a (p - 2) p

/-- Point addition in affine coordinates; none is the point at infinity. -/
def ptAdd (c : WCurve) : Option (Nat × Nat) → Option (Nat × Nat) → Option (Nat × Nat)
  | none, q => q
  | p, none => p
  | some (x1, y1), some (x2, y2) =>
    let p := c.p
    if x1 = x2 ∧ (y1 + y2) % p = 0 then none else
    let l := if x1 = x2 then (3 * x1 * x1 + c.a) % p * invMod (2 * y1 % p) p % p
      else (y2 + p - y1) % p * invMod ((x2 + p - x1) % p) p % p
    let x3 := (l * l + 2 * p - x1 - x2) % p
    some (x3, (l * ((x1 + p - x3) % p) + p - y1) % p)

def ptMulF (c : WCurve) : Nat → Nat → Option (Nat × Nat) → Option (Nat × Nat)
  | 0, _, _ => none
  | fuel + 1, k, q => if k = 0 then none else
    let h := ptMulF c fuel (k / 2) (ptAdd c q q)
    if k % 2 = 1 then ptAdd c h q else h

/-- Scalar multiple of a point. -/
def ptMul (c : WCurve) (k : Nat) (q : Option (Nat × Nat)) : Option (Nat × Nat) := ptMulF c (bitLen k) k q

/-- A point whose coordinates are below p and which lies on the curve (R232). -/
def onCurve (c : WCurve) (x y : Nat) : Bool :=
  decide (x < c.p) && decide (y < c.p) && (y * y % c.p == (x * x % c.p * x + c.a * x + c.b) % c.p)

/-- Public point of a private scalar, encoded (R219). -/
def pubPoint (c : WCurve) (d : Nat) : List Byte :=
  match ptMul c d (some (c.gx, c.gy)) with
  | some (x, y) => 0x04 :: (beBytes c.len x ++ beBytes c.len y)
  | none => 0x04 :: List.replicate (2 * c.len) 0

/-! ## X25519 (RFC 7748) -/

def p25519 : Nat := 2 ^ 255 - 19

/-- Order of the prime-order subgroup. -/
def l25519 : Nat := 2 ^ 252 + 27742317777372353535851937790883648493

/-- The Montgomery ladder over the bits of a scalar, most significant first: X and Z of the scalar multiple of the point with
u-coordinate `u`. -/
def ladder (u : Nat) (bits : List Bool) : Nat × Nat :=
  let p := p25519
  let r := bits.foldl (fun (s : (Nat × Nat) × (Nat × Nat)) b =>
    let s := if b then (s.2, s.1) else s
    let (x2, z2) := s.1
    let (x3, z3) := s.2
    let a := (x2 + z2) % p
    let aa := a * a % p
    let b' := (x2 + p - z2) % p
    let bb := b' * b' % p
    let e := (aa + p - bb) % p
    let da := (x3 + p - z3) % p * a % p
    let cb := (x3 + z3) % p * b' % p
    let n2 := (aa * bb % p, e * ((aa + 121665 * e) % p) % p)
    let n3 := ((da + cb) % p * ((da + cb) % p) % p, u * ((da + p - cb) % p * ((da + p - cb) % p) % p) % p)
    if b then (n3, n2) else (n2, n3)) ((1, 0), (u, 1))
  r.1

def natBits (n k : Nat) : List Bool := (List.range n).map (fun i => bitAt k (n - 1 - i))

/-- The clamped scalar of a private string. -/
def clamp (k : List Byte) : Nat := leAt k 0 32 % 2 ^ 254 / 8 * 8 + 2 ^ 254

/-- Scalar multiplication on u-coordinates. -/
def x25519 (k u : Nat) : Nat :=
  let (x, z) := ladder u (natBits 255 k)
  x * invMod z p25519 % p25519

/-- R232 for an X25519 public value: below p, on the curve and in the prime-order subgroup. -/
def u25519Ok (u : Nat) : Bool :=
  let p := p25519
  let w := (u * u % p * u + 486662 * (u * u % p) + u) % p
  decide (u < p) && powMod w ((p - 1) / 2) p == 1 && (ladder u (natBits 255 l25519)).2 == 0

end Sys2Proof.Machine
end

