-- ==== Sys2Proof/Machine/Recorder.lean ====
section
/-! DEFINITION. The event recorder (14): records and their CRC, the two areas, rate limits, and reading and clearing the log.
Marks: assumptions 98, 99 and 118. -/

namespace Sys2Proof.Machine

/-- One byte into the CRC-8 of R401: polynomial 0x07, no reflection. -/
def crc8Byte (c b : Byte) : Byte :=
  (List.range 8).foldl (fun x _ => if x.msb then (x <<< 1) ^^^ 0x07#8 else x <<< 1) (c ^^^ b)

/-- CRC-8 from 0x00 over bytes in address order (R401). -/
def crc8 (l : List Byte) : Byte := l.foldl crc8Byte 0

/-- The first 30 bytes of a record (R401). -/
def recHead (r : EvRec) : List Byte :=
  leBytes 8 r.seq ++ leBytes 8 (stampTime r.req.time r.req.epoch) ++ leBytes 2 r.req.code ++ leBytes 2 r.req.source
    ++ leBytes 4 r.req.p1 ++ leBytes 4 r.req.p2 ++ leBytes 2 r.req.suppressed

/-- The 32 bytes of a committed record (R401). -/
def recBytes (r : EvRec) : List Byte := recHead r ++ [crc8 (recHead r), 0x5A]

/-- A placeholder entry: number, zeros, kind (R411). -/
def placeholder (n kind : Nat) : List Byte := leBytes 8 n ++ List.replicate 23 0 ++ [byteOf kind]

def nCirc : Nat := 262144
def nPerm : Nat := 4096

/-- The lowest permanent slot, from `k` on, that a table lists nothing in. -/
def lowestBlank : Tab EvRec → Nat → Nat
  | [], k => k
  | (j, _) :: t, k => if j = k then lowestBlank t (k + 1) else lowestBlank t k

/-- The permanent slot of a record, where it has one (R407). -/
def permSlot (g : Recorder) (seq code : Nat) : Option Nat :=
  if code = 0x1010 ∨ code = 0x2004 then
    (if lowestBlank g.perm 0 < nPerm then some (lowestBlank g.perm 0) else none)
  else if seq < nPerm then some seq else none

/-- Moves requests held by their raising units into freed entries of the queue (R406). -/
def refill (d : Dev) : Dev :=
  match d.log.held with
  | [] => d
  | q :: qs => if d.log.queue.length < 256 then accept q { d with log := { d.log with held := qs } } else d

/-- Writes the oldest queued request (R402, R403, R405, R407): the reservation of its number first, then the record. -/
def writeRecord (d : Dev) : Dev :=
  match d.log.queue with
  | [] => d
  | q :: qs =>
    if !d.sys.ksk || recorderSilent d then d else
    let g := d.log
    let r : EvRec := { seq := g.head, req := q }
    let g1 := { g with
      queue := qs
      resEnd := (if g.head < g.resEnd then g.resEnd else g.head + 1024)
      head := g.head + 1
      circ := Tab.put g.circ (g.head % nCirc) r
      perm := match permSlot g g.head q.code with
        | some k => Tab.put g.perm k r
        | none => g.perm }
    refill (count 0x9001 1 none (some 0x303) false none { d with log := g1 })

/-- A token is added to a code's bucket (R408). -/
def addToken (code : Nat) (d : Dev) : Dev :=
  let n := Tab.getD d.log.spent code 0
  { d with log := { d.log with spent := if n ≤ 1 then Tab.del d.log.spent code else Tab.put d.log.spent code (n - 1) } }

/-- The lowest code with the most suppressions of a window (R409). -/
def mostSuppressed (w : Tab Nat) : Nat × Nat :=
  w.foldl (fun best (c, n) => if best.2 < n then (c, n) else best) (0, 0)

/-- The end of a 10 s window: record `0xA001` where anything was suppressed in it (R409). -/
def windowEnd (d : Dev) : Dev :=
  let w := d.log.window
  let d1 := { d with log := { d.log with window := [] } }
  if w.isEmpty then d1
  else raise 0xA001 (mostSuppressed w).1 w.length (sat 0xFFFFFFFF (w.foldl (fun n e => n + e.2) 0)) d1

/-- Entry of the circulating area for one number, with its kind (R411, R412, R413). -/
def circEntry (d : Dev) (s : Nat) : Nat × List Byte :=
  if recorderSilent d then (0, placeholder s 0)
  else if s + nCirc < nextSeq d then (1, placeholder s 1)
  else match Tab.find d.log.circ (s % nCirc) with
  | some r =>
    if !r.readable || r.damaged || decide (r.seq < d.log.clearMark) then (0, placeholder s 0)
    else if r.seq = s then (0x5A, recBytes r)
    else if s < r.seq then (1, placeholder s 1) else (0, placeholder s 0)
  | none => (0, placeholder s 0)

/-- Entry of a permanent slot, with its kind (R411, R412). -/
def permEntry (d : Dev) (k : Nat) : Nat × List Byte :=
  match Tab.find d.log.perm k with
  | some r =>
    if r.damaged then (0, placeholder k 0)
    else if r.readable && !recorderSilent d then (0x5A, recBytes r) else (2, placeholder k 2)
  | none => (0, placeholder k 0)

/-- What a read of the log answers: entries in ascending order and the 40-byte response body (R411, R412). `plain` is false where
the boot ROM serves the read and returns every entry as a gap (R365, R430). -/
def readLog (plain : Bool) (area cnt first : Nat) (d : Dev) : List Byte × List Byte :=
  let head := nextSeq d
  let from_ := if area = 0 ∧ first = 2 ^ 64 - 1 then head - cnt else first
  let to_ := if area = 0 then min (from_ + cnt) head else min (from_ + cnt) nPerm
  let es := (List.range (to_ - from_)).map (fun i =>
    if !plain then (0, placeholder (from_ + i) 0)
    else if area = 0 then circEntry d (from_ + i) else permEntry d (from_ + i))
  let n := fun k => (es.filter (fun e => e.1 == k)).length
  ((es.map (·.2)).flatten,
    leBytes 8 head ++ leBytes 8 head ++ leBytes 8 from_ ++ leBytes 4 es.length ++ leBytes 4 (n 0) ++ leBytes 4 (n 1)
      ++ leBytes 4 (n 2))

/-- Fields of `LOG_READ` in range (R411). -/
def logReadOk (inp : List Byte) : Bool :=
  let area := leAt inp 0 1
  decide (area ≤ 1) && zeroFrom inp 1 4 && decide (1 ≤ leAt inp 4 4)
    && decide (leAt inp 4 4 ≤ if area = 0 then nCirc else nPerm) && (area == 0 || decide (leAt inp 8 8 < nPerm))

/-- Sets the clear mark to the next number and writes record `0xA002` under that number (R413). -/
def clearLog (d : Dev) : Dev :=
  let mark := nextSeq d
  let low := max d.log.clearMark (mark - nCirc)
  let d1 := { d with log := { d.log with clearMark := mark } }
  if low < mark then raise 0xA002 0xFFFF low (sat 0xFFFFFFFF (mark - low)) d1 else raise 0xA002 0xFFFF mark 0 d1

/-- Sets or restores a code's rate and burst, refills its bucket and writes record `0xA003` (R410). -/
def setRate (code rate burst : Nat) (d : Dev) : Dev :=
  let g := d.log
  let d1 := { d with log := { g with
    rates := if rate = 0 then Tab.del g.rates code else Tab.put g.rates code (rate, burst)
    spent := Tab.del g.spent code } }
  let (r, b) := rateOf d1 code
  raise 0xA003 0xFFFF code (r * 65536 + b) d1

end Sys2Proof.Machine
end

