-- ==== Sys2Proof/Machine/Mailbox.lean ====
section
/-! DEFINITION. The mailbox handshake and the frames of requests and responses (09). -/

namespace Sys2Proof.Machine

/-- The opcode of each operation (R283). -/
def opCode : MOp → Nat
  | .devInfo => 0x8001 | .devReset => 0x8002 | .timeSet => 0x8003 | .nonceGet => 0x8004 | .sessionOpen _ _ => 0x8005
  | .sessionClose => 0x8006 | .hifPolicySet => 0x8007 | .rngSelfTest _ => 0x8008 | .rngRawSample => 0x8009
  | .sliceCreate => 0x8101 | .sliceBind => 0x8102 | .sliceRingSetup => 0x8103 | .sliceActivate => 0x8104
  | .sliceQuiesce => 0x8105 | .sliceFreeze => 0x8106 | .sliceResume => 0x8107 | .sliceReset => 0x8108
  | .sliceRemove => 0x8109 | .sliceSave => 0x810A | .sliceRestore _ _ => 0x810B | .slicePolicySet => 0x810C
  | .sliceStatus => 0x810D | .migOffer | .migAccept _ | .migComplete _ => 0x810E | .tenantPolicySet => 0x810F
  | .officerEnroll _ => 0x8201 | .officerRemove => 0x8202 | .quorumSet => 0x8203 | .officerList => 0x8204
  | .lmkComponentLoad => 0x8301 | .lmkCommit => 0x8302 | .lmkTr34Load _ => 0x8303 | .lmkActivate => 0x8304
  | .lmkRemove => 0x8305 | .lmkInfo => 0x8306 | .krdInit _ => 0x8307 | .anchorSet _ => 0x8308
  | .curveLoad _ | .curveClear => 0x8309 | .slotImport => 0x830A | .slotDelete => 0x830B
  | .logRead => 0x8401 | .logClear => 0x8402 | .logRateSet => 0x8403
  | .ctrSelect => 0x8501 | .ctrRead => 0x8502 | .ctrDumpSet => 0x8503 | .bwmonSet => 0x8504 | .ctrGrant => 0x8505
  | .ctrRevoke => 0x8506
  | .tamperStatus => 0x8601 | .tamperUnlock => 0x8602 | .tamperConfig => 0x8603 | .tamperFuseDisable => 0x8604
  | .lcClose => 0x8605 | .lcScrap => 0x8606 | .debugChallenge => 0x8607 | .debugReopen _ => 0x8608
  | .fwStatus => 0x8701 | .fwActivate => 0x8702 | .fwDiscard => 0x8703
  | .pairFound | .pairJoin | .pairAdmit | .pairResolve => 0x8801 | .unpair => 0x8802 | .pairStatus => 0x8803
  | .pairTimeoutSet => 0x8804 | .pairSwap | .pairTakeOver => 0x8805

/-- Every opcode R283 defines. -/
def mgmtOpcodes : List Nat :=
  (List.range 9).map (· + 0x8001) ++ (List.range 15).map (· + 0x8101) ++ (List.range 4).map (· + 0x8201)
    ++ (List.range 11).map (· + 0x8301) ++ (List.range 3).map (· + 0x8401) ++ (List.range 6).map (· + 0x8501)
    ++ (List.range 8).map (· + 0x8601) ++ (List.range 3).map (· + 0x8701) ++ (List.range 5).map (· + 0x8801)

/-- What the body of an operation answers. -/
inductive BRes where
  /-- A failing status, with a diagnostic body where the owning chapter states one. -/
  | fail (s : Status) (c : Cx) (diag : List Byte)
  | done (c : Cx) (body out : List Byte)
  | wait (w : MbWait) (c : Cx)

def mailboxOf (d : Dev) (m : Nat) : Mailbox := Tab.getD d.mg.boxes m {}

def modBox (m : Nat) (f : Mailbox → Mailbox) (d : Dev) : Dev :=
  { d with mg := { d.mg with boxes := Tab.upd d.mg.boxes m {} f } }

/-- The 32-byte response header (R266). -/
def respHeader (qseq : Nat) (r : Resp) (bodyLen : Nat) : List Byte :=
  leBytes 2 r.status.code ++ leBytes 2 r.opcode ++ leBytes 4 r.reqId ++ leBytes 4 bodyLen ++ leBytes 4 r.outLen
    ++ leBytes 4 qseq ++ leBytes 4 (bitOf r.unmirrored 3) ++ leBytes 8 r.eventSeq

/-- Number under which the requests of a secured SPDM session are kept beside those of the eight mailboxes (R272). -/
def spdmBox (session : Nat) : Nat := 256 + session

/-- Writes a response into the window: the mailbox is DONE and vector m is signalled where `IRQ_EN` is set (R261 steps 6, 7). Over SPDM it
travels as a vendor-defined response, and no `MB_QSEQ` stands in it (R272). -/
def writeResponse (m : Nat) (r : Resp) (d : Dev) : Dev :=
  let b := mailboxOf d m
  if 256 ≤ m then
    emit (.doe 0xFE 0 (respHeader 0 r r.body.length ++ r.body)) (modBox m (fun b => { b with state := .idle, cur := none, wait := .none }) d)
  else
  let d1 := modBox m (fun b => { b with
    state := .done, cur := none, wait := .none
    response := Mem.writeAll [] 0 (respHeader b.qseq r r.body.length ++ r.body) }) d
  if b.irqEn then signal m d1 else d1

/-- The nonce of a session message (R271). -/
def sessionNonce (dir session reqId : Nat) : List Byte :=
  [byteOf dir, 0, 0, 0] ++ leBytes 4 session ++ leBytes 4 reqId

/-- Answers a mailbox: DMA output first, then the response, which waits while a record it raised is held (R261, R266). In a session
body and output are one sealed message, with the tag at the end of the body (R271). -/
def respond (m : Nat) (r : Resp) (out : List Byte) (outAddr : Nat) (session : Nat) (d : Dev) : Dev :=
  let r1 : Resp := { r with outLen := if r.status = .ok then out.length else 0 }
  let plain := r1.body ++ out
  let (body, outB) :=
    match if session = 0 then none else Tab.find d.mg.sessions session with
    | none => (r1.body, out)
    | some s =>
      let hdr := respHeader (mailboxOf d m).qseq r1 (r1.body.length + 16)
      let n := plain.length + 16
      let ct := beBytes n (Config.sealed (s.key.drop 32) (sessionNonce 1 session r1.reqId) hdr plain)
      (ct.take r1.body.length ++ ct.drop plain.length, (ct.drop r1.body.length).take out.length)
  let d1 := if outB.isEmpty then d else emit (.mailboxData outAddr outB) d
  let r2 := { r1 with body }
  if d1.log.held.isEmpty then writeResponse m r2 d1 else modBox m (fun b => { b with wait := .record r2 }) d1

/-- Writes the responses that waited for the recorder, once nothing is held (R266). -/
def releaseRecordWaits (d : Dev) : Dev :=
  if !d.log.held.isEmpty then d else
  (d.mg.boxes.map (·.1)).foldl (fun d m =>
    match (mailboxOf d m).wait with
    | .record r => writeResponse m r d
    | _ => d) d

/-- Number of the last record a request has written: one taken since `before`, or the one noted earlier (R266). -/
def lastRecord (m before : Nat) (d : Dev) : Nat := if before < nextSeq d then nextSeq d - 1 else (mailboxOf d m).lastRec

/-- Answers the request in service on a mailbox. `before` is the recorder's next number when this part of the request began (R266). A
session that closes, or whose `REQ_ID` has reached its top, ends with its response (R271, R276). -/
def answer (m : Nat) (status : Status) (body out : List Byte) (unm : Bool) (before : Nat) (d : Dev) : Dev :=
  match (mailboxOf d m).cur with
  | none => d
  | some (op, q) =>
    let d1 := respond m { status, opcode := opCode op, reqId := q.reqId, body, unmirrored := unm
                          eventSeq := lastRecord m before d }
                out q.outAddr q.session d
    match if q.session = 0 then none else Tab.find d1.mg.sessions q.session with
    | none => d1
    | some x =>
      let d2 : Dev := { d1 with mg := { d1.mg with sessions := Tab.del d1.mg.sessions q.session } }
      if op = .sessionClose ∧ status = .ok then d2
      else if q.reqId = 0xFFFFFFFF then raise 0x3005 x.scope x.officer 0 d2
      else d1

/-- `ACK` in DONE makes the mailbox IDLE; in any other state it is ignored and sets `REJECTED` (R261). -/
def ackBox (m : Nat) (d : Dev) : Dev :=
  modBox m (fun b => if b.state = .done then { b with state := .idle } else { b with rejected := true }) d

/-- An accepted `GO`: BUSY, `REQ_ID` latched, `REJECTED` and `ABANDONED` clear (R260, R261). -/
def goBox (m reqId : Nat) (d : Dev) : Dev :=
  modBox m (fun b => { b with state := .busy, reqId, rejected := false, abandoned := false, wait := .none, lastRec := 0 }) d

/-- A `GO` or `ACK` in a state that does not allow it (R261). -/
def rejectBox (m : Nat) (d : Dev) : Dev := modBox m (fun b => { b with rejected := true }) d

/-- A request header as it stands in the window (R265). -/
def headerOf (w : Mem) (m : Nat) : MbReq :=
  let l := Mem.readAll w 0 48
  { mailbox := m, scope := leAt l 2 2, reqId := leAt l 4 4, bodyLen := leAt l 8 4, session := leAt l 12 4
    inAddr := leAt l 16 8, inLen := leAt l 24 4, outCap := leAt l 28 4, outAddr := leAt l 32 8, quorumLen := leAt l 40 4
    rsv := leAt l 44 4 }

/-- The header checks of R268 step 1 (R265): reserved fields give `ST_FORMAT`, lengths out of range `ST_LENGTH`. -/
def headerCheck (q : MbReq) : Option Status :=
  if q.rsv ≠ 0 ∨ (q.inLen = 0 ∧ q.inAddr ≠ 0) ∨ (q.outCap = 0 ∧ q.outAddr ≠ 0) then some .format
  else if 2000 < q.bodyLen ∨ 65536 < q.inLen ∨ 16777216 < q.outCap ∨ q.bodyLen + q.inLen < q.quorumLen then some .length
  else none

end Sys2Proof.Machine
end

