-- ==== Sys2Proof/Machine/Rings.lean ====
section
/-! DEFINITION. Rings, completion records, interrupts and doorbells (02).
Marks: assumptions 33 to 35. -/

namespace Sys2Proof.Machine

/-- Items of a slice in flight: descriptors fetched whose record is not yet written (R74). -/
def inflight (s : Slice) : Nat := s.rings.foldl (fun n e => n + e.2.inflight) 0

/-- Completion slots owed and not yet released on a ring (R49). -/
def owed (n : Nat) (r : RingDyn) : Nat := r.inflight + (r.write + n - r.cHead) % n

/-- A message of a slice's entry: sent, or left pending while the entry is masked or names a reserved vector (R62, R63). -/
def sendMessage (n : Nat) (d : Dev) : Dev :=
  let e := (sliceOf d n).irq
  if e.masked || (e.msixMode && e.vector < 16) then
    modSlice n (fun s => { s with irq := { s.irq with pending := true } }) d
  else
    let d1 := modSlice n (fun s => { s with irq := { s.irq with pending := false } }) d
    if e.msixMode then signal e.vector d1 else emit (.message e.addr e.data) d1

/-- The 64 bytes of a completion record (R57). -/
def recordBytes (slice : Nat) (phase : Bool) (head : Nat) (tag status opcode seq outLen flags : Nat) (inl : List Byte) : List Byte :=
  leBytes 8 tag ++ leBytes 2 status ++ leBytes 2 opcode ++ leBytes 2 (slice + bitOf phase 15) ++ leBytes 2 head
    ++ leBytes 4 seq ++ leBytes 4 outLen ++ leBytes 4 flags ++ leBytes 4 0 ++ fit inl 32

/-- Writes a record into the next slot of a completion ring; the phase inverts when the index wraps (R50). -/
def putRecord (n ring tag status opcode seq outLen flags : Nat) (inl : List Byte) (d : Dev) : Dev :=
  let s := sliceOf d n
  let r := ringOf s ring
  let size := ringSize s ring
  let d1 := emit (.completion s.per.pasid ((ringCfg s ring).cqBase + 64 * r.write)
    (recordBytes n r.phase r.head tag status opcode seq outLen flags inl)) d
  modRing n ring (fun r => { r with
    write := if r.write + 1 = size then 0 else r.write + 1
    phase := if r.write + 1 = size then !r.phase else r.phase }) d1

/-- The one ring-halt record, once every descriptor fetched before the failure has completed; it always owes a message (R65). -/
def haltRecord (n ring : Nat) (d : Dev) : Dev :=
  let r := ringOf (sliceOf d n) ring
  if r.haltOwed && r.inflight == 0 then
    sendMessage n (putRecord n ring 0 Status.dmaFault.code 0 0xFFFFFFFF 0 16 []
      (modRing n ring (fun r => { r with haltOwed := false }) d))
  else d

/-- Counter events of a completed item (R418). -/
def countItem (n opcode : Nat) (status : Status) (fenced : Bool) (d : Dev) : Dev :=
  let g := opcode / 256
  let d1 := if 1 ≤ g ∧ g ≤ 7 then count (0x1100 + g) 1 (some n) none false none d else d
  let d2 := if status = .ok then d1 else count 0x1200 1 (some n) none false none d1
  let d3 := if fenced then count 0x1201 1 (some n) none false none d2 else d2
  if status = .aborted then count 0x1202 1 (some n) none false none d3 else d3

/-- The completion of one fetched descriptor: its record, its message where `IRQ` is set, and the ring-halt record it may have held
back (R50, R57, R63). -/
def complete (n ring tag : Nat) (status : Status) (opcode seq outLen flags : Nat) (inl : List Byte) (irq : Bool) (d : Dev) : Dev :=
  let d1 := putRecord n ring tag status.code opcode seq outLen flags inl d
  let d2 := modRing n ring (fun r => { r with inflight := r.inflight - 1 }) d1
  let d3 := countItem n opcode status (bitAt flags 1) d2
  haltRecord n ring (if irq then sendMessage n d3 else d3)

/-! ## Descriptor fields (R51, R52) -/

def dOpcode (l : List Byte) : Nat := leAt l 0 2
def dFlags (l : List Byte) : Nat := leAt l 2 2
def dSlice (l : List Byte) : Nat := leAt l 4 2
def dFlow (l : List Byte) : Nat := leAt l 6 2
def dTag (l : List Byte) : Nat := leAt l 8 8
def dInAddr (l : List Byte) : Nat := leAt l 0x10 8
def dInLen (l : List Byte) : Nat := leAt l 0x18 4
def dOutCap (l : List Byte) : Nat := leAt l 0x1C 4
def dOutAddr (l : List Byte) : Nat := leAt l 0x20 8
def dKeyA (l : List Byte) : Nat := leAt l 0x28 8
def dKeyB (l : List Byte) : Nat := leAt l 0x30 8
def dFlowType (l : List Byte) : Nat := dFlags l % 4
def dPriority (l : List Byte) : Nat := bits (dFlags l) 4 2
def dIrq (l : List Byte) : Bool := bitAt (dFlags l) 5
def dInlineIn (l : List Byte) : Bool := bitAt (dFlags l) 6
def dInlineOut (l : List Byte) : Bool := bitAt (dFlags l) 7
/-- Byte `o` of the parameter block, `o` a descriptor offset from 0x38. -/
def dParam (l : List Byte) (o n : Nat) : Nat := leAt l o n

/-! ## Doorbells (R46, R47, R60) -/

/-- A rejected doorbell write (R46). -/
def dbError (n : Nat) (d : Dev) : Dev :=
  count 0x6001 1 (some n) none false none
    (modSlice n (fun s => { s with dbErr := true, dbErrCount := sat 0xFFFF (s.dbErrCount + 1) }) d)

/-- A spoof event of a slice's page or ring (R60). -/
def spoofEvent (code n p1 p2 : Nat) (d : Dev) : Dev :=
  let d1 := modSlice n (fun s => { s with spoof := true, spoofCount := sat 0xFFFF (s.spoofCount + 1) }) d
  let d2 := { d1 with hif := { d1.hif with spoofTotal := sat 0xFFFFFFFF (d1.hif.spoofTotal + 1) } }
  raise code n p1 p2 (count 0x6002 1 (some n) none false none d2)

/-- The index checks of R47 on a submission tail. -/
def tailOk (n h told t : Nat) : Bool := decide (t < n) && decide ((told + n - h) % n ≤ (t + n - h) % n)

/-- The index checks of R47 on a completion head. -/
def headOk (n c w x : Nat) : Bool := decide (x < n) && decide ((x + n - c) % n ≤ (w + n - c) % n)

/-- Size and alignment R36 allows outside the mailbox windows. -/
def sizeOk (a : BarAccess) : Bool := (a.size == 4 || a.size == 8) && a.off % a.size == 0

/-- A write that BAD_ACCESS answers (R36). -/
def badAccess (n : Nat) (a : BarAccess) (d : Dev) : Dev := emit (.barAnswer .discarded 0) (hifError 0 n a.off d)

/-- A write to a slice's doorbell page, checked in the order of R46. -/
def pageWrite (a : BarAccess) (d : Dev) : Dev :=
  let n := a.off / 0x1000 % 4096
  let o := a.off % 0x1000
  let s := sliceOf d n
  let bell := decide (o < 0x40)
  let sq := decide (o < 0x20)
  let ring := (o % 0x20) / 4
  let r := ringOf s ring
  let size := ringSize s ring
  if d.hif.ideRequired && !a.ide then badAccess n a d
  else if a.vc1 then hifError 3 n a.off d
  else if s.state = .free then d
  else if a.pasid ≠ some s.per.pasid then
    spoofEvent 0x9002 n (a.pasid.getD 0xFFFFFFFF) (if bell then ring else 0xFFFFFFFF) d
  else if bell then
    if a.size ≠ 4 ∨ a.off % 4 ≠ 0 ∨ 2 ^ 16 ≤ a.value % 2 ^ 32 then
      dbError n (if sizeOk a then d else hifError 0 n a.off d)
    else if s.state = .error ∨ s.state = .bound then dbError n d
    else if !r.enabled || r.halted then dbError n d
    else if sq then
      if tailOk size r.head r.tail a.value then
        count 0x6000 1 (some n) none false none (modRing n ring (fun r => { r with tail := a.value }) d)
      else dbError n d
    else if headOk size r.cHead r.write a.value then
      count 0x6000 1 (some n) none false none (modRing n ring (fun r => { r with cHead := a.value }) d)
    else dbError n d
  else if !sizeOk a then badAccess n a d
  else if o = 0x40 then
    modSlice n (fun s => { s with
      spoof := s.spoof && !bitAt a.value 4
      dbErr := s.dbErr && !bitAt a.value 5
      dmaErr := s.dmaErr && !bitAt a.value 6 }) d
  else d

/-! ## Fetching (R49) -/

/-- The host interface and Sheepdog serve: READY has been reached, and no device fault stop holds (R329). -/
def serving (d : Dev) : Bool := d.sys.ready && !devFault d && !d.sys.inReset && d.sys.powered

/-- Intake of every slice is held closed by a Lock (R352) or an activation (R445). -/
def intakeHeld (d : Dev) : Bool := d.goose.lock || (decide (2 ≤ d.fw.step) && decide (d.fw.step ≤ 5))

/-- Some IDE stream serves (R67). -/
def ideCovered (d : Dev) : Bool := d.hif.ide.any (fun e => e.2.keyed && !e.2.insecure)

/-- A read may be issued under the Owner's IDE policy (R67). -/
def readAllowed (d : Dev) : Bool := !d.hif.ideRequired || ideCovered d

/-- A descriptor of a ring pair may be fetched now (R49). -/
def fetchable (d : Dev) (n ring : Nat) : Bool :=
  let s := sliceOf d n
  let r := ringOf s ring
  let size := ringSize s ring
  s.state == .active && s.intake && !intakeHeld d && r.enabled && !r.halted && decide (0 < size)
    && ((r.head + r.fetches.length) % size != r.tail) && decide (owed size r < size - 1) && decide (inflight s < s.per.inflight)

/-- Elements of a list in cyclic order after `last`, each element keyed by a number. -/
def cyclic {α : Type} (key : α → Nat) (last : Nat) (l : List α) : List α :=
  l.filter (fun x => decide (last < key x)) ++ l.filter (fun x => decide (key x ≤ last))

/-- The next slice and ring pair of the fetch round-robin (R49). -/
def nextFetch (d : Dev) : Option (Nat × Nat) :=
  let cand := (d.slices.map (·.1)).filter (fun n => (List.range 8).any (fetchable d n))
  match cyclic id d.hif.rrSlice cand with
  | [] => none
  | n :: _ =>
    match (cyclic id (sliceOf d n).rrRing (List.range 8)).filter (fetchable d n) with
    | [] => none
    | r :: _ => some (n, r)

/-- Issues the next descriptor fetch (R49). -/
def fetchNext (d : Dev) : Dev :=
  if !serving d || !readAllowed d then d else
  match nextFetch d with
  | none => d
  | some (n, ring) =>
    let s := sliceOf d n
    let r := ringOf s ring
    let i := (r.head + r.fetches.length) % ringSize s ring
    let d1 := modSlice n (fun s => { s with rrRing := ring })
      (modRing n ring (fun r => { r with fetches := r.fetches ++ [i], inflight := r.inflight + 1 }) d)
    emit (.fetch n ring i s.per.pasid ((ringCfg s ring).sqBase + 128 * i)) { d1 with hif := { d1.hif with rrSlice := n } }

end Sys2Proof.Machine
end

