-- ==== Sys2Proof/Machine/Sheepdog.lean ====
section
/-! DEFINITION. Sheepdog: flows, acceptance, dispatch, preemption, release, the reorder buffer, fencing's take-back and aborts (03).
Marks: assumptions 38 to 40. -/

namespace Sys2Proof.Machine

def itemOf (d : Dev) (id : Nat) : Option Item := Tab.find d.sched.items id

def modSched (f : Sched → Sched) (d : Dev) : Dev := { d with sched := f d.sched }

/-- Changes an item in flight. -/
def modItem (id : Nat) (f : Item → Item) (d : Dev) : Dev :=
  match itemOf d id with
  | some i => modSched (fun s => { s with items := Tab.put s.items id (f i) }) d
  | none => d

def threadOf (d : Dev) (k : Nat) : Thread := Tab.getD d.sched.threads k {}

def modThread (k : Nat) (f : Thread → Thread) (d : Dev) : Dev :=
  modSched (fun s => { s with threads := Tab.upd s.threads k {} f }) d

/-- Key of a flow context (R71). -/
def flowKey (slice flow : Nat) : Nat := slice * 65536 + flow

def itemFlow (i : Item) : Nat := flowKey i.slice (dFlow i.desc)

def flowType (i : Item) : FlowType :=
  match dFlowType i.desc with
  | 1 => .ordered
  | 2 => .atomic
  | _ => .unordered

def priority (i : Item) : Nat := dPriority i.desc

/-- The core is present and not fenced (R4, R91). -/
def coreUp (d : Dev) (c : Nat) : Bool := decide (c < coreCount d) && !d.fen.tc.getLsbD c

/-- Items and their numbers. -/
def itemList (d : Dev) : List (Nat × Item) := d.sched.items

/-- The item is the oldest unreleased of its flow. -/
def oldest (d : Dev) (i : Item) : Bool :=
  match Tab.find d.sched.flows (itemFlow i) with
  | some f => i.seq == some f.nextRel
  | none => true

/-- An item that needs a reorder entry when it finishes (R77). -/
def needsEntry (d : Dev) (i : Item) : Bool := flowType i == .ordered && !oldest d i

def reorderCount (d : Dev) : Nat := ((itemList d).filter (fun e => e.2.place == .reorder)).length

def reorderFull (d : Dev) : Bool := decide (4096 ≤ reorderCount d)

/-- Save slots of a core in use (R78). -/
def slotsUsed (d : Dev) (c : Nat) : List Nat :=
  (itemList d).filterMap (fun e => match e.2.place with
    | .preempted c' k | .parked c' k => if c' = c then some k else none
    | _ => none)

/-- The lowest free save slot of a core (R78). -/
def freeSlot (d : Dev) (c : Nat) : Option Nat := (List.range 8).find? (fun k => !(slotsUsed d c).contains k)

/-! ## Engine requests of an item -/

/-- Cancels an item's engine requests: queued ones leave the queue, running ones are aborted (R89, R205, R237). -/
def cancelRequests (id : Nat) (d : Dev) : Dev :=
  let stop := fun (t : Tab Engine) => t.map (fun (k, e) =>
    (k, if e.cur.any (fun q => q.item == id) then { e with aborting := true } else e))
  { d with eng := { d.eng with
    queue := d.eng.queue.filter (fun q => q.item != id)
    ce := stop d.eng.ce, de := stop d.eng.de, pk := stop d.eng.pk } }

/-- An engine still zeroises an aborted request of the item (R205, R237). -/
def engineBusy (d : Dev) (id : Nat) : Bool :=
  (d.eng.ce ++ d.eng.de ++ d.eng.pk).any (fun e => e.2.aborting && e.2.cur.any (fun q => q.item == id))

/-- Steps an item originated that are not yet sequenced end with it; a sequenced one stands on its own (R383, R390). -/
def cancelSteps (id : Nat) (d : Dev) : Dev :=
  { d with pair := { d.pair with steps := d.pair.steps.filterMap (fun p =>
      if p.origin = .item id then
        (match p.phase with
          | .sequenced _ | .requested | .committing => some { p with origin := .device }
          | .waiting => none)
      else some p) } }

/-! ## Release -/

/-- Ends a thread's item: the key-scratch partition is zeroised (R88). -/
def freeThread (p : Place) (d : Dev) : Dev :=
  match p with
  | .running c t | .stalled c t => modThread (4 * c + t) (fun h => { h with item := none }) d
  | _ => d

/-- `RESULT_FLAGS` of a finished item (R58, R90). -/
def resultFlags (i : Item) (r : Res) : Nat :=
  bitOf r.trunc 0 + bitOf (i.retried && r.status == .ok) 1
    + bitOf (dInlineOut i.desc && r.status == .ok && !r.out.isEmpty) 2 + bitOf i.unmirrored 3

/-- A drained slice is QUIESCED, or stays in ERROR, and the quiesce commands that wait are answered: the record is the
first one's (R92, R266, R299, R305). -/
def checkDrained (n : Nat) (d : Dev) : Dev :=
  let s := sliceOf d n
  match s.drain with
  | none => d
  | some dr =>
    if inflight s ≠ 0 then d
    else
      let failed := s.state == .error
      let before := nextSeq d
      let d1 := modSlice n (fun s => { s with drain := none, state := if failed then s.state else .quiesced }) d
      let d2 := if failed then d1 else raise 0x4004 n dr.drained dr.aborted d1
      let body := leBytes 4 dr.drained ++ leBytes 4 dr.aborted ++ leBytes 4 ((dr.last - dr.start) / 1000) ++ leBytes 4 0
      (dr.mailboxes.foldl (fun (x : Dev × Nat) m =>
        let y := if failed then answer m .sliceState [] [] false x.2 x.1 else answer m .ok body [] false x.2 x.1
        (y, nextSeq y)) (d2, before)).1

/-- Hands a finished item to the host interface, which writes its output and its completion record (R50, R75). -/
def release (id : Nat) (d : Dev) : Dev :=
  match itemOf d id with
  | none => d
  | some i =>
    let r := i.res.getD { status := .fault }
    let ok := r.status == .ok
    let out := if ok then r.out else []
    let s := sliceOf d i.slice
    let d1 := if ok && !dInlineOut i.desc && !out.isEmpty then emit (.data s.per.pasid (dOutAddr i.desc) out) d else d
    let inl := if ok && dInlineOut i.desc then out else r.fixed
    let d2 := freeThread i.place (modSched (fun s => { s with items := Tab.del s.items id }) d1)
    let d3 := modSlice i.slice (fun s => { s with drain := s.drain.map (fun dr => { dr with
      drained := if r.status = .aborted then dr.drained else dr.drained + 1
      aborted := if r.status = .aborted then dr.aborted + 1 else dr.aborted
      last := d.sys.uptime }) }) d2
    checkDrained i.slice (complete i.slice i.ring (dTag i.desc) r.status (dOpcode i.desc)
      (i.seq.getD 0xFFFFFFFF) out.length (resultFlags i r) inl (dIrq i.desc) d3)

/-- Finished and not yet released. -/
def waiting (i : Item) : Bool :=
  match i.place with
  | .reorder | .parked _ _ | .stalled _ _ | .held => true
  | _ => false

/-- The next sequence number of a flow to release (R75). -/
def stepRel (k : Nat) (f : Flow) (d : Dev) : Dev :=
  modSched (fun s => { s with flows := Tab.put s.flows k { f with nextRel := (f.nextRel + 1) % 2 ^ 32 } }) d

/-- Releases the items of an ordered flow that follow in sequence and wait (R75). -/
def releaseFollowing : Nat → Nat → Dev → Dev
  | 0, _, d => d
  | fuel + 1, k, d =>
    match Tab.find d.sched.flows k with
    | none => d
    | some f =>
      match (itemList d).find? (fun e => itemFlow e.2 == k && e.2.seq == some f.nextRel && waiting e.2) with
      | none => d
      | some (id, _) =>
        releaseFollowing fuel k (stepRel k f (release id d))

/-- Rank of a waiting item for a freed reorder entry: higher priority, then stalled, parked, held, then longest wait (R77). -/
def entryRank (i : Item) : Nat :=
  let k := match i.place with
    | .stalled _ _ => 0
    | .parked _ _ => 1
    | _ => 2
  ((7 - priority i) * 3 + k) * 2 ^ 64 + i.waitStamp

/-- The element of least rank, the first of several. -/
def leastBy {α : Type} (rank : α → Nat) : List α → Option α
  | [] => none
  | x :: l => match leastBy rank l with
    | none => some x
    | some y => if rank y < rank x then some y else some x

/-- Gives free reorder entries to the items that wait for one (R77). -/
def fillReorder : Nat → Dev → Dev
  | 0, d => d
  | fuel + 1, d =>
    if reorderFull d then d else
    match leastBy (fun e => entryRank e.2) ((itemList d).filter (fun e => waiting e.2 && e.2.place != .reorder)) with
    | none => d
    | some (id, i) => fillReorder fuel (modItem id (fun i => { i with place := .reorder }) (freeThread i.place d))

/-- An item has its final status: it is released, enters the reorder buffer, or waits for an entry (R75, R77). -/
def finishItem (id : Nat) (d : Dev) : Dev :=
  match itemOf d id with
  | none => d
  | some i0 =>
    let i := { i0 with copies := [], run := none, queued := none }
    let d := modItem id (fun _ => i) d
    if needsEntry d i then
      if !reorderFull d then modItem id (fun i => { i with place := .reorder, wait := .none }) (freeThread i.place d)
      else modSched (fun s => { s with clock := s.clock + 1 }) (modItem id (fun i => { i with
        place := (match i.place with
          | .running c t => .stalled c t
          | p => if waiting i then p else .held)
        wait := .none, waitStamp := d.sched.clock }) d)
    else
      let d1 := release id d
      let d2 := if flowType i = .ordered then
          (match Tab.find d1.sched.flows (itemFlow i) with
            | some f => releaseFollowing (itemList d1).length (itemFlow i) (stepRel (itemFlow i) f d1)
            | none => d1)
        else d1
      fillReorder (itemList d2).length d2

/-- Finishes an item with a status and nothing else. -/
def finishWith (st : Status) (id : Nat) (d : Dev) : Dev := finishItem id (modItem id (fun i => { i with res := some { status := st } }) d)

/-- Finishes an item with `ST_ABORTED`, its engine work cancelled (R93). -/
def abortNow (id : Nat) (d : Dev) : Dev := finishWith .aborted id (cancelSteps id (cancelRequests id d))

/-! ## Dispatch -/

/-- The head undispatched item of a flow: items taken back first, then the lowest sequence number (R82, R89). -/
def headOf (d : Dev) (k : Nat) (f : Flow) : Option (Nat × Item) :=
  leastBy (fun e => bitOf (!e.2.front) 40 + (e.2.seq.getD 0 + 2 ^ 32 - f.nextRel) % 2 ^ 32)
    ((itemList d).filter (fun e => itemFlow e.2 == k && e.2.place == .ready))

/-- An item of an atomic flow is in service (R75). -/
def inService (d : Dev) (k : Nat) : Bool :=
  (itemList d).any (fun e => itemFlow e.2 == k && e.2.place != .ready)

/-- Undispatched items that may be dispatched now (R75, R77, R82). -/
def readyHeads (d : Dev) : List (Nat × Item) :=
  d.sched.flows.filterMap (fun (k, f) => match headOf d k f with
    | some e => if (f.kind == .atomic && inService d k) || (reorderFull d && needsEntry d e.2) || engineBusy d e.1 then none else some e
    | none => none)

/-- Threads of the part that hold no item, on unfenced cores (R82). -/
def idleThreads (d : Dev) : List Nat :=
  (List.range (4 * coreCount d)).filter (fun k => coreUp d (k / 4) && (threadOf d k).item.isNone)

/-- Preempted items held on a core (R82). -/
def preemptedOn (d : Dev) (c : Nat) : List (Nat × Item) :=
  (itemList d).filter (fun e => match e.2.place with
    | .preempted c' _ => c' == c
    | _ => false)

/-- Rank of a candidate: higher priority, a preempted item before a ready one, then slices and flows round-robin (R82). -/
def candRank (d : Dev) (i : Item) : Nat :=
  let pre := match i.place with
    | .preempted _ _ => 0
    | _ => 1
  ((7 - priority i) * 2 + pre) * 2 ^ 40 + ((i.slice + 4095 - d.sched.rrSlice) % 4096) * 2 ^ 20
    + (dFlow i.desc + 65535 - (sliceOf d i.slice).rrFlow) % 65536

/-- Nothing is dispatched: Lock, device fault stop, not READY (R329, R352). -/
def dispatchStopped (d : Dev) : Bool := !serving d || d.goose.lock

/-- An activation lets preempted items resume and dispatches nothing new (R445). -/
def resumeOnly (d : Dev) : Bool := decide (2 ≤ d.fw.step) && decide (d.fw.step ≤ 5)

/-- The thread R82 chooses for a ready item. -/
def chooseThread (d : Dev) (i : Item) : Option Nat :=
  leastBy (fun k => (if (threadOf d k).last = some i.slice then 0 else 1024) + k)
    ((idleThreads d).filter (fun k => !(preemptedOn d (k / 4)).any (fun e => decide (priority i ≤ priority e.2))))

/-- Puts an item on a thread; the rules of another slice become active at the dispatch boundary (R86). -/
def dispatchTo (id k : Nat) (d : Dev) : Dev :=
  match itemOf d id with
  | none => d
  | some i =>
    let resumed := match i.place with
      | .preempted _ _ => true
      | _ => false
    let d1 := modItem id (fun i => { i with
      place := .running (k / 4) (k % 4), front := false, preempt := false, stamp := d.sched.clock }) d
    let d2 := modThread k (fun h => { h with
      item := some id, last := some i.slice
      shadow := if h.last = some i.slice then h.shadow else .slice i.slice
      active := if h.last = some i.slice then h.active else .slice i.slice }) d1
    let d3 := modSched (fun s => { s with clock := s.clock + 1 }) d2
    if resumed then d3
    else modSlice i.slice (fun s => { s with rrFlow := dFlow i.desc }) (modSched (fun s => { s with rrSlice := i.slice }) d3)

/-- Candidates for one thread: ready heads, and the preempted items of its core (R82). -/
def candidates (d : Dev) (c : Nat) : List (Nat × Item) :=
  (if resumeOnly d then [] else readyHeads d)
    ++ (preemptedOn d c).filter (fun e => !(reorderFull d && needsEntry d e.2))

/-- Gives a thread that became idle its best candidate (R82). -/
def fillThread (k : Nat) (d : Dev) : Dev :=
  if dispatchStopped d || !coreUp d (k / 4) || (threadOf d k).item.isSome then d else
  match leastBy (fun e => candRank d e.2) (candidates d (k / 4)) with
  | none => d
  | some (id, _) => dispatchTo id k d

/-- The preempted items that have an idle thread on their core, with that thread (R82). -/
def resumable (d : Dev) : List (Nat × Item × Nat) :=
  (itemList d).filterMap (fun (id, i) => match i.place with
    | .preempted c _ =>
      (match (idleThreads d).find? (fun k => k / 4 == c) with
        | some k => if reorderFull d && needsEntry d i then none else some (id, i, k)
        | none => none)
    | _ => none)

/-- Parks a stalled item so that a preempted item of its core can resume (R78). -/
def parkOne (d : Dev) : Dev :=
  match (itemList d).find? (fun e => match e.2.place with
      | .stalled c _ => !(preemptedOn d c).isEmpty && (freeSlot d c).isSome
      | _ => false) with
  | some (id, i) =>
    (match i.place with
      | .stalled c t =>
        let slot := (freeSlot d c).getD 0
        fillThread (4 * c + t) (modItem id (fun i => { i with place := .parked c slot }) (freeThread i.place d))
      | _ => d)
  | none => d

/-- Sheepdog preempts one running item for the ready item that waits for a thread (R83). -/
def testPreempt (d : Dev) : Dev :=
  if dispatchStopped d || resumeOnly d || !(idleThreads d).isEmpty then d else
  match leastBy (fun e => candRank d e.2) (readyHeads d) with
  | none => d
  | some (_, w) =>
    let running := (itemList d).filter (fun e => match e.2.place with
      | .running _ _ => true
      | _ => false)
    let flagged := (running.filter (fun e => e.2.preempt)).length
    if (readyHeads d).length ≤ flagged then d else
    let elig := running.filter (fun e => match e.2.place with
      | .running c _ => !e.2.preempt && decide (priority e.2 < priority w) && decide (priority e.2 < 7)
          && decide ((slotsUsed d c).length ≤ 3)
      | _ => false)
    match leastBy (fun e => match e.2.place with
        | .running c t =>
          ((priority e.2 * 2 + (if (flowType e.2 == .ordered && oldest d e.2) || flowType e.2 == .atomic then 1 else 0)) * 2 ^ 64
            + (2 ^ 64 - 1 - e.2.stamp)) * 1024 + (4 * c + t)
        | _ => 0) elig with
    | none => d
    | some (id, _) => modItem id (fun i => { i with preempt := true }) d

/-- One dispatch decision: park and resume where R78 allows it, else the best candidate of all idle threads on the thread R82
chooses; with no unfenced core left the item completes with `ST_FAULT` (R91). -/
def dispatchOne (d : Dev) : Dev :=
  if dispatchStopped d then d else
  let ready := if resumeOnly d then [] else readyHeads d
  if (List.range (coreCount d)).all (fun c => !coreUp d c) then
    (match leastBy (fun e => candRank d e.2) ready with
      | some (id, _) => finishWith .fault id d
      | none => d)
  else
    let res := resumable d
    match leastBy (fun e => candRank d e.2) (ready ++ res.map (fun e => (e.1, e.2.1))) with
    | none => parkOne d
    | some (id, i) =>
      match res.find? (fun e => e.1 == id) with
      | some (_, _, k) => testPreempt (dispatchTo id k d)
      | none =>
        match chooseThread d i with
        | some k => testPreempt (dispatchTo id k d)
        | none => testPreempt (parkOne d)

/-! ## Acceptance (R53, R71 to R74) -/

/-- An item completed directly, outside every flow (R53, R72, R73). -/
def completeDirect (n ring : Nat) (desc : List Byte) (st : Status) (d : Dev) : Dev :=
  checkDrained n (complete n ring (dTag desc) st (dOpcode desc) 0xFFFFFFFF 0 0 [] (dIrq desc) d)

/-- Flow contexts a slice holds (R72). -/
def flowsOf (d : Dev) (n : Nat) : Nat := (d.sched.flows.filter (fun e => e.1 / 65536 == n)).length

/-- Sheepdog accepts a descriptor into its flow, binding a context for the first of a flow; under a Lock, and for
a slice in ERROR, the item is aborted (R310, R352). -/
def acceptItem (n ring : Nat) (desc : List Byte) (d : Dev) : Dev :=
  let k := flowKey n (dFlow desc)
  let i0 : Item := { slice := n, ring, desc }
  let enter := fun (f : Flow) =>
    let id := d.sched.nextItem
    let d1 := modSched (fun s => { s with
      nextItem := id + 1
      items := Tab.put s.items id { i0 with seq := some f.nextSeq }
      flows := Tab.put s.flows k { f with nextSeq := (f.nextSeq + 1) % 2 ^ 32 } }) d
    if d.goose.lock ∨ (sliceOf d n).state = .error then finishWith .aborted id d1 else testPreempt d1
  match Tab.find d.sched.flows k with
  | some f => if f.kind ≠ flowType i0 then completeDirect n ring desc .format d else enter f
  | none =>
    if (sliceOf d n).per.flowQuota ≤ flowsOf d n then completeDirect n ring desc .flowLimit d
    else enter { kind := flowType i0 }

/-- A fetched descriptor arrives: spoof check, format, priority, then Sheepdog (R53, R60). -/
def arrive (n ring : Nat) (raw : List Byte) (d : Dev) : Dev :=
  let desc := fit raw 128
  let s := sliceOf d n
  let r := ringOf s ring
  match r.fetches with
  | [] => d
  | i :: rest =>
    if devFault d then d else
    let d1 := modRing n ring (fun r => { r with fetches := rest, head := (i + 1) % ringSize s ring }) d
    if dSlice desc % 4096 ≠ n then
      let d2 := modRing n ring (fun r => { r with inflight := r.inflight - 1 }) d1
      checkDrained n (haltRecord n ring (spoofEvent 0x9001 n s.per.pasid (ring + i * 65536) d2))
    else if dSlice desc / 4096 ≠ 0 ∨ dFlags desc / 256 ≠ 0 ∨ dFlowType desc = 3 then completeDirect n ring desc .format d1
    else if dPriority desc = 7 ∧ !s.per.urgentOk then completeDirect n ring desc .policy d1
    else acceptItem n ring desc (count 0x1000 1 (some n) none false none d1)

/-! ## Threads at work -/

/-- The item running on a thread, with its number. -/
def runningOn (d : Dev) (c t : Nat) : Option (Nat × Item) :=
  match (threadOf d (4 * c + t)).item with
  | none => none
  | some id =>
    match itemOf d id with
    | some i => if i.place = .running c t then some (id, i) else none
    | none => none

/-- Opcodes that no chapter defines (R53, R130, R137, R182, R220, R257). -/
def opcodeDefined (op : Nat) : Bool :=
  let g := op / 256
  let k := op % 256
  (g == 1 && decide (1 ≤ k) && decide (k ≤ 11)) || (g == 2 && decide (1 ≤ k) && decide (k ≤ 7))
    || (g == 3 && decide (1 ≤ k) && decide (k ≤ 6)) || (g == 4 && decide (1 ≤ k) && decide (k ≤ 2))
    || (g == 5 && decide (1 ≤ k) && decide (k ≤ 7)) || (g == 6 && decide (1 ≤ k) && decide (k ≤ 13))
    || (g == 7 && decide (1 ≤ k) && decide (k ≤ 2))

/-- Zatik reaches an item's final status (R75): an undefined opcode gives `ST_OPCODE`, an item ordered aborted `ST_ABORTED`. -/
def finishOn (c t : Nat) (d : Dev) : Dev :=
  if devFault d then d else
  match runningOn d c t with
  | none => d
  | some (id, i) =>
    if engineBusy d id then d
    else if i.abort then parkOne (testPreempt (abortNow id d))
    else match i.res with
      | some _ => parkOne (testPreempt (finishItem id d))
      | none => if opcodeDefined (dOpcode i.desc) then d else parkOne (testPreempt (finishWith .opcode id d))

/-- Zatik takes the interrupt at a preemption point: the item is saved and the partition zeroised, or, ordered aborted, the item
finishes; then the thread takes the candidate R82 chooses (R84, R93, R352). -/
def saveOn (c t : Nat) (d : Dev) : Dev :=
  if devFault d then d else
  match runningOn d c t with
  | none => d
  | some (id, i) =>
    if engineBusy d id then d
    else if i.abort then testPreempt (fillThread (4 * c + t) (abortNow id d))
    else if i.preempt then
      (match freeSlot d c with
        | none => d
        | some k =>
          let d1 := modItem id (fun i => { i with place := .preempted c k, preempt := false }) (freeThread i.place d)
          testPreempt (fillThread (4 * c + t) d1))
    else d

/-- Whether an item is where a core holds it. -/
def onCore (c : Nat) (i : Item) : Bool :=
  match i.place with
  | .running c' _ | .stalled c' _ | .preempted c' _ | .parked c' _ => c' == c
  | _ => false

/-- Takes an item back after a fence: dispatched again once; a second time it completes with `ST_FAULT`; one whose abort is pending
finishes with `ST_ABORTED` (R89, R93). -/
def takeBack (id : Nat) (d : Dev) : Dev :=
  match itemOf d id with
  | none => d
  | some i =>
    let d1 := cancelSteps id (cancelRequests id (freeThread i.place d))
    if i.abort then finishWith .aborted id (modItem id (fun i => { i with place := .held }) d1)
    else if i.retried then finishWith .fault id (modItem id (fun i => { i with place := .held }) d1)
    else modItem id (fun i => { i with
      place := .ready, front := true, retried := true, res := none, wait := .none, preempt := false, run := none, copies := [], queued := none }) d1

/-- Aborts one item of a slice through the control port (R93). -/
def abortItem (id : Nat) (d : Dev) : Dev :=
  match itemOf d id with
  | none => d
  | some i =>
    match i.place with
    | .ready | .preempted _ _ => abortNow id d
    | .running _ _ =>
      (match i.wait with
        | .rng | .step | .reservation _ => abortNow id d
        | .engine => cancelRequests id (modItem id (fun i => { i with abort := true }) d)
        | .none => if i.res.isSome then d else modItem id (fun i => { i with abort := true }) d)
    | _ => d

/-- The items of a slice, by number. -/
def itemsOf (d : Dev) (n : Nat) : List Nat := ((itemList d).filter (fun e => e.2.slice == n)).map (·.1)

/-- Aborts every remaining item of a slice (R93). -/
def abortSlice (n : Nat) (d : Dev) : Dev := (itemsOf d n).foldl (fun d id => abortItem id d) d

/-- Aborts every item of the device at a Lock (R352): the undispatched at once, the running at their next preemption point. -/
def abortAll (d : Dev) : Dev := ((itemList d).map (·.1)).foldl (fun d id => abortItem id d) d

/-- Stores a result for the item on a thread, its waits over and its key scratch zeroised. -/
def setRes (id : Nat) (r : Res) (d : Dev) : Dev :=
  modItem id (fun i => { i with res := some r, wait := .none, run := none, copies := [], queued := none }) d

end Sys2Proof.Machine
end

