-- ==== Sys2Proof/Machine/Journal.lean ====
section
/-! DEFINITION. State-changing steps (R383 to R385): how a step is submitted, sequenced and journalled. Their moment of effect is in
Apply.lean.
Marks: assumptions 93, 94. -/

namespace Sys2Proof.Machine

/-- Records an entry spans: its 32-byte header and its plaintext in records of 256 bytes, 1 to 16 (R385). -/
def entryRecords (seq : Nat) (st : Step) : Nat := max 1 (min 16 (((Config.entryText seq st).length + 287) / 256))

/-- The chain value of an entry (R385). -/
def chainNext (prev : BitVec 128) (seq : Nat) (st : Step) : BitVec 128 :=
  BitVec.ofNat 128 (beNat ((sha384 (beBytes 16 prev.toNat ++ Config.entryText seq st)).take 16))

/-- The newest entries whose records the ring of 16,384 records still holds, from a newest-first list (R385). -/
def retained (room : Nat) : List Entry → List Entry
  | [] => []
  | e :: es => if e.records ≤ room then e :: retained (room - e.records) es else []

/-- Writes an entry to this device's journal (R384, R385). -/
def writeEntry (e : Entry) (d : Dev) : Dev :=
  { d with store := { d.store with
    journal := (retained 16384 (e :: d.store.journal.reverse)).reverse
    seq := e.seq
    chain := e.chain } }

/-- The next entry of this journal for a step. -/
def nextEntry (origin : Nat) (st : Step) (d : Dev) : Entry :=
  let seq := d.store.seq + 1
  { seq, records := entryRecords seq st, origin, chain := chainNext d.store.chain seq st, step := st }

/-- Counter event of an entry sequenced or applied (R418). -/
def countEntry (st : Step) (d : Dev) : Dev :=
  count 0x8000 1 (if st.slice = 0xFFFF then none else some st.slice) none false none d

/-- Reservation step of a slot (R120). -/
def resStep (s : Slot) : Nat := max 1 (s.ceiling / 1024)

/-- Pair states in which a device commits alone (R379). -/
def soloState (p : PairState) : Bool :=
  p == .unpaired || p == .soloUnproven || p == .soloProven || p == .diverged

/-- A device commits alone now. -/
def commitsAlone (d : Dev) : Bool := soloState d.pair.state && !d.pair.relinquished

/-- This device's rank: 1 for the higher serial of the pair, 0 while no partner is recorded (R381). -/
def pairRank (d : Dev) : Nat := if d.store.partner ≠ 0 ∧ d.store.partner < d.sys.serial then 1 else 0

/-- Reservations are restricted to step indices of this device's rank (R391). -/
def resRestricted (d : Dev) : Bool := d.pair.state == .soloUnproven || d.pair.state == .diverged

/-- End of the last reservation of a slot that is committed or sequenced. -/
def grantedEnd (d : Dev) (slice slot version : Nat) : Nat :=
  d.pair.steps.foldl (fun e p => match p.step.kind, p.phase with
    | .reserve k v _ up, .sequenced _ => if p.step.slice = slice ∧ k = slot ∧ v = version then max e up else e
    | _, _ => e) (slotOf (sliceOf d slice) slot).resEnd

/-- Fixes the range a reservation grants: the next step, or with R391 in force the next of this device's rank. -/
def fixReserve (st : Step) (d : Dev) : Step :=
  match st.kind with
  | .reserve k v _ _ =>
    let s := slotOf (sliceOf d st.slice) k
    let w := resStep s
    let e := grantedEnd d st.slice k v
    let start := if resRestricted d && (e / w) % 2 != pairRank d then (e / w + 1) * w else e
    { st with kind := .reserve k v start (max e (min s.ceiling (start + w))) }
  | _ => st

/-- Sends a frame under the transport key (R373, R374). -/
def strait (o : Out) (d : Dev) : Dev := emit o { d with pair := { d.pair with frames := d.pair.frames + 1 } }

/-- The primary gives a step the next sequence number, journals it and sends it (R384). -/
def sequence (origin : Nat) (p : Pend) (d : Dev) : Dev :=
  let st := fixReserve p.step d
  let e := nextEntry origin st d
  let d1 := strait (.journal e) (countEntry st (writeEntry e d))
  { d1 with pair := { d1.pair with steps := d1.pair.steps ++ [{ p with step := st, phase := .sequenced e.seq }] } }

/-- A step enters the commit path of its pair state (R379, R384, R388). -/
def submit (st : Step) (origin : Origin) (draft : Res) (d : Dev) : Dev :=
  let p : Pend := { step := st, origin, phase := .waiting, draft }
  let add := fun (p : Pend) (d : Dev) => { d with pair := { d.pair with steps := d.pair.steps ++ [p] } }
  if d.pair.relinquished || d.pair.held || !d.sys.ready then add p d
  else match d.pair.state, d.pair.role with
  | .paired, .primary => sequence 0 p d
  | .paired, _ => strait (.journalReq st) (add { p with phase := .requested } d)
  | _, _ => if commitsAlone d then add { p with phase := .committing } d else add p d

/-- Steps that wait are submitted again, in order, once the pair state allows it. -/
def resubmit (d : Dev) : Dev :=
  let ws := d.pair.steps.filter (fun p => p.phase == .waiting)
  let d1 := { d with pair := { d.pair with steps := d.pair.steps.filter (fun p => p.phase != .waiting) } }
  ws.foldl (fun d p => submit p.step p.origin p.draft d) d1

/-- The next reservation of a slot is requested, unless one already is (R120). -/
def requestReservation (slice slot : Nat) (d : Dev) : Dev :=
  let s := slotOf (sliceOf d slice) slot
  if s.asked || decide (s.ceiling ≤ s.resEnd) then d
  else submit { slice, kind := .reserve slot s.version 0 0 } .device { status := .ok }
    (modSlot slice slot (fun s => { s with asked := true }) d)

/-- Counting of a slot resumes from the end of the last committed reservation, or of one whose commit is under way (R121). -/
def resumeCounting (slice slot : Nat) (d : Dev) : Dev :=
  modSlot slice slot (fun s => { s with ranges := [], void := s.asked }) d

end Sys2Proof.Machine
end

