-- ==== Sys2Proof/Machine/Keys.lean ====
section
/-! DEFINITION. The key cache (R122 to R129), key lookup (R54, R112, R218), usage draws (R119 to R121), and the frame in which Zatik
runs a command of the item on a thread.
Marks: assumptions 39, 42, 46 and 117. -/

namespace Sys2Proof.Machine

/-! ## The cache -/

/-- Entries a key occupies (R122, R217): an asymmetric key of L bytes 1 + ⌈(L − 96) / 120⌉. -/
def entrySize (k : Key) : Nat :=
  let l := if k.attr.alg = .R then k.bytes.length - 8 else k.bytes.length
  if asymmetric k.attr.alg then 1 + (l - 96 + 119) / 120 else 1

/-- Entries in use, by a test on the entry. -/
def cacheUse (t : Tab CacheEnt) (p : CacheEnt → Bool) : Nat := t.foldl (fun n e => if p e.2 then n + e.2.size else n) 0

/-- Entries a slice holds, and its pinned ones. -/
def heldBy (d : Dev) (n : Nat) : Nat := cacheUse d.keys.cache (fun e => e.slice == n && !e.damaged)
def pinnedBy (d : Dev) (n : Nat) : Nat := cacheUse d.keys.cache (fun e => e.slice == n && e.pinned && !e.damaged)

/-- Banks that are present and not fenced. -/
def banksUp (d : Dev) : List Nat := (List.range 16).filter (fun b => !d.fen.bank.getLsbD b)

/-- The lowest bank with room for a number of entries (R122). -/
def roomyBank (d : Dev) (size : Nat) : Option Nat :=
  (banksUp d).find? (fun b => decide (cacheUse d.keys.cache (fun e => e.bank == b && !e.damaged) + size ≤ 8192))

/-- Removes an entry; the counting of a slot key resumes past its reservation (R121, R127). -/
def dropEntry (id : Nat) (d : Dev) : Dev :=
  match Tab.find d.keys.cache id with
  | none => d
  | some e =>
    let d1 := { d with keys := { d.keys with cache := Tab.del d.keys.cache id } }
    match e.src with
    | .slot k v => if (slotOf (sliceOf d e.slice) k).version = v then resumeCounting e.slice k d1 else d1
    | _ => d1

/-- An entry evicted to make room, the clock hand moved past it (R125). -/
def evict (id : Nat) (d : Dev) : Dev :=
  match Tab.find d.keys.cache id with
  | none => d
  | some e => dropEntry id (count 0x2002 1 (some e.slice) none false none { d with keys := { d.keys with hand := id + 1 } })

/-- The first unpinned entry from the clock hand on that meets a test. -/
def sweep (d : Dev) (p : CacheEnt → Bool) : Option Nat :=
  let c := d.keys.cache.filter (fun e => !e.2.pinned && p e.2)
  match c.filter (fun e => decide (d.keys.hand ≤ e.1)) ++ c.filter (fun e => decide (e.1 < d.keys.hand)) with
  | [] => none
  | e :: _ => some e.1

/-- Puts a key into the cache, taking entries in the order of R125; none where no entry is available. -/
def install (slice : Nat) (src : CacheSrc) (key : Key) (pinned : Bool) : Nat → Dev → Option Dev
  | 0, _ => none
  | fuel + 1, d =>
    let size := entrySize key
    let per := (sliceOf d slice).per
    if per.cacheCeil < heldBy d slice + size then
      (match sweep d (fun e => e.slice == slice) with
        | some id => install slice src key pinned fuel (evict id d)
        | none => none)
    else match roomyBank d size with
    | some b =>
      let e : CacheEnt := { slice, src, key, pinned, size, bank := b }
      some { d with keys := { d.keys with cache := Tab.put d.keys.cache d.keys.nextEnt e, nextEnt := d.keys.nextEnt + 1 } }
    | none =>
      match sweep d (fun e => decide ((sliceOf d e.slice).per.cacheGuar < heldBy d e.slice)) with
      | some id => install slice src key pinned fuel (evict id d)
      | none =>
        match sweep d (fun e => e.slice == slice) with
        | some id => install slice src key pinned fuel (evict id d)
        | none => none

/-- Installs an unpinned key, or uses it from scratch where no entry is available (R125). -/
def cacheKey (slice : Nat) (src : CacheSrc) (key : Key) (d : Dev) : Dev :=
  match install slice src key false (d.keys.cache.length + 1) d with
  | some d1 => d1
  | none => count 0x2003 1 (some slice) none false none d

/-- The entry of a slice with a source. -/
def cached (d : Dev) (slice : Nat) (p : CacheSrc → Bool) : Option (Nat × CacheEnt) :=
  d.keys.cache.find? (fun e => e.2.slice == slice && p e.2.src)

/-- Every entry of a slice goes, its kind 2 handles end (R127, R129). -/
def clearCache (slice : Nat) (d : Dev) : Dev :=
  { d with keys := { d.keys with cache := d.keys.cache.filter (fun e => e.2.slice != slice) } }

/-! ## Running a command -/

/-- Why a command stops short: its final result, or what the item waits for. -/
inductive Stop where
  | fail (r : Res)
  | wait (w : Wait)
deriving DecidableEq, Repr

/-- A command's work on the device. -/
abbrev M := ExceptT Stop (StateM Dev)

def failWith {α : Type} (s : Status) : M α := throw (.fail { status := s })
def waitFor {α : Type} (w : Wait) : M α := throw (.wait w)
def chk (ok : Bool) (s : Status) : M Unit := if ok then pure () else failWith s
def liftS {α : Type} (x : Except Status α) : M α :=
  match x with
  | .ok a => pure a
  | .error s => failWith s
def orFail {α : Type} (x : Option α) (s : Status) : M α :=
  match x with
  | some a => pure a
  | none => failWith s

/-- What a command comes to: a result and its delivery, at once or from an engine pool. -/
inductive Act where
  | done (r : Res) (a : After)
  | engine (p : Pool) (bytes : Nat) (r : Res) (a : After)
deriving DecidableEq, Repr

/-- The command in hand: the item, its number, and what its DMA delivered. -/
structure Ctx where
  id : Nat
  i : Item
  r : Run
deriving DecidableEq, Repr

def Ctx.desc (c : Ctx) : List Byte := c.i.desc
def Ctx.slice (c : Ctx) : Nat := c.i.slice
/-- One byte, or a field, of the parameter block by descriptor offset. -/
def Ctx.p (c : Ctx) (o n : Nat) : Nat := leAt c.i.desc o n
def Ctx.pb (c : Ctx) (o n : Nat) : List Byte := slice8 c.i.desc o n
/-- The input: `IN_LEN` bytes of the parameter block from its end, or as read from host memory (R56). -/
def Ctx.input (c : Ctx) (params : Nat) : List Byte :=
  if dInlineIn c.i.desc then slice8 c.i.desc (0x38 + params) (dInLen c.i.desc) else fit c.r.input (dInLen c.i.desc)

/-- The destination check of a slot write or delete, before its step and again at its moment of effect (R114, R133, R472 step 10). -/
def slotCheck (d : Dev) (slice : Nat) (k : StepKind) : Option Status :=
  match k with
  | .slotWrite x _ _ ow =>
    let s := slotOf (sliceOf d slice) x
    if s.st ≠ .empty ∧ !ow then some .keyOccupied else if s.version = 0xFFFFFFFF then some .policy else none
  | .slotDelete x =>
    let s := slotOf (sliceOf d slice) x
    if s.st = .empty then some .keyEmpty else if s.version = 0xFFFFFFFF then some .policy else none
  | _ => none

/-- Delivers a result: stores it, submits its step, or installs its key under a new kind 2 handle (R116, R125, R129). -/
def deliver (id slice : Nat) (r : Res) (a : After) (d : Dev) : Dev :=
  match a with
  | .nothing => setRes id r d
  | .step k =>
    (match slotCheck d slice k with
      | some st => setRes id { status := st } d
      | none => submit { slice, kind := k } (.item id) r
          (modItem id (fun i => { i with wait := .step, run := none, copies := [] }) d))
  | .handle key =>
    let s := sliceOf d slice
    let h := s.nextHandle
    if s.per.cacheGuar < pinnedBy d slice + entrySize key then setRes id { status := .cacheQuota } d
    else match install slice (.eph h) key true (d.keys.cache.length + 1) d with
      | none => setRes id { status := .cacheQuota } d
      | some d1 =>
        let fixed := patch r.fixed 0 (leBytes 8 (2 * 2 ^ 60 + slice * 2 ^ 48 + h))
        setRes id { r with fixed } (modSlice slice (fun s => { s with nextHandle := (h + 1) % 2 ^ 48 }) d1)

/-- Engine results that waited for their items to run again are delivered (R84). -/
def deliverQueued (d : Dev) : Dev :=
  d.sched.items.foldl (fun d e => match e.2.queued, e.2.place with
    | some (r, a), .running _ _ => deliver e.1 e.2.slice r a (modItem e.1 (fun i => { i with queued := none }) d)
    | _, _ => d) d

/-- Posts an engine request; with every engine of the pool fenced the item completes with `ST_FAULT` (R180, R204, R235). -/
def postEngine (c : Ctx) (p : Pool) (bytes : Nat) (res : Res) (after : After) (d : Dev) : Dev :=
  let allFenced := match p with
    | .cipher => (List.range (ceCount d)).all (fun n => d.fen.ce.getLsbD n)
    | .digest => (List.range (deCount d)).all (fun n => d.fen.de.getLsbD n)
    | .pk => (List.range (pkCount d)).all (fun n => d.fen.pk.getLsbD n)
  if allFenced then setRes c.id { status := .fault } d
  else
    let q : EngReq := { pool := p, item := c.id, prio := priority c.i, arrival := d.eng.arrivals, res, after, bytes }
    modItem c.id (fun i => { i with wait := .engine, run := none })
      { d with eng := { d.eng with queue := d.eng.queue ++ [q], arrivals := d.eng.arrivals + 1 } }

/-- Runs a command body, charges what it drew to the instance of its core (R246), and stores what came of it in the item. -/
def settle (c : Ctx) (m : M Act) (d : Dev) : Dev :=
  let (e, d0) := m.run.run d
  let d1 := charge (c.r.core % 15) (d0.rng.drawn - d.rng.drawn) d0
  match e with
  | .ok (.done r a) => deliver c.id c.i.slice r a d1
  | .ok (.engine p n r a) => postEngine c p n r a d1
  | .error (.fail r) => setRes c.id r d1
  | .error (.wait w) => modItem c.id (fun i => { i with wait := w, run := some c.r }) d1

/-- The row of an opcode on a thread: it acts on a running item of that opcode that has no result and is not held up. A row issued
again after a wait goes on with the input its DMA delivered. -/
def runTx (op : Nat) (r : Run) (body : Ctx → M Act) (s : State) : Ans :=
  onUnit (decide (r.core < coreCount s.dev) && decide (r.thread < 4)) (fun d =>
    if !serving d then d else
    match runningOn d r.core r.thread with
    | none => d
    | some (id, i) =>
      if dOpcode i.desc ≠ op ∨ i.res.isSome ∨ i.abort ∨ i.queued.isSome ∨ (i.wait ≠ .none ∧ i.wait ≠ .rng) ∨
          (i.wait = .rng ∧ !rngForItems d ∧ !d.rng.failed) then d
      else
        let c : Ctx := { id, i := { i with wait := .none }, r := i.run.getD r }
        settle c (body c) (modItem id (fun i => { i with wait := .none }) d)) s

/-! ## Checks on the descriptor -/

/-- R9 and R56: reserved bytes, unused handles and the addresses of inline buffers are zero; `fixed` opcodes refuse inline output. -/
def fmtOk (c : Ctx) (params keys : Nat) (fixed : Bool) : Bool :=
  let l := c.i.desc
  let used := if dInlineIn l then min 72 (params + dInLen l) else params
  zeroFrom l (0x38 + used) 0x80 && (decide (1 ≤ keys) || dKeyA l == 0) && (decide (2 ≤ keys) || dKeyB l == 0)
    && (!dInlineIn l || dInAddr l == 0) && (!dInlineOut l || (dOutAddr l == 0 && !fixed))

/-- R55 and R56 on the input. -/
def inLenOk (c : Ctx) (params maxIn : Nat) : Bool :=
  let l := c.i.desc
  dInLen l != 0xFFFFFFFF && dOutCap l != 0xFFFFFFFF && decide (dInLen l ≤ maxIn)
    && (!dInlineIn l || decide (dInLen l ≤ 72 - params)) && (!dInlineOut l || decide (dOutCap l ≤ 32))
    && (dInLen l == 0 || decide (dInAddr l + dInLen l ≤ 2 ^ 64))

/-- R55 and R56 on an output of `n` bytes. -/
def outLenOk (c : Ctx) (n : Nat) : Bool :=
  let l := c.i.desc
  decide (n ≤ dOutCap l) && (!dInlineOut l || decide (n ≤ 32)) && (n == 0 || decide (dOutAddr l + n ≤ 2 ^ 64))

/-- Kind of a handle, its slice and its index (R54). -/
def hKind (h : Nat) : Nat := bits h 63 60
def hSlice (h : Nat) : Nat := bits h 59 48
def hIndex (h : Nat) : Nat := bits h 47 0

/-- The data-area rule of R142 and R184 for the handles an opcode uses: with no kind 1 handle `IN_LEN` is D; otherwise it is at most
`lim` and each block begins at D or above. -/
def areaOk (c : Ctx) (data lim : Nat) (hs : List Nat) : Bool :=
  let blocks := hs.filter (fun h => hKind h == 1)
  if blocks.isEmpty then dInLen c.i.desc == data
  else decide (dInLen c.i.desc ≤ lim) && blocks.all (fun h => decide (data ≤ hIndex h))

/-! ## Lookup -/

/-- Length of a private key's encoding by its curve or parameter code (R217). -/
def privLen (s : SliceRec) (code : Nat) : Option Nat :=
  match code with
  | 0x06 | 0x07 => some 41
  | 0x08 => some 66
  | 0x21 | 0x22 => some 65
  | 0x31 | 0x32 => some 33
  | c => (curveOf s c).map (fun w => 9 + w.len)

/-- The check a private key passes when it is installed (R218). -/
def privCheck (s : SliceRec) (k : Key) : Except Status Unit :=
  let b := k.bytes
  let code := (b.getD 0 0).toNat
  match k.attr.alg with
  | .R =>
    let m := (b.length - 8) * 2 / 7
    let h := m / 2
    let e := beNat (slice8 b 0 8)
    let n := beNat (slice8 b 8 m)
    let f := fun i => beNat (slice8 b (8 + m + i * h) h)
    if n = f 0 * f 1 ∧ 2 ^ (8 * m - 1) ≤ n ∧ f 4 * f 1 % f 0 = 1 ∧ e * f 2 % (f 0 - 1) = 1 ∧ e * f 3 % (f 1 - 1) = 1
        ∧ e % 2 = 1 ∧ 65537 ≤ e then .ok () else .error .keyDamaged
  | .E =>
    match curveOf s code with
    | some w =>
      if b.length ≠ 9 + w.len then .error .keyDamaged
      else if slice8 b 1 8 ≠ w.tag then .error .pkCurve
      else if beNat (b.drop 9) = 0 ∨ w.n ≤ beNat (b.drop 9) then .error .pkRange else .ok ()
    | none =>
      if code ≠ 0x06 ∧ code ≠ 0x07 ∧ code ≠ 0x08 then .error .pkCurve
      else if privLen s code ≠ some b.length then .error .keyDamaged
      else if zeroFrom b 1 9 then .ok () else .error .pkCurve
  | .K1 => if code = 0x21 ∨ code = 0x22 then .ok () else .error .keyDamaged
  | .D2 => if code = 0x31 ∨ code = 0x32 then .ok () else .error .keyDamaged
  | _ => .ok ()

/-- The LMK that unwraps a block: the generation `9L` names, or the active one (R104, R106). -/
def lmkFor (s : SliceRec) (h : Header) : Option (Nat × List Byte) :=
  match h.gen.orElse (fun _ => s.lmkActive) with
  | none => none
  | some g =>
    match s.lmk[g]? with
    | none => none
    | some l => if l.damaged || l.aes.isNone then none else
      (if h.tdesForm then l.tdes else l.aes).map (fun k => (g, k))

/-- What a command demands of a key's attributes (R112 step 4); none where they fit. -/
abbrev Demand := Attr → Option Status

/-- A demand that fails with `ST_KEY_USAGE`. -/
def needs (p : Attr → Bool) : Demand := fun a => if p a then none else some .keyUsage

def anyKey : Demand := fun _ => none

/-- The processing of a kind 1 block that misses: steps 2 to 6 of R112 and R218, then its installation. -/
def openBlock (slice : Nat) (text : List Byte) (dem : Demand) : M Key := do
  let d ← get
  let s := (sliceOf d slice).per
  let b ← liftS (parseBlock text)
  let (g, wrap) ← orFail (lmkFor s b.hdr) .keyLmk
  match dem b.hdr.attr with
  | some st => failWith st
  | none => pure ()
  let k ← liftS (unwrapBlock wrap b)
  liftS (privCheck s k)
  modify (cacheKey slice (.block g (blockFields b)) k)
  pure k

/-- Whether a text ends with the fields of a cache entry. -/
def endsWith (text fields : List Byte) : Bool :=
  decide (fields.length ≤ text.length) && text.drop (text.length - fields.length) == fields

/-- Looks up the key a handle names and copies it (R54, R112, R123, R126): the table of R54, the kinds the opcode admits, the key
itself, and the opcode's demands. -/
def lookup (c : Ctx) (h : Nat) (inp : List Byte) (kinds : List Nat) (dem : Demand) : M Copy := do
  let kind := hKind h
  let x := hIndex h
  let n := c.i.slice
  chk (decide (kind ≤ 2)) .format
  chk (hSlice h == n) .keyAccess
  let d ← get
  let s := sliceOf d n
  let demand := fun (k : Key) => (match dem k.attr with
    | some st => failWith st
    | none => pure () : M Unit)
  if kind = 0 then
    chk (decide (x < 64)) .keyAccess
    chk (kinds.contains 0) .format
    let sl := slotOf s x
    chk (sl.st != .empty) .keyEmpty
    chk (sl.st != .damaged) .keyDamaged
    match cached d n (fun e => e == .slot x sl.version) with
    | some _ => set (count 0x2000 1 (some n) none false none d)
    | none => set (cacheKey n (.slot x sl.version) sl.key (count 0x9000 1 none (some 0x301) false none
        (count 0x2001 1 (some n) none false none d)))
    demand sl.key
    pure { key := sl.key, slot := some (x, sl.version) }
  else if kind = 1 then
    let text ← liftS (blockExtent inp x)
    chk (kinds.contains 1) .format
    match cached d n (fun e => match e with
      | .block _ f => endsWith text f
      | _ => false) with
    | some (_, e) =>
      set (count 0x2000 1 (some n) none false none d)
      demand e.key
      pure { key := e.key }
    | none =>
      set (count 0x2001 1 (some n) none false none d)
      let k ← openBlock n text dem
      pure { key := k }
  else
    match cached d n (fun e => e == .eph x) with
    | none => failWith .keyAccess
    | some (_, e) =>
      chk (kinds.contains 2) .format
      chk (!e.damaged) .keyDamaged
      set (count 0x2000 1 (some n) none false none d)
      demand e.key
      pure { key := e.key }

def allKinds : List Nat := [0, 1, 2]

/-- A lookup made once: an item whose counts are drawn goes on with the copy it holds (R126). -/
def lookupAt (c : Ctx) (i h : Nat) (inp : List Byte) (kinds : List Nat) (dem : Demand) : M Copy :=
  match c.i.copies[i]? with
  | some k => pure k
  | none => lookup c h inp kinds dem

/-! ## Draws -/

/-- Counts a slot has ready for this device. -/
def ready (s : Slot) : Nat := s.ranges.foldl (fun n r => n + (r.2 - r.1)) 0

/-- Takes counts from the front of the ranges. -/
def take : Nat → List (Nat × Nat) → List (Nat × Nat)
  | 0, rs => rs
  | _, [] => []
  | n, (a, b) :: rs => if n < b - a then (a + n, b) :: rs else take (n - (b - a)) rs

/-- A draw of `n` counts would pass the ceiling (R119). -/
def passes (d : Dev) (slice slot : Nat) (n : Nat) : Bool :=
  let s := slotOf (sliceOf d slice) slot
  match (fixReserve { slice, kind := .reserve slot s.version 0 0 } d).kind with
  | .reserve _ _ start _ => decide (ready s < n) && decide (s.ceiling < start + (n - ready s))
  | _ => false

/-- The slot becomes exhausted at this moment, and the state is persisted as a step of its own (R119). -/
def exhaust (slice slot : Nat) (d : Dev) : Dev :=
  let s := slotOf (sliceOf d slice) slot
  if s.st = .exhausted then d
  else submit { slice, kind := .exhaust slot s.version } .device { status := .ok }
    (modSlot slice slot (fun s => { s with st := .exhausted }) d)

/-- Draws counts of one slot, and requests the next reservation once half of the current one is drawn (R120). -/
def drawSlot (slice slot n : Nat) (d : Dev) : Dev :=
  let d1 := modSlot slice slot (fun s => { s with ranges := take n s.ranges }) d
  let s := slotOf (sliceOf d1 slice) slot
  if n ≠ 0 ∧ 2 * ready s ≤ resStep s then requestReservation slice slot d1 else d1

/-- Total demand on a slot. -/
def demandOn (l : List (Copy × Nat)) (slot : Nat) : Nat :=
  l.foldl (fun n e => match e.1.slot with
    | some (k, _) => if k = slot then n + e.2 else n
    | none => n) 0

/-- The draw step (R119): all the counts a command needs, in one draw for each slot. Nothing is drawn where a slot is exhausted, where a
draw would pass a ceiling, or while a reservation is awaited; an execution that exhausts a slot in SOLO carries `UNMIRRORED` (R58,
R383). -/
def drawCounts (c : Ctx) (l : List (Copy × Nat)) : M (List Copy) := do
  if !c.i.copies.isEmpty then pure c.i.copies else
  let d ← get
  let n := c.i.slice
  let slots := ((l.filter (fun e => symmetric e.1.key.attr.alg)).filterMap (fun e => e.1.slot.map (·.1))).eraseDups
  let dry := slots.filter (fun k => (slotOf (sliceOf d n) k).st == .exhausted || passes d n k (demandOn l k))
  if !dry.isEmpty then
    let fresh := dry.any (fun k => (slotOf (sliceOf d n) k).st != .exhausted)
    set (modItem c.id (fun i => { i with unmirrored := i.unmirrored || (fresh && commitsAlone d) }) (dry.foldl (fun d k => exhaust n k d) d))
    failWith .keyExhausted
  let short := slots.filter (fun k => decide (ready (slotOf (sliceOf d n) k) < demandOn l k))
  match short with
  | k :: _ =>
    set (short.foldl (fun d k => requestReservation n k d) d)
    waitFor (.reservation k)
  | [] =>
    let first := fun (k : Nat) => ((slotOf (sliceOf d n) k).ranges.head?.map (·.1)).getD 0
    let copies := l.map (fun e => { e.1 with count := match e.1.slot with
      | some (k, _) => first k
      | none => 0 })
    set (modItem c.id (fun i => { i with copies }) (slots.foldl (fun d k => drawSlot n k (demandOn l k) d) d))
    pure copies

/-- Random bytes: they wait for an instance that serves, and fail only when every noise source is retired (R250, R252). -/
def random (n : Nat) : M (List Byte) := do
  let d ← get
  if n = 0 then pure [] else
  if d.rng.failed then failWith .rngFail else
  if !rngForItems d then waitFor .rng else
  set (draw n d)
  pure (drawBytes n d)

/-- Waits for the random supply without drawing, for values the device blinds with and never shows (R233, R250). -/
def needRandom : M Unit := do
  let d ← get
  if d.rng.failed then failWith .rngFail else if !rngForItems d then waitFor .rng else pure ()

end Sys2Proof.Machine
end

