-- ==== Sys2Proof/Machine/RngCmds.lean ====
section
/-! DEFINITION. The random number generator (08): noise sources, conditioner, DRBG instances, failure, and the random opcodes.
Marks: assumptions 9, 55 to 57. -/

namespace Sys2Proof.Machine

/-- Main power is on and no reset holds the device. -/
def alive (d : Dev) : Bool := d.sys.powered && !d.sys.inReset

def modRng (f : Rng → Rng) (d : Dev) : Dev := { d with rng := f d.rng }

/-! ## Sources (R240, R243, R244) -/

/-- Activation order (R240). -/
def srcOrder : List Nat := [0, 4, 1, 5, 2, 3]

def srcState (d : Dev) (n : Nat) : SrcState := d.rng.src.getD n .retired

def setSrc (n : Nat) (s : SrcState) (d : Dev) : Dev := modRng (fun r => { r with src := r.src.set n s }) d

/-- The source in a state, of which at most one is active or starting up. -/
def srcIn (d : Dev) (s : SrcState) : Option Nat := srcOrder.find? (fun n => srcState d n == s)

/-- Every waiting request for random output completes with `ST_RNG_FAIL` (R252). -/
def failWaiting (d : Dev) : Dev :=
  let d1 := (itemList d).foldl (fun d e => if e.2.wait = .rng then setRes e.1 { status := .rngFail } d else d) d
  (d.mg.boxes.map (·.1)).foldl (fun d m =>
    if (mailboxOf d m).wait = .rng then answer m .rngFail [] [] false (nextSeq d) d else d) d1

/-- The RNG enters FAILED: instances zeroised and uninstantiated, record `0x6003` (R252). -/
def failRng (d : Dev) : Dev :=
  if d.rng.failed then d else
  failWaiting (raise 0x6003 0xFFFF 0 0 (modRng (fun r => { r with failed := true, inst := [], due := [] }) d))

/-- A source is retired (R243): where it was in use, its partial and held blocks go and the next source in order starts, or none is left
(R252). -/
def retireSrc (n : Nat) (d : Dev) : Dev :=
  let used := srcState d n == .active || srcState d n == .startup
  let d1 := setSrc n .retired d
  let d2 := if used then modRng (fun r => { r with held := 0 }) d1 else d1
  match if used then srcIn d2 .standby else none with
  | some k => setSrc k .startup d2
  | none => if d2.rng.src.all (· == .retired) then failRng d2 else d2

/-- A source retires with record `0x6002` (R243). -/
def retire (n test : Nat) (d : Dev) : Dev := retireSrc n (raise 0x6002 n n test d)

/-- `HEALTH_TEST_FAILURE`: test 1 repetition count, 2 adaptive proportion, on the source that runs; bits of a raw-sample run retire
nothing (R243, R255). -/
def healthFail (test : Nat) (d : Dev) : Dev :=
  if !alive d then d else
  match (srcIn d .active).orElse (fun _ => srcIn d .startup) with
  | none => d
  | some n => if d.rng.raw.any (fun r => r.source == n) then d else retire n test d

def execHealthTestFailure (test : Nat) (s : State) : Ans := onUnit (test == 1 || test == 2) (healthFail test) s

/-- `SOURCE_STARTUP_PASS` (R244). -/
def execSourceStartupPass (s : State) : Ans := onDev (fun d =>
  if !alive d then d else
  match srcIn d .startup with
  | none => d
  | some n => raise 0x6001 n n 0 (setSrc n .active d)) s

/-- `SOURCE_STARTUP_TIMEOUT` (R244). -/
def execSourceStartupTimeout (s : State) : Ans := onDev (fun d =>
  if !alive d then d else
  match srcIn d .startup with
  | none => d
  | some n => retire n 3 d) s

/-! ## Conditioner (R241, R242) -/

/-- `CONDITIONED_BLOCK`: a block from the active source is finished and held; in RAW the conditioner takes no input (R256). -/
def execConditionedBlock (s : State) : Ans := onDev (fun d =>
  if !alive d || (srcIn d .active).isNone || d.rng.raw.isSome then d
  else modRng (fun r => { r with held := r.held + 1 }) d) s

/-- `APT_WINDOW_CLOSE`: held blocks enter the queue of 16; blocks past it are discarded (R242). -/
def execAptWindowClose (s : State) : Ans := onDev (fun d =>
  if !alive d || (srcIn d .active).isNone then d
  else modRng (fun r => { r with queue := min 16 (r.queue + r.held), held := 0 }) d) s

/-- `CONDITIONER_MISMATCH` (R253). -/
def execConditionerMismatch (s : State) : Ans := onDev (fun d => if alive d then failRng d else d) s

/-! ## Instances (R245 to R249) -/

/-- The instance whose instantiation is next in ascending order. -/
def nextInstantiation (d : Dev) : Option Nat :=
  (List.range 16).find? (fun n => !(Tab.getD d.rng.inst n {}).seeded && !d.fen.drbg.getLsbD n)

/-- The next instance is instantiated: after the known-answer tests, from 512 bits of conditioned entropy (R245, R247, R249, R254). -/
def instantiate (d : Dev) : Dev :=
  if !alive d || d.rng.failed || d.rng.raw.isSome || !d.rng.kat || decide (d.rng.queue < 4) then d else
  match nextInstantiation d with
  | none => d
  | some n => modInst n (fun _ => { seeded := true }) (modRng (fun r => { r with queue := r.queue - 4 }) d)

/-- `DRBG_GENERATE`: an instance that serves refills its buffer (R245, R248). -/
def execDrbgGenerate (n : Nat) (s : State) : Ans := onUnit (decide (n < 16)) (fun d =>
  if !alive d || !rngServing d || !instServes d n then d
  else generate n 1 (modInst n (fun i => { i with buffer := 4096 }) d)) s

/-- `RESEED_DUE`: 1 s since an instance's last instantiation or reseed (R248). -/
def execReseedDue (n : Nat) (s : State) : Ans := onUnit (decide (n < 16)) (fun d =>
  if !alive d || !(Tab.getD d.rng.inst n {}).seeded || d.rng.due.contains n then d
  else modRng (fun r => { r with due := r.due ++ [n] }) d) s

/-- `RESEED_COMPLETE`: 384 bits of conditioned entropy, once no instantiation waits; the instance serves again (R247, R248). -/
def execReseedComplete (s : State) : Ans := onDev (fun d =>
  if !alive d || d.rng.failed || d.rng.raw.isSome || (nextInstantiation d).isSome || decide (d.rng.queue < 3) then d else
  match d.rng.due with
  | [] => d
  | n :: rest =>
    count 0x7001 1 none none false none
      (modInst n (fun i => { i with gens := 0, stopped := false })
        (modRng (fun r => { r with queue := r.queue - 3, due := rest }) d))) s

/-! ## Raw samples (R255, R256) -/

/-- Output bytes of a raw-sample run by mode. -/
def rawLen (mode : Nat) : Nat := if mode = 0 then 131072 else 125000

/-- A run ends: record `0x6005`, and every seeded instance must be reseeded before it serves again (R255, R256). -/
def endRaw (run : RawRun) (d : Dev) : Dev :=
  let seeded := (List.range 16).filter (fun n => (Tab.getD d.rng.inst n {}).seeded)
  raise 0x6005 run.source run.source run.mode (modRng (fun r => { r with
    raw := none
    inst := r.inst.map (fun (k, i) => (k, if i.seeded then { i with stopped := true } else i))
    due := r.due ++ seeded.filter (fun n => !r.due.contains n) }) d)

/-- `RAW_SAMPLE_RUN_END`: the samples leave by mailbox DMA and the response reports the health failures. -/
def execRawSampleRunEnd (healthFails : Nat) (s : State) : Ans := onDev (fun d =>
  match d.rng.raw with
  | none => d
  | some run =>
    if !alive d then d else
    let before := nextSeq d
    let d1 := endRaw run d
    answer run.mailbox .ok (leBytes 4 healthFails)
      ((List.range (rawLen run.mode)).map (Config.rawByte run.source)) false before d1) s

/-! ## The random opcodes (R257, R258) -/

/-- `RNG_STATE` (R257). -/
def rngState (d : Dev) : Nat :=
  if d.rng.failed then 3 else if d.rng.raw.isSome then 2 else if rngServing d then 1 else 0

/-- The fixed result of `RNG_STATUS` (R257). -/
def rngResult (d : Dev) : List Byte :=
  let retired := (List.range 6).foldl (fun n i => n + bitOf (srcState d i == .retired) i) 0
  let serving := (List.range 16).foldl (fun n i => n + bitOf (instServes d i && rngServing d) i) 0
  fit ([byteOf (rngState d), byteOf ((srcIn d .active).getD 0xFF), byteOf retired, 0] ++ leBytes 2 serving) 32

/-- `RANDOM_GENERATE` (R257, R258). -/
def randomCmd (c : Ctx) : M Act := do
  let n := c.p 0x38 4
  chk (fmtOk c 4 0 false) .format
  chk (decide (1 ≤ n) && decide (n ≤ 65536) && inLenOk c 4 0 && outLenOk c n) .length
  let bytes ← random n
  pure (.done { status := .ok, out := bytes } .nothing)

def execRandomGenerate (r : Run) (s : State) : Ans := runTx 0x0701 r randomCmd s

/-- `RNG_STATUS` (R257). -/
def rngStatusCmd (c : Ctx) : M Act := do
  chk (fmtOk c 0 0 true) .format
  chk (inLenOk c 0 0) .length
  let d ← get
  pure (.done { status := .ok, fixed := rngResult d } .nothing)

def execRngStatus (r : Run) (s : State) : Ans := runTx 0x0702 r rngStatusCmd s

end Sys2Proof.Machine
end

