-- ==== Sys2Proof/Machine/Engines.lean ====
section
/-! DEFINITION. The commands of fetching, Sheepdog and the engine pools (R49, R75 to R93, R180, R205, R211, R237). -/

namespace Sys2Proof.Machine

/-! ## Fetching and Sheepdog -/

/-- `DESCRIPTOR_FETCH` (R49). -/
def execDescriptorFetch (s : State) : Ans := onDev fetchNext s

/-- `DESCRIPTOR_ARRIVAL` (R53, R60, R71 to R74). -/
def execDescriptorArrival (slice ring : Nat) (desc : List Byte) (s : State) : Ans :=
  onUnit (decide (slice < 4096) && decide (ring < 8)) (arrive slice ring desc) s

/-- `ITEM_DISPATCH` (R82, R86). -/
def execItemDispatch (s : State) : Ans := onDev (fun d => deliverQueued (dispatchOne d)) s

/-- A thread of the part. -/
def threadExists (d : Dev) (core thread : Nat) : Bool := decide (core < coreCount d) && decide (thread < 4)

/-- `PREEMPT_SAVE` (R84). -/
def execPreemptSave (core thread : Nat) (s : State) : Ans :=
  onUnit (threadExists s.dev core thread) (fun d => deliverQueued (saveOn core thread d)) s

/-- `ITEM_FINISH` (R75 to R78). -/
def execItemFinish (core thread : Nat) (s : State) : Ans :=
  onUnit (threadExists s.dev core thread) (fun d => deliverQueued (finishOn core thread d)) s

/-- `DRAIN_CEILING_EXPIRY`: the CP aborts what the draining slice still holds (R93). -/
def execDrainCeilingExpiry (slice : Nat) (s : State) : Ans :=
  onUnit (decide (slice < 4096)) (fun d => if (sliceOf d slice).drain.isSome && !devFault d then abortSlice slice d else d) s

/-! ## Engine pools -/

def poolOf (d : Dev) : Pool → Tab Engine
  | .cipher => d.eng.ce
  | .digest => d.eng.de
  | .pk => d.eng.pk

def poolSize (d : Dev) : Pool → Nat
  | .cipher => ceCount d
  | .digest => deCount d
  | .pk => pkCount d

def poolFenced (d : Dev) (p : Pool) (n : Nat) : Bool :=
  match p with
  | .cipher => d.fen.ce.getLsbD n
  | .digest => d.fen.de.getLsbD n
  | .pk => d.fen.pk.getLsbD n

def setEngine (p : Pool) (n : Nat) (e : Engine) (d : Dev) : Dev :=
  match p with
  | .cipher => { d with eng := { d.eng with ce := Tab.put d.eng.ce n e } }
  | .digest => { d with eng := { d.eng with de := Tab.put d.eng.de n e } }
  | .pk => { d with eng := { d.eng with pk := Tab.put d.eng.pk n e } }

def engineOf (d : Dev) (p : Pool) (n : Nat) : Engine := Tab.getD (poolOf d p) n {}

/-- Master identifier of an engine (R337) and its counter event class (R418). -/
def engMaster (p : Pool) (n : Nat) : Nat :=
  match p with
  | .cipher => 0x200 + n
  | .digest => 0x210 + n
  | .pk => 0x220 + n

def engEvent : Pool → Nat
  | .cipher => 0x3000
  | .digest => 0x3100
  | .pk => 0x3200

/-- The lowest idle unfenced engine of a pool (R180). -/
def idleEngine (d : Dev) (p : Pool) : Option Nat :=
  (List.range (poolSize d p)).find? (fun n => (engineOf d p n).cur.isNone && !poolFenced d p n)

/-- The request a pool serves next: higher item priority first, then arrival order (R180, R211). -/
def nextRequest (d : Dev) (p : Pool) : Option EngReq :=
  leastBy (fun q => (7 - q.prio) * 2 ^ 64 + q.arrival) (d.eng.queue.filter (fun q => q.pool == p))

/-- The slice of an item in flight. -/
def itemSlice (d : Dev) (id : Nat) : Option Nat := (itemOf d id).map (·.slice)

/-- `ENGINE_REQUEST_START` (R180, R181, R211, R342). -/
def execEngineRequestStart (pool : Pool) (s : State) : Ans := onDev (fun d =>
  if devFault d then d else
  match nextRequest d pool, idleEngine d pool with
  | some q, some n =>
    let sl := itemSlice d q.item
    let d1 := { d with eng := { d.eng with queue := d.eng.queue.filter (fun r => r.arrival != q.arrival) } }
    count (engEvent pool) 1 sl (some (engMaster pool n)) false none
      (setEngine pool n { cur := some q, rules := (sl.map RuleTag.slice).getD .none } d1)
  | _, _ => d) s

/-- A finished request reports to Zatik: the result is delivered, or waits for its preempted item to run again (R84, R180). -/
def reportEngine (q : EngReq) (d : Dev) : Dev :=
  match itemOf d q.item with
  | none => d
  | some i =>
    match i.place with
    | .running _ _ => deliver q.item i.slice q.res q.after (modItem q.item (fun i => { i with wait := .none }) d)
    | _ => modItem q.item (fun i => { i with wait := .none, queued := some (q.res, q.after) }) d

/-- `ENGINE_REQUEST_COMPLETE` (R195, R211, R234). -/
def execEngineRequestComplete (pool : Pool) (n : Nat) (s : State) : Ans :=
  onUnit (decide (n < poolSize s.dev pool)) (fun d =>
    let e := engineOf d pool n
    match e.cur with
    | none => d
    | some q =>
      if e.aborting || devFault d then d else
      let d1 := if pool = .pk then d
        else count (engEvent pool + 1) q.bytes (itemSlice d q.item) (some (engMaster pool n)) false none d
      reportEngine q (setEngine pool n {} d1)) s

/-- An aborted request has been zeroised: the engine is free, and an item ordered aborted that waited for it finishes (R93, R205,
R237, R352). -/
def endAbort (pool : Pool) (n : Nat) (d : Dev) : Dev :=
  let e := engineOf d pool n
  match e.cur with
  | none => d
  | some q =>
    if !e.aborting then d else
    let d1 := setEngine pool n {} d
    match itemOf d1 q.item with
    | some i => if i.abort && i.wait == .engine && !devFault d then abortNow q.item d1 else d1
    | none => d1

/-- `ENGINE_ABORT_COMPLETE`, for the cipher and digest pools (R205). -/
def execEngineAbortComplete (pool : Pool) (n : Nat) (s : State) : Ans :=
  onUnit (pool != .pk && decide (n < poolSize s.dev pool)) (endAbort pool n) s

/-- `PK_ABORT_COMPLETE` (R237). -/
def execPkAbortComplete (n : Nat) (s : State) : Ans := onUnit (decide (n < pkCount s.dev)) (endAbort .pk n) s

end Sys2Proof.Machine
end

