-- ==== Sys2Proof/Machine/Fault.lean ====
section
/-! DEFINITION. Detected errors (11): fences and their retries, the device fault stop, CP resets, target gates, scrubbing and the
noise of damaged records.
Marks: assumptions 58 to 62. -/

namespace Sys2Proof.Machine

def setFault (bit : Nat) (d : Dev) : Dev :=
  { d with sys := { d.sys with faultStatus := d.sys.faultStatus ||| BitVec.ofNat 32 (2 ^ bit) } }

/-- The device fault stop (R329): `DEV_FAULT`, record `0x5009` unless the recorder itself failed. A block is named by its master
identifier (R337). -/
def faultStop (block : Nat) (d : Dev) : Dev :=
  if devFault d then d
  else setFault 5 (if block = 0x303 then d else raise 0x5009 0xFFFF block 0 d)

/-- What every fence does (R327, R345, R346): class 1 core, 2 cipher engine, 3 digest engine, 4 PK engine, 5 key-cache bank, 6 DRBG
instance. -/
def fenceReport (cls unit cause : Nat) (d : Dev) : Dev :=
  let d1 := setFault 0 { d with sys := { d.sys with lastFence := BitVec.ofNat 32 (cls + unit * 256 + cause * 65536) } }
  count 0x5001 1 none none false none (raise (0x5000 + cls) unit unit cause d1)

def bitOr {w : Nat} (x : BitVec w) (n : Nat) : BitVec w := x ||| BitVec.ofNat w (2 ^ n)

/-! ## Cores, engines, banks, instances -/

/-- A core is fenced and every item it held is taken back (R89, R327). -/
def fenceCore (n cause : Nat) (d : Dev) : Dev :=
  if d.fen.tc.getLsbD n then d else
  let d1 := fenceReport 1 n cause { d with fen := { d.fen with tc := bitOr d.fen.tc n } }
  ((itemList d1).map (·.1)).foldl (fun d id => if (itemOf d id).any (onCore n) then takeBack id d else d) d1

def execCoreFence (core cause : Nat) (s : State) : Ans := onUnit (decide (core < coreCount s.dev)) (fenceCore core cause) s

/-- Zatik retries an item after an engine fence, from its key lookup and once (R204, R235). -/
def retryItem (id : Nat) (d : Dev) : Dev :=
  match itemOf d id with
  | none => d
  | some i =>
    if i.abort then abortNow id d
    else if i.retried then
      (match i.place with
        | .running _ _ => setRes id { status := .fault } d
        | _ => modItem id (fun i => { i with wait := .none, queued := some ({ status := .fault }, .nothing) }) d)
    else modItem id (fun i => { i with retried := true, wait := .none, copies := [], queued := none }) d

/-- An engine is fenced: zeroised, its request retried (R203, R204, R210, R235). -/
def fenceEngine (p : Pool) (n cause : Nat) (d : Dev) : Dev :=
  if poolFenced d p n then d else
  let f := d.fen
  let (cls, f1) := match p with
    | .cipher => (2, { f with ce := bitOr f.ce n })
    | .digest => (3, { f with de := bitOr f.de n })
    | .pk => (4, { f with pk := bitOr f.pk n })
  let e := engineOf d p n
  let d1 := fenceReport cls n cause (setEngine p n {} { d with fen := f1 })
  match e.cur with
  | none => d1
  | some q =>
    if e.aborting then endAbort p n (setEngine p n e d1) else retryItem q.item d1

/-- With every engine of a pool fenced, the requests that wait for it complete with `ST_FAULT` (R204, R235). -/
def failPool (p : Pool) (d : Dev) : Dev :=
  if (List.range (poolSize d p)).all (poolFenced d p) then
    let qs := d.eng.queue.filter (fun q => q.pool == p)
    qs.foldl (fun d q => reportEngine { q with res := { status := .fault }, after := .nothing } d)
      { d with eng := { d.eng with queue := d.eng.queue.filter (fun q => q.pool != p) } }
  else d

def fencePool (p : Pool) (n cause : Nat) (d : Dev) : Dev := failPool p (fenceEngine p n cause d)

def execEngineFence (cipher : Bool) (n cause : Nat) (s : State) : Ans :=
  let p := if cipher then Pool.cipher else .digest
  onUnit (decide (n < poolSize s.dev p)) (fencePool p n cause) s

def execPkEngineFence (n cause : Nat) (s : State) : Ans := onUnit (decide (n < pkCount s.dev)) (fencePool .pk n cause) s

/-- A key-cache bank is fenced and its entries are lost; kind 2 handles stay, damaged (R121, R128). -/
def fenceBank (n cause : Nat) (d : Dev) : Dev :=
  if d.fen.bank.getLsbD n then d else
  let d1 := fenceReport 5 n cause { d with fen := { d.fen with bank := bitOr d.fen.bank n } }
  (d1.keys.cache.map (·.1)).foldl (fun d id =>
    match Tab.find d.keys.cache id with
    | none => d
    | some e =>
      if e.bank ≠ n then d
      else match e.src with
        | .eph _ => { d with keys := { d.keys with cache := Tab.put d.keys.cache id { e with damaged := true, key := {} } } }
        | _ => dropEntry id d) d1

/-- The item a thread runs is taken back for its one retry (R89, R128, R326). -/
def retryReader (reader : Option (Nat × Nat)) (d : Dev) : Dev :=
  match reader with
  | none => d
  | some (c, t) =>
    match runningOn d c t with
    | some (id, _) => takeBack id d
    | none => d

def execKeyCacheBankFence (bank cause : Nat) (reader : Option (Nat × Nat)) (s : State) : Ans :=
  onUnit (decide (bank < 16)) (fun d => if d.fen.bank.getLsbD bank then d else retryReader reader (fenceBank bank cause d)) s

/-- A DRBG instance is fenced and zeroised; with every instance fenced the RNG is FAILED (R253). -/
def fenceInst (n cause : Nat) (d : Dev) : Dev :=
  if d.fen.drbg.getLsbD n then d else
  let d1 := fenceReport 6 n cause { d with fen := { d.fen with drbg := bitOr d.fen.drbg n } }
  let d2 := modRng (fun r => { r with inst := Tab.del r.inst n, due := r.due.filter (· != n) }) d1
  if (List.range 16).all (fun k => d2.fen.drbg.getLsbD k) then failRng d2 else d2

/-- The item whose draw was affected is served from another instance, which counts as its one retry; where none is left, the
request ends with `ST_RNG_FAIL` (R252, R253). -/
def countDraw (reader : Option (Nat × Nat)) (d : Dev) : Dev :=
  match reader with
  | none => d
  | some (c, t) =>
    match runningOn d c t with
    | some (id, i) =>
      if i.retried then setRes id { status := if d.rng.failed then .rngFail else .fault } d
      else modItem id (fun i => { i with retried := true }) d
    | none => d

def execDrbgInstanceFence (n cause : Nat) (reader : Option (Nat × Nat)) (s : State) : Ans :=
  onUnit (decide (n < 16)) (fun d => if d.fen.drbg.getLsbD n then d else countDraw reader (fenceInst n cause d)) s

/-! ## Slices and the unspared blocks -/

/-- A slice enters ERROR (R310): intake closed, items aborted, record `0x4010` with the cause; the entry is committed where its record
was damaged (R383). -/
def enterError (n cause : Nat) (d : Dev) : Dev :=
  let s := sliceOf d n
  if s.state = .free ∨ s.state = .error then d else
  let d1 := raise 0x4010 n cause 0 (modSlice n (fun s => { s with state := .error, intake := false }) d)
  let d2 := if cause = 1 then submit { slice := n, kind := .sliceErr } .device { status := .ok } d1 else d1
  if devFault d then d2 else abortSlice n d2

/-- `SLICE_ERROR`, cause 1 record, 2 volatile state (R310). -/
def execSliceError (slice cause : Nat) (s : State) : Ans :=
  onUnit (decide (slice < 4096) && (cause == 1 || cause == 2)) (enterError slice cause) s

/-- `DEVICE_FAULT_STOP` (R329). -/
def execDeviceFaultStop (block : Nat) (s : State) : Ans := onDev (fun d => if alive d then faultStop block d else d) s

/-! ## The CP (R264, R330, R443) -/

/-- The bank that is not active; bank 0 where no readable pointer exists (R430). -/
def inactiveBank (w : Firmware) : Nat := if w.active = some 0 then 1 else 0

def setBank (k : Nat) (b : Option Bank) (w : Firmware) : Firmware := if k = 0 then { w with bank0 := b } else { w with bank1 := b }

/-- Reception or staging ends: the inactive bank is marked empty (R443). -/
def dropStaging (code : Nat) (d : Dev) : Dev :=
  let w := setBank (inactiveBank d.fw) none d.fw
  { d with fw := { w with staging := .none, package := [], total := 0, staged := none, stagedKind := 0, lastResult := code } }

/-- `NEW_FW` of the package in reception, or of the staged image; 0 before its header has arrived. -/
def newFw (d : Dev) : Nat :=
  match d.fw.staged with
  | some b => b.fw
  | none => if 128 ≤ d.fw.package.length then leAt d.fw.package 0x0C 4 else 0

/-- A session ends, its keys zeroised (R270). -/
def endSession (id : Nat) (d : Dev) : Dev :=
  match Tab.find d.mg.sessions id with
  | none => d
  | some s => raise 0x3005 s.scope s.officer 0 { d with mg := { d.mg with sessions := Tab.del d.mg.sessions id } }

/-- Steps of a mailbox request the CP no longer serves: those under way stand on their own, one that still waits is dropped. -/
def orphanSteps (m : Nat) (d : Dev) : Dev :=
  { d with pair := { d.pair with steps := d.pair.steps.filterMap (fun p =>
      if p.origin = .mailbox m then (if p.phase = .waiting then none else some { p with origin := .device }) else some p) } }

/-- Staged LMK components go (R290). -/
def clearStaged (d : Dev) : Dev := { d with slices := d.slices.map (fun (k, s) => (k, { s with staged := [] })) }

/-- What a CP restart loses: sessions, nonces, LMK staging, `MB_QSEQ`, migration keys, a raw-sample run, and the requests in
service. -/
def loseCp (d : Dev) : Dev :=
  let d1 := (d.mg.sessions.map (·.1)).foldl (fun d k => endSession k d) d
  let d2 := clearStaged { d1 with mg := { d1.mg with
    migration := []
    boxes := d1.mg.boxes.map (fun (k, b) => (k, { b with nonce := none, qseq := 0, wait := .none })) } }
  let d3 := (d2.mg.boxes.map (·.1)).foldl (fun d m => orphanSteps m d) d2
  let d4 : Dev := { d3 with
    slices := d3.slices.map (fun (k, s) => (k, { s with drain := s.drain.map (fun dr => { dr with mailboxes := [] }) }))
    pair := { d3.pair with cmd := none }
    hif := { d3.hif with spdm := d3.hif.spdm.map (fun (k, x) => (k, { x with nonce := none, bound := none })) } }
  match d4.rng.raw with
  | some r => endRaw r d4
  | none => d4

/-- The CP is reset alone; a third reset within 1 s is a device fault stop instead (R330). -/
def cpReset (record : Option Nat) (d : Dev) : Dev :=
  if !d.sys.cpUp || devFault d then d else
  let recent := d.sys.cpResets.filter (fun t => decide (d.sys.uptime < t + 1000000000))
  if 2 ≤ recent.length then faultStop 0 d
  else
    let d1 := match record with
      | some code => raise code 0xFFFF 0 0 d
      | none => d
    loseCp (setFault 1 { d1 with sys := { d1.sys with
      cpUp := false, cpRestart := true, cpActivation := false, cpResets := d.sys.uptime :: recent } })

def execCpLockstepMismatch (s : State) : Ans := onDev (cpReset (some 0x5007)) s

/-- `CP_WATCHDOG_KICK` (R330). -/
def execCpWatchdogKick (s : State) : Ans := onDev (fun d =>
  if d.sys.cpUp then { d with sys := { d.sys with watchdogKick := d.sys.uptime } } else d) s

def execCpWatchdogExpiry (s : State) : Ans := onDev (cpReset (some 0x5008)) s

/-- `MULE_PROGRESS` (R333). -/
def execMuleProgress (s : State) : Ans := onDev (fun d =>
  if alive d then { d with fen := { d.fen with muleProgress := d.sys.uptime } } else d) s

/-- `MULE_PROGRESS_TIMEOUT` (R333). -/
def execMuleProgressTimeout (s : State) : Ans := onDev (fun d => if d.sys.cpUp then faultStop 0x302 d else d) s

/-! ## Target gates (R337 to R344) -/

/-- One entry of a rule set (R338). `tag` is the slice tag it asks for, `none` where the class carries none or every tag matches. -/
structure Rule where
  target : Nat
  base : Nat := 0
  size : Nat := 2 ^ 48
  r : Bool := true
  w : Bool := true
  x : Bool := false
  tag : Option Nat := none
  cpw : Bool := false
deriving DecidableEq, Repr

/-- Classes whose targets carry a slice tag (R339). -/
def sliceTagged (t : Nat) : Bool := decide (3 ≤ t) && decide (t ≤ 8)

/-- A thread's own memory, and the classes of its slice or of CP work (R341). -/
def threadRules (t : Nat) (tag : RuleTag) : List Rule :=
  let own : List Rule :=
    [{ target := 1, base := 0, size := 0x8000, w := false, x := true },
     { target := 1, base := 0x8000 + t * 0x5000, size := 0x5000 },
     { target := 2, base := 0x20000 + t * 0x2000, size := 0x2000 }, { target := 0x11, w := false }]
  match tag with
  | .none => []
  | .slice n => own ++ [3, 4, 5, 6, 7, 8].map (fun c => { target := c, tag := some n })
  | .cpWork => own ++ [3, 4, 5, 6, 8].map (fun c => { target := c, cpw := true })

/-- An engine's set: the host window and its own class, under the tag of its request (R342). -/
def engineRules (cls : Nat) (tag : RuleTag) : List Rule :=
  match tag with
  | .none => []
  | .slice n => [{ target := 7, tag := some n }, { target := cls, tag := some n }]
  | .cpWork => [{ target := 7, cpw := true }, { target := cls, cpw := true }]

/-- The active set of a master (R341, R342) and its tag; `none` where the part has no such master. -/
def activeSet (d : Dev) (m : Nat) : Option (RuleTag × List Rule) :=
  let fixed := fun (l : List Rule) => some (RuleTag.none, l)
  if 0x100 ≤ m ∧ m < 0x100 + 4 * coreCount d then
    let t := (threadOf d (m - 0x100)).active
    some (t, threadRules ((m - 0x100) % 4) t)
  else if 0x200 ≤ m ∧ m < 0x200 + ceCount d then
    let t := (engineOf d .cipher (m - 0x200)).rules
    some (t, engineRules 4 t)
  else if 0x210 ≤ m ∧ m < 0x210 + deCount d then
    let t := (engineOf d .digest (m - 0x210)).rules
    some (t, engineRules 5 t)
  else if 0x220 ≤ m ∧ m < 0x220 + pkCount d then
    let t := (engineOf d .pk (m - 0x220)).rules
    some (t, engineRules 6 t)
  else match m with
  | 0x000 => fixed ([0x09, 0x0E, 0x0D, 0x0C, 0x0B, 0x0A, 0x10].map (fun c => { target := c })
      ++ [{ target := 0x08, cpw := true }, { target := 0x06, cpw := true }, { target := 0x0F, w := false },
          { target := 0x11, w := false }])
  | 0x300 => fixed [{ target := 0x0C }, { target := 0x0D, r := false }]
  | 0x301 => fixed [{ target := 0x09 }, { target := 0x03 }]
  | 0x302 => fixed [{ target := 0x12 }, { target := 0x0E }, { target := 0x0D }]
  | 0x303 => fixed [{ target := 0x09 }]
  | 0x304 => fixed [{ target := 0x0B, w := false }, { target := 0x07, r := false }]
  | 0x305 => fixed [{ target := 0x08 }]
  | 0x306 => fixed [{ target := 0x0C, w := false }]
  | _ => none

/-- An entry's tag matches the target's (R340). -/
def tagMatch (m : Nat) (e : Rule) (a : GateAccess) : Bool :=
  !sliceTagged a.target || (m == 0x301 && a.target == 3) || m == 0x304 || m == 0x305
    || (if e.cpw then a.cpw else e.tag == some a.tag && !a.cpw)

/-- Why a gate denies an access (R340, R344, R346): 4 straddle, 5 oversize, 6 damaged set, 1 no entry, 2 type, 3 tag. -/
def gateKind (d : Dev) (a : GateAccess) : Option Nat :=
  match activeSet d a.master with
  | none => none
  | some (_, rules) =>
    let here := rules.filter (fun e => e.target == a.target && decide (e.base ≤ a.addr) && decide (a.addr < e.base + e.size))
    let typed := here.filter (fun e => if a.exec then e.x else if a.write then e.w else e.r)
    if 4096 < a.addr % 4096 + a.size then some 4
    else if 64 < a.size then some 5
    else if a.damaged then some 6
    else if here.isEmpty then some 1
    else if typed.isEmpty then some 2
    else if typed.any (fun e => tagMatch a.master e a) then none else some 3

/-- `GATE_VIOL_INFO` of a violation (R346). -/
def gateInfo (tag : RuleTag) (a : GateAccess) (kind : Nat) : Nat :=
  let (sl, cpw) := match tag with
    | .none => (0, false)
    | .slice n => (n, false)
    | .cpWork => (0, true)
  a.master % 2 ^ 10 + a.target % 256 * 2 ^ 16 + kind * 2 ^ 24 + bitOf a.write 27 + sl * 2 ^ 32 + bitOf cpw 44

/-- The slice of a set, where it has one. -/
def tagSlice : RuleTag → Option Nat
  | .slice n => some n
  | _ => none

/-- What a violation does to its master (R344). -/
def gateConsequence (m : Nat) (d : Dev) : Dev :=
  if 0x100 ≤ m ∧ m < 0x200 then fenceCore ((m - 0x100) / 4) 4 d
  else if 0x200 ≤ m ∧ m < 0x210 then fencePool .cipher (m - 0x200) 4 d
  else if 0x210 ≤ m ∧ m < 0x220 then fencePool .digest (m - 0x210) 4 d
  else if 0x220 ≤ m ∧ m < 0x300 then fencePool .pk (m - 0x220) 4 d
  else if m = 0 then cpReset none d
  else faultStop m d

/-- A gate decides an access (R340, R344): an allowed one and an expected Mule probe change only the counters. -/
def gateDecide (a : GateAccess) (d : Dev) : Dev :=
  match activeSet d a.master with
  | none => d
  | some (tag, _) =>
    let sl := tagSlice tag
    let ev := fun code => count code 1 sl (some a.master) (tag == .cpWork) (some (a.target, a.addr)) d
    match gateKind d a with
    | none => ev 0x4000
    | some k =>
      if a.probe && a.master == 0x302 then d else
      let info := gateInfo tag a k
      let d1 := ev 0x4001
      let first := !d1.sys.faultStatus.getLsbD 2
      let d2 := setFault 2 { d1 with sys := { d1.sys with
        gateViolCount := sat 0xFFFFFFFF (d1.sys.gateViolCount + 1)
        gateViolInfo := if first then BitVec.ofNat 64 info else d1.sys.gateViolInfo
        gateViolAddr := if first then BitVec.ofNat 64 a.addr else d1.sys.gateViolAddr } }
      gateConsequence a.master (raise 0x9020 (sl.getD 0) info a.addr d2)

/-- `GATE_VIOLATION` (R344). -/
def execGateViolation (a : GateAccess) (s : State) : Ans := onUnit (activeSet s.dev a.master).isSome (gateDecide a) s

/-! ## Scrubbing (R324, R326) -/

/-- The identifier of an array in record `0x5010`. -/
def arrId : Arr → Nat
  | .core n => 0x100 + n
  | .cipher n => 0x200 + n
  | .digest n => 0x300 + n
  | .pk n => 0x400 + n
  | .bank n => 0x500 + n
  | .drbg n => 0x600 + n
  | .sliceState n => 0x10000 + n
  | .cpMemory => 0x700
  | .unspared n => 0x20000 + n

/-- Arrays the part has. -/
def arrExists (d : Dev) : Arr → Bool
  | .core n => decide (n < coreCount d)
  | .cipher n => decide (n < ceCount d)
  | .digest n => decide (n < deCount d)
  | .pk n => decide (n < pkCount d)
  | .bank n | .drbg n => decide (n < 16)
  | .sliceState n => decide (n < 4096)
  | .cpMemory | .unspared _ => true

/-- The effect of an uncorrectable word (R323, R326). -/
def arrayFault (a : Arr) (cause : Nat) (d : Dev) : Dev :=
  match a with
  | .core n => fenceCore n cause d
  | .cipher n => fencePool .cipher n cause d
  | .digest n => fencePool .digest n cause d
  | .pk n => fencePool .pk n cause d
  | .bank n => fenceBank n cause d
  | .drbg n => fenceInst n cause d
  | .sliceState n => enterError n 2 d
  | .cpMemory => cpReset none d
  | .unspared b => faultStop b d

/-- `SCRUB_PASS` (R324, R326). -/
def execScrubPass (a : Arr) (found : ScrubFound) (word : Nat) (s : State) : Ans :=
  onUnit (arrExists s.dev a) (fun d =>
    if !alive d then d else
    match found with
    | .clean => d
    | .corrected =>
      let d1 := setFault 3 { d with sys := { d.sys with corrCount := sat 0xFFFFFFFF (d.sys.corrCount + 1) } }
      count 0x5000 1 none none false none (raise 0x5010 0xFFFF (arrId a) word d1)
    | .uncorrectable => arrayFault a 3 d) s

/-- A Skerry record fails its authentication (R103, R310, R411). -/
def damageRecord (r : SkRec) (d : Dev) : Dev :=
  let mark := fun (t : Tab EvRec) => t.map (fun (k, e) => (k, if k = r.number then { e with damaged := true } else e))
  match r.region with
  | 4 =>
    let n := r.number / 64
    let k := r.number % 64
    if (slotOf (sliceOf d n) k).st = .empty then d
    else raise 0x5020 n 4 r.number (modSlot n k (fun x => { x with st := .damaged }) d)
  | 5 =>
    let n := r.number / 4
    let g := r.number % 4
    raise 0x5020 n 5 r.number (modSlice n (fun s => { s with per := { s.per with
      lmk := s.per.lmk.modify g (fun l => { l with damaged := true }) } }) d)
  | 6 => raise 0x5020 0xFFFF 6 r.number { d with log := { d.log with perm := mark d.log.perm } }
  | 7 => { d with log := { d.log with circ := mark d.log.circ } }
  | 9 =>
    let d1 := raise 0x5020 0xFFFF 9 r.number d
    if r.number < 4096 then enterError r.number 1 d1 else d1
  | g => raise 0x5020 0xFFFF g r.number d

/-- `SKERRY_SCRUB` (R103, R326). -/
def execSkerryScrub (r : SkRec) (ok : Bool) (s : State) : Ans :=
  onUnit (decide (1 ≤ r.region) && decide (r.region ≤ 9)) (fun d =>
    if !alive d || !d.sys.ksk || ok then d else damageRecord r d) s

end Sys2Proof.Machine
end

