-- ==== Sys2Proof/Machine/Port.lean ====
section
/-! DEFINITION. The frames of the service port (R431 to R434): their CRC, and a response that waits to be read. -/

namespace Sys2Proof.Machine

/-- One bit of the CRC-32 of IEEE 802.3, reflected (R432). -/
def crc32Bit (x : Nat) : Nat := if x % 2 = 1 then x / 2 ^^^ 0xEDB88320 else x / 2

/-- A run of bytes into the register, each byte worked out before the next. -/
def crc32Run : List Byte → Nat → Nat
  | [], x => x
  | b :: l, x => force ((List.range 8).foldl (fun y _ => crc32Bit y) (x ^^^ b.toNat)) (crc32Run l)

/-- The CRC-32 of a run of bytes (R432). -/
def crc32 (l : List Byte) : Nat := crc32Run l 0xFFFFFFFF ^^^ 0xFFFFFFFF

/-- A frame before its CRC (R432). -/
def frameHead (sync ty seq status : Nat) (payload : List Byte) : List Byte :=
  [byteOf sync, byteOf ty, byteOf seq, byteOf status] ++ leBytes 4 payload.length ++ payload

/-- A response frame (R432). -/
def responseFrame (ty seq status : Nat) (payload : List Byte) : List Byte :=
  let h := frameHead 0x5A ty seq status payload
  h ++ leBytes 4 (crc32 h)

/-- A request's CRC and `SYNC` are right (R432, R433). -/
def frameOk (ty : Nat) (f : SvcFrame) : Bool :=
  f.sync == 0xA5 && f.crc == crc32 (frameHead f.sync ty f.seq f.spStatus f.payload)

/-- A response waits to be read: `SVC_IRQ_n` is asserted (R431). -/
def portAnswer (ty seq status : Nat) (payload : List Byte) (d : Dev) : Dev :=
  { d with fw := { d.fw with response := some (responseFrame ty seq status payload), unanswered := none } }

/-- The answer of an `ACTIVATE` frame whose activation has ended (R434, R435). -/
def answerActivate (status : Nat) (payload : List Byte) (d : Dev) : Dev :=
  match d.fw.unanswered with
  | some (ty, seq) => portAnswer ty seq status payload d
  | none => d

end Sys2Proof.Machine
end

