-- ==== Sys2Proof/Machine/Tamper.lean ====
section
/-! DEFINITION. Goose (12): sources and their responses, Lock and Erase, the external lines, debug and scrap; and Mule's tests, one of
which raises T11.
Marks: assumptions 64 to 69. -/

namespace Sys2Proof.Machine

/-! ## Leaving the pair (R388) -/

/-- The Strait is up under a transport key. -/
def straitKeyed (d : Dev) : Bool := decide (4 ≤ d.pair.lanes) && d.pair.key

/-- Sends `RELINQUISH`; from here nothing commits until a pair forms again (R388). -/
def relinquish (d : Dev) : Dev :=
  if !straitKeyed d then d
  else strait (.relinquish d.store.seq) { d with pair := { d.pair with
    relinquished := true, state := .seeking, role := .none, key := false, helloSent := false, timer := .off } }

/-! ## Responses (R348, R349) -/

/-- Sources whose default response is Erase. -/
def eraseByDefault (n : Nat) : Bool := !([3, 4, 6, 7, 11].contains n)

/-- Effective response of a source: 0 disabled, 1 Lock, 2 Erase (R349). -/
def effective (c : Cx) (n : Nat) : Nat :=
  if (c.f.disable0 &&& c.f.disable1).getLsbD n then 0
  else if (c.f.raise0 ||| c.f.raise1).getLsbD n then 2
  else if c.d.goose.lowered.getLsbD n && c.d.sys.lc == 0 then 1
  else if eraseByDefault n then 2 else 1

/-- Sources that clear at once (R348). -/
def clearsAtOnce (n : Nat) : Bool := n == 5 || n == 9

/-- Sources whose condition lasts: all that do not clear at once (R348). -/
def lasting (n : Nat) : Bool := !clearsAtOnce n

/-- Sources that never clear (R348). -/
def neverClears (n : Nat) : Bool := [0, 1, 8, 10].contains n

def modGoose (f : Goose → Goose) (d : Dev) : Dev := { d with goose := f d.goose }

/-! ## Lock and Erase (R352, R354) -/

/-- An activation stopped before its commit: the image stays STAGED and the request is answered; over the service port with the cause
that names the state of staging (R433, R445). -/
def stopActivation (d : Dev) : Dev :=
  if d.fw.step = 0 ∨ 4 ≤ d.fw.step then d
  else
    let d1 := answerActivate 7 [4] { d with fw := { d.fw with staging := .staged, step := 0, mailbox := none } }
    match d.fw.mailbox with
    | some m => answer m .locked [] [] false (nextSeq d) d1
    | none => d1

/-- A Lock takes effect: intake and dispatch stop, items abort, the pair is left, and record `0x1001` is written (R352, R388). -/
def beginLock (src : Nat) (d : Dev) : Dev :=
  if d.goose.lock then d
  else
    let d1 := abortAll (modGoose (fun g => { g with lock := true }) (stopActivation (relinquish d)))
    if d1.goose.eraseBegun then d1 else raise 0x1001 src src 1 d1

/-- Items ordered aborted end, their engines zeroised through Goose's paths (R352, R354). -/
def endAborted (d : Dev) : Dev :=
  let d1 := { d with eng := { d.eng with ce := [], de := [], pk := [], queue := [] } }
  (itemList d1).foldl (fun d e => if e.2.abort then abortNow e.1 d else d) d1

/-- The volatile erase (R354 step 3). -/
def wipe (d : Dev) : Dev :=
  let d1 := clearStaged (endAborted d)
  { d1 with
    keys := { d1.keys with cache := [] }
    rng := { d1.rng with inst := [], queue := 0, held := 0, due := [] }
    sys := { d1.sys with ksk := false }
    mg := { d1.mg with sessions := [], migration := [] }
    pair := { d1.pair with key := false }
    goose := { d1.goose with volatileDone := true } }

/-- Step 3 and the start of step 4: volatile erase, then the next `ERASE_COUNT` bit (R354). -/
def eraseVolatile (c : Cx) : Cx :=
  if !c.d.goose.eraseRunning || c.d.goose.volatileDone then c
  else { d := wipe c.d, f := { c.f with eraseCount := blowNext c.f.eraseCount } }

/-- Steps 4 and 5: the share is overwritten and read back, and `ERASED` is set (R354). -/
def eraseShare (c : Cx) : Cx :=
  if !c.d.goose.eraseRunning || !c.d.goose.volatileDone then c
  else c.mod (fun d => modGoose (fun g => { g with eraseRunning := false, erased := true })
    { d with sys := { d.sys with share := .erased } })

/-- An Erase begins (R354 steps 1, 2); one runs in each start. -/
def beginErase (src : Nat) (d : Dev) : Dev :=
  if d.goose.eraseBegun then d
  else beginLock src (modGoose (fun g => { g with eraseRunning := true, eraseBegun := true }) d)

/-- A whole Erase, unless one has completed since reset (R368, R369). -/
def fullErase (c : Cx) : Cx := eraseShare (eraseVolatile (c.mod (beginErase 0)))

/-! ## Alarms (R348, R351, R358, R359) -/

/-- Goose senses: power is on, no reset holds, and it is armed. -/
def sensing (d : Dev) : Bool := alive d && d.goose.armed

/-- A source that can alarm now: not disabled, and T10 in CLOSED alone with debug not reopened (R349, R364). -/
def canAlarm (c : Cx) (n : Nat) : Bool :=
  effective c n != 0 && (n != 10 || (c.d.sys.lc == 1 && !c.d.dbg.reopened))

/-- One alarm-log entry (R361). -/
def logAlarm (n resp : Nat) (powerUp erasing : Bool) (d : Dev) : Dev :=
  modGoose (fun g =>
    if g.log.length < 16 then
      { g with log := g.log ++ [{ time := d.sys.time, epoch := d.sys.epoch, source := n, response := resp, powerUp, erasing }] }
    else { g with logFull := true }) d

/-- Alarms recognised in one OCLK cycle (R358): each new source is logged and latched in ascending order; then the strongest response
of them takes effect. A source already latched only shows its condition again. -/
def alarms (srcs : List Nat) (powerUp : Bool) (c : Cx) : Cx :=
  let live := srcs.filter (canAlarm c)
  let fresh := live.filter (fun n => !c.d.goose.latched.getLsbD n)
  let shown := live.foldl (fun d n => modGoose (fun g => { g with
    asserted := if lasting n then bitOr g.asserted n else g.asserted
    uncleared := if clearsAtOnce n then g.uncleared else bitOr g.uncleared n }) d) c.d
  match fresh with
  | [] => { c with d := shown }
  | first :: _ =>
    let running := c.d.goose.eraseRunning
    let d1 := fresh.foldl (fun d n =>
      let r := effective c n
      let d2 := modGoose (fun g => { g with latched := bitOr g.latched n, alarmOut := true })
        (logAlarm n r powerUp running d)
      if powerUp && r == 1 then raise 0x1011 n n 0 d2 else d2) shown
    { c with d := if fresh.any (fun n => effective c n == 2) then beginErase first d1 else beginLock first d1 }

/-- The sources of a mask. -/
def maskList (m : BitVec 12) : List Nat := (List.range 12).filter m.getLsbD

/-- Sets the junction readings of the moment. -/
def setTemps (t : Option (BitVec 16 × BitVec 16)) (d : Dev) : Dev :=
  match t with
  | some (hi, lo) => modGoose (fun g => { g with tjMax := hi, tjMin := lo }) d
  | none => d

/-- `TAMPER_ALARM` (R348, R358): the sources recognised in one OCLK cycle, with the junction readings where they changed. -/
def execTamperAlarm (mask : BitVec 12) (temps : Option (BitVec 16 × BitVec 16)) (s : State) : Ans :=
  withCx s (let c := s.cx.mod (setTemps temps)
    if sensing c.d then alarms (maskList mask) false c else c)

/-- `ERASE_VOLATILE_COMPLETE` (R354). -/
def execEraseVolatileComplete (s : State) : Ans := withCx s (eraseVolatile s.cx)

/-- `ERASE_SHARE_COMPLETE` (R354). -/
def execEraseShareComplete (s : State) : Ans := withCx s (eraseShare s.cx)

/-- `TAMPER_SOURCE_CLEAR` (R348). -/
def execTamperSourceClear (n : Nat) (s : State) : Ans := onUnit (decide (n < 12)) (fun d =>
  if !sensing d || neverClears n then d
  else modGoose (fun g => { g with
    asserted := g.asserted &&& ~~~(BitVec.ofNat 12 (2 ^ n)), uncleared := g.uncleared &&& ~~~(BitVec.ofNat 12 (2 ^ n)) }) d) s

/-! ## External lines (R350, R351) -/

/-- The source of a line. -/
def lineSource (lineB : Bool) : Nat := if lineB then 7 else 6

/-- Records a phase of a line: its length, whether it lay within limits, and the valid phases since `RESET_n`. -/
def notePhase (lineB : Bool) (us : Option Nat) (ok : Bool) (d : Dev) : Dev :=
  modGoose (fun g =>
    let g1 := if lineB then { g with bValid := ok, bPhases := g.bPhases + ok.toNat, bPhase := sat 255 (us.getD g.bPhase) }
      else { g with aValid := ok, aPhases := g.aPhases + ok.toNat, aPhase := sat 255 (us.getD g.aPhase) }
    if ok then { g1 with asserted := g1.asserted &&& ~~~(BitVec.ofNat 12 (2 ^ lineSource lineB)) } else g1) d

/-- `EXT_TAMPER_EDGE`: a phase of `us` µs ends; within 2 to 100 µs it is valid (R350). -/
def execExtTamperEdge (lineB : Bool) (phaseUs : Nat) (s : State) : Ans :=
  withCx s (
    if !alive s.dev then s.cx else
    let ok := decide (2 ≤ phaseUs) && decide (phaseUs ≤ 100)
    let c := s.cx.mod (notePhase lineB (some phaseUs) ok)
    if ok || !sensing c.d then c else alarms [lineSource lineB] false c)

/-- `EXT_TAMPER_PHASE_TIMEOUT`: a phase reaches 100 µs (R350). -/
def execExtTamperPhaseTimeout (lineB : Bool) (s : State) : Ans :=
  withCx s (
    if !alive s.dev then s.cx else
    let c := s.cx.mod (notePhase lineB none false)
    if sensing c.d then alarms [lineSource lineB] false c else c)

/-- `FUSE_RESENSE` (R348, T8). -/
def execFuseResense (ok : Bool) (s : State) : Ans :=
  withCx s (if ok || !sensing s.dev then s.cx else alarms [8] false s.cx)

/-- `SHIELD_PATTERN_RENEW` (R348, T0). -/
def execShieldPatternRenew (ok : Bool) (s : State) : Ans :=
  withCx s (
    if !sensing s.dev then s.cx else
    let c := s.cx.mod (modGoose (fun g => { g with pattern := g.pattern + 1 }))
    if ok then c else alarms [0] false c)

/-- `JTAG_INSTRUCTION_LOAD`: in CLOSED, with debug not reopened, anything but IDCODE or BYPASS raises T10 (R348, R464). -/
def execJtagInstructionLoad (ir : Nat) (s : State) : Ans :=
  withCx s (
    if !alive s.dev then s.cx else
    let c := s.cx.mod (fun d => { d with dbg := { d.dbg with ir } })
    if ir = 1 ∨ ir = 2 ∨ !sensing c.d then c else alarms [10] false c)

/-! ## Scrap and debug (R368, R369) -/

/-- `LC_SCRAP_START` (R368): the Erase, every life-cycle fuse, and the secret fuses. -/
def execLcScrapStart (s : State) : Ans :=
  withCx s (
    if s.dev.sys.scheduled ≠ some .lcScrap then s.cx else
    let c := fullErase s.cx
    { d := { c.d with sys := { c.d.sys with scheduled := none, lc := 2 } }
      f := { c.f with lc0 := BitVec.allOnes 64, lc1 := BitVec.allOnes 64, lc2 := BitVec.allOnes 64, secretsBlown := true } })

/-- `DEBUG_REOPEN_START` (R369): the Erase, the next `DEBUG_REOPEN` bit, and only then JTAG. -/
def execDebugReopenStart (s : State) : Ans :=
  withCx s (
    if s.dev.sys.scheduled ≠ some .debugReopen then s.cx else
    let c := fullErase s.cx
    { d := { c.d with sys := { c.d.sys with scheduled := none }, dbg := { c.d.dbg with reopened := true } }
      f := { c.f with debugReopen := blowNext c.f.debugReopen } })

/-- `DEBUG_CHALLENGE_EXPIRY` (R369). -/
def execDebugChallengeExpiry (s : State) : Ans := onDev (fun d => { d with dbg := { d.dbg with challenge := none } }) s

/-! ## Mule (R331) -/

/-- A checker's identifier, its place in the table of R331, and its unit. -/
def checkerId : Checker → Nat × Nat
  | .core n => (1, n)
  | .secdedCore n | .secdedBank n => (2, n)
  | .secdedUnspared => (2, 0)
  | .cipher n | .digest n => (3, n)
  | .pk n => (4, n)
  | .conditioner => (5, 0)
  | .drbg n => (5, n)
  | .health n => (6, n)
  | .gates => (7, 0)
  | .lockstep => (8, 0)
  | .goose => (9, 0)
  | .unspared => (10, 0)

def checkerExists (d : Dev) : Checker → Bool
  | .core n | .secdedCore n => decide (n < coreCount d)
  | .secdedBank n | .drbg n => decide (n < 16)
  | .cipher n => decide (n < ceCount d)
  | .digest n => decide (n < deCount d)
  | .pk n => decide (n < pkCount d)
  | .health n => decide (n < 6)
  | _ => true

/-- What follows a checker that fails its test (R331). -/
def checkerFails (k : Checker) (c : Cx) : Cx :=
  match k with
  | .core n | .secdedCore n => c.mod (fenceCore n 7)
  | .secdedBank n => c.mod (fenceBank n 7)
  | .cipher n => c.mod (fencePool .cipher n 7)
  | .digest n => c.mod (fencePool .digest n 7)
  | .pk n => c.mod (fencePool .pk n 7)
  | .conditioner => c.mod failRng
  | .drbg n => c.mod (fenceInst n 7)
  | .health n => c.mod (fun d => if srcState d n = .retired then d else retireSrc n d)
  | .gates | .secdedUnspared | .unspared => c.mod (faultStop 0x302)
  | .lockstep => c.mod (cpReset (some 0x5007))
  | .goose => if sensing c.d then alarms [11] false c else c

/-- `MULE_CHECKER_TEST` (R331): the test's time is noted; a pass steps a counter event and clears T11 where Goose passed; a failure
writes record `0x5030`, sets `LATENT` and has its consequence. -/
def execMuleCheckerTest (k : Checker) (pass : Bool) (s : State) : Ans :=
  if !checkerExists s.dev k then .fault .noSuchUnit else
  withCx s (
    if !alive s.dev then s.cx else
    let c := s.cx.mod (fun d => { d with fen := { d.fen with
      tested := (k, d.sys.uptime) :: d.fen.tested.filter (fun e => e.1 != k) } })
    let (id, unit) := checkerId k
    if pass then c.mod (fun d =>
      let d1 := count 0x5002 1 none none false none d
      if k = .goose then modGoose (fun g => { g with
        asserted := g.asserted &&& ~~~(0x800#12), uncleared := g.uncleared &&& ~~~(0x800#12) }) d1 else d1)
    else checkerFails k (c.mod (fun d => setFault 4 (raise 0x5030 unit id unit d))))

end Sys2Proof.Machine
end

