-- ==== Sys2Proof/Machine/Registers.lean ====
section
/-! DEFINITION. What a read of the BARs returns (R35 to R45, R61, R259, R260, R345, R346, R360, R361, R416, R426): the registers as
views of the state.
Marks: assumptions 28, 107. -/

namespace Sys2Proof.Machine

/-! ## Identity and firmware -/

/-- The running image, once a CP has started from it. -/
def runningBank (d : Dev) : Option Bank :=
  if d.sys.stage = 3 ∨ d.sys.stage = 4 ∨ (d.sys.stage = 6 ∧ d.sys.haltCause = 4) then
    (match d.fw.active with
      | some 0 => d.fw.bank0
      | some 1 => d.fw.bank1
      | _ => none)
  else none

/-- `FW_VERSIONS`[31:0] of the running image (R39). -/
def fwVersions (d : Dev) : Nat := ((runningBank d).map (·.fw)).getD 0

/-- `DEV_IDENT` (R38). -/
def devIdent (d : Dev) : Nat := (if d.sys.pg40 then 0x40 else 0x64) + 0xB0 * 2 ^ 16

/-- `BOOT_STATUS` (R426). -/
def bootStatus (d : Dev) : Nat :=
  d.sys.stage + d.sys.haltCause * 16 + d.fw.active.getD 0 * 256 + sat 0xFFFF d.sys.bootMs * 65536

/-- JTAG is open: always in OPEN, in CLOSED by a reopening (R364, R369). -/
def debugOpen (d : Dev) : Bool := d.sys.lc == 0 || (d.sys.lc == 1 && d.dbg.reopened)

/-- The CP serves the mailboxes: they read UNAVAIL while it restarts and before any image runs (R264, R365, R429). -/
def boxesServe (d : Dev) : Bool :=
  alive d && !d.sys.cpRestart && (d.sys.cpUp || (d.sys.lc == 2 && d.sys.stage == 6))

/-- `MB_STATUS` (R260). -/
def mbStatus (d : Dev) (m : Nat) : Nat :=
  let b := mailboxOf d m
  let st := if !boxesServe d then 3 else match b.state with
    | .idle => 0
    | .busy => 1
    | .done => 2
  st + bitOf b.abandoned 2 + bitOf b.rejected 3 + b.reqId * 2 ^ 32

/-! ## Slices -/

/-- `SLICE_STATUS` (R44). -/
def sliceStatusReg (s : Slice) : Nat :=
  let rings := fun (p : RingDyn → Bool) (lo : Nat) => (List.range 8).foldl (fun n i => n + bitOf (p (ringOf s i)) (lo + i)) 0
  s.state.code + bitOf s.spoof 4 + bitOf s.dbErr 5 + bitOf s.dmaErr 6 + bitOf s.per.urgentOk 7 + rings (·.halted) 8
    + rings (·.enabled) 16 + s.spoofCount * 2 ^ 32 + s.dbErrCount * 2 ^ 48

/-- `GRANTED_CTR`m (R45). -/
def grantedCtr (d : Dev) (n m : Nat) : Nat :=
  match d.ctr.ctr.find? (fun e => e.2.grant == some (n, m)) with
  | some (_, c) => c.value + bitOf c.ovf 48 + bitOf true 63
  | none => 0

/-- `MSG_CTRL` (R62). -/
def msgCtrl (e : IrqEntry) : Nat :=
  bitOf e.masked 0 + bitOf e.pending 1 + bitOf e.msixMode 2 + e.vector * 2 ^ 16

/-! ## Counters (R416) -/

/-- `CTR_VALUE`n (R416). -/
def ctrValue (c : Ctr) : Nat := c.value + bitOf c.ovf 48 + bitOf c.grant.isSome 56 + bitOf c.enabled 57

def ctrOf (d : Dev) (n : Nat) : Ctr := Tab.getD d.ctr.ctr n {}
def monOf (d : Dev) (m : Nat) : Bwmon := Tab.getD d.ctr.mon m {}

/-! ## Tamper and life cycle (R360, R361) -/

/-- `ALARM_OUT_n` is asserted (R359). -/
def alarmOut (d : Dev) : Bool := (d.goose.alarmOut || d.sys.lc == 2) && alive d

def tamperStatusReg (d : Dev) : Nat :=
  let g := d.goose
  g.asserted.toNat + g.latched.toNat * 2 ^ 16 + bitOf g.lock 32 + bitOf g.eraseRunning 33 + bitOf g.erased 34
    + bitOf (alarmOut d) 35 + bitOf g.logFull 36

def tamperEffective (c : Cx) : Nat := (List.range 12).foldl (fun n i => n + effective c i * 2 ^ (2 * i)) 0

def tamperCfg (c : Cx) : Nat :=
  (c.f.disable0 &&& c.f.disable1).toNat + (c.f.raise0 ||| c.f.raise1).toNat * 2 ^ 16 + c.d.goose.lowered.toNat * 2 ^ 32

def lcStatus (c : Cx) : Nat :=
  c.d.sys.lc + lcDecode c.f.lc0 * 4 + lcDecode c.f.lc1 * 16 + lcDecode c.f.lc2 * 64 + bitOf (debugOpen c.d) 8
    + bitOf (c.f.ownerRoot ≠ 0) 9 + fuseCount c.f.debugReopen * 2 ^ 16 + fuseCount c.f.reopenLogged * 2 ^ 20
    + fuseCount c.f.eraseCount * 2 ^ 32

def extTamperMon (g : Goose) : Nat :=
  bitOf g.aValid 0 + bitOf g.bValid 1 + g.aPhase * 2 ^ 16 + g.bPhase * 2 ^ 24

/-- Registers `0x3_0000` to `0x3_0047`. -/
def tamperRegs (c : Cx) : List Nat :=
  [tamperStatusReg c.d, tamperEffective c, tamperCfg c, lcStatus c, c.f.lc0.toNat, c.f.lc1.toNat, c.f.lc2.toNat,
    extTamperMon c.d.goose, c.d.goose.tjMax.toNat + c.d.goose.tjMin.toNat * 2 ^ 16]

/-- The 16 bytes of an alarm-log entry (R361). -/
def alarmBytes (g : Goose) (i : Nat) : List Byte :=
  match g.log[i]? with
  | some a => leBytes 8 (stampTime a.time a.epoch) ++ [byteOf a.source, byteOf a.response,
      byteOf (bitOf a.powerUp 0 + bitOf a.erasing 1), 0x5A, 0, 0, 0, 0]
  | none => List.replicate 16 0

/-! ## Fault registers (R345) -/

def faultRegs (d : Dev) : List Nat :=
  [d.sys.faultStatus.toNat, d.fen.tc.toNat, d.fen.pk.toNat + d.fen.ce.toNat * 2 ^ 24 + d.fen.de.toNat * 2 ^ 40,
    d.fen.bank.toNat + d.fen.drbg.toNat * 2 ^ 16, d.sys.corrCount, d.sys.gateViolCount, d.sys.gateViolInfo.toNat,
    d.sys.gateViolAddr.toNat, d.sys.lastFence.toNat]

/-! ## The BARs -/

/-- The 64-bit word of BAR0 at an aligned offset. -/
def bar0Word (c : Cx) (o : Nat) : Nat :=
  let d := c.d
  if o < 0x40 then
    [devIdent d, d.sys.serial, fwVersions d, (devStatus d).toNat, d.hif.err.toNat, d.hif.errLog.toNat, d.hif.spoofTotal,
      bitOf d.hif.ideRequired 0].getD (o / 8) 0
  else if o = 0x40 then d.sys.cause.toNat
  else if o = 0x48 then bootStatus d
  else if 0x100 ≤ o ∧ o < 0x200 then
    let m := (o - 0x100) / 0x20
    [0, mbStatus d m, bitOf (mailboxOf d m).irqEn 0, (mailboxOf d m).qseq % 2 ^ 32].getD (o % 0x20 / 8) 0
  else if 0x400 ≤ o ∧ o < 0x448 then (faultRegs d).getD ((o - 0x400) / 8) 0
  else if 0x1000 ≤ o ∧ o < 0x9000 then
    let b := mailboxOf d ((o - 0x1000) / 0x1000)
    let x := o % 0x1000
    if x < 0x800 then leAt (Mem.readAll b.window x 8) 0 8 else leAt (Mem.readAll b.response (x - 0x800) 8) 0 8
  else if 0x20000 ≤ o ∧ o < 0x20800 then ctrValue (ctrOf d ((o - 0x20000) / 8))
  else if 0x20800 ≤ o ∧ o < 0x20900 then
    let b := monOf d ((o - 0x20800) / 32)
    [b.last, b.peak, b.peakTime, b.window].getD (o % 32 / 8) 0
  else if o = 0x20900 then d.ctr.dumpSeq
  else if o = 0x20908 then d.ctr.dumpMissed
  else if 0x30000 ≤ o ∧ o < 0x30048 then (tamperRegs c).getD ((o - 0x30000) / 8) 0
  else if 0x30100 ≤ o ∧ o < 0x30200 then leAt (alarmBytes d.goose ((o - 0x30100) / 16)) (o % 16) 8
  else if 0x80000 ≤ o ∧ o < 0x90000 then
    let e := (sliceOf d ((o - 0x80000) / 16)).irq
    if o % 16 = 0 then e.addr else e.data + msgCtrl e * 2 ^ 32
  else 0

/-- The 64-bit word of a slice's doorbell page (R43). -/
def bar2Word (d : Dev) (o : Nat) : Nat :=
  let n := o / 0x1000
  let x := o % 0x1000
  let s := sliceOf d n
  if x < 0x20 then (ringOf s (x / 4)).tail + (ringOf s (x / 4 + 1)).tail * 2 ^ 32
  else if x < 0x40 then (ringOf s ((x - 0x20) / 4)).cHead + (ringOf s ((x - 0x20) / 4 + 1)).cHead * 2 ^ 32
  else if x = 0x40 then sliceStatusReg s
  else if 0x100 ≤ x ∧ x < 0x140 then grantedCtr d n ((x - 0x100) / 8)
  else 0

/-- The 64-bit word of BAR4: MSI-X table and pending bits (R35). -/
def bar4Word (d : Dev) (o : Nat) : Nat :=
  if o < 0x8000 then
    let e := Tab.getD d.hif.msix (o / 16) {}
    if o % 16 = 0 then e.addr else e.data + bitOf e.masked 32
  else if o < 0x8100 then (List.range 64).foldl (fun n i => n + bitOf (d.hif.pba.contains ((o - 0x8000) * 8 + i)) i) 0
  else 0

def barWord (c : Cx) (bar o : Nat) : Nat :=
  match bar with
  | 0 => bar0Word c o
  | 2 => bar2Word c.d o
  | _ => bar4Word c.d o

/-- An offset of the mailbox windows, which take accesses of up to 64 bytes (R36, R259). -/
def inWindow (a : BarAccess) : Bool := a.bar == 0 && decide (0x1000 ≤ a.off) && decide (a.off < 0x9000)

/-- What an accepted read returns, least significant byte first. -/
def barRead (c : Cx) (a : BarAccess) : Nat :=
  if a.size < 8 then barWord c a.bar (a.off / 8 * 8) / 2 ^ (8 * (a.off % 8)) % 2 ^ (8 * a.size)
  else (List.range (a.size / 8)).foldl (fun n i => n + barWord c a.bar (a.off + 8 * i) * 2 ^ (64 * i)) 0

/-- Size and alignment of R36. -/
def accessSizeOk (a : BarAccess) : Bool := sizeOk a || (inWindow a && [16, 32, 64].contains a.size && a.off % a.size == 0)

/-- Why R36 and R67 turn an access away; a BAR2 write is left to R46. -/
def rejection (d : Dev) (a : BarAccess) : Option BarAnswer :=
  if d.hif.ideRequired && !a.ide && (a.bar == 0 || (a.bar == 2 && a.write)) then some .discarded
  else if a.bar = 2 then
    if a.write then none
    else
      let s := sliceOf d (a.off / 0x1000)
      if s.state = .free ∨ a.pasid ≠ some s.per.pasid then some .unsupportedRequest
      else if sizeOk a then none else some .completerAbort
  else if a.pasid.isSome then some (if a.write then .discarded else .unsupportedRequest)
  else if accessSizeOk a then none
  else some (if a.write then .discarded else .completerAbort)

/-- The host can reach the BARs: the link is out of reset and configuration is no longer retried (R33, R425). -/
def barsOpen (d : Dev) : Bool := alive d && d.sys.perstHigh && decide (4 ≤ d.sys.stage)

/-- The slice of a BAR2 access, for `HIF_ERR_LOG`; else 0 (R41). -/
def accessSlice (a : BarAccess) : Nat := if a.bar = 2 then a.off / 0x1000 else 0

/-- A rejected access: its answer, `BAD_ACCESS`, and AER for an answer that reports (R36, R41, R66). -/
def reject (a : BarAccess) (r : BarAnswer) (d : Dev) : Dev :=
  let d1 := hifError 0 (accessSlice a) a.off d
  emit (.barAnswer r 0) { d1 with hif := { d1.hif with
    aerUnsupported := d1.hif.aerUnsupported || r == .unsupportedRequest
    aerCompleterAbort := d1.hif.aerCompleterAbort || r == .completerAbort } }

end Sys2Proof.Machine
end

