-- ==== Sys2Proof/Machine/Hif.lean ====
section
/-! DEFINITION. The host interface's commands (02): configuration, BAR accesses, failed reads, IDE and SPDM.
Marks: assumptions 28 to 32, 36, 37, 106. -/

namespace Sys2Proof.Machine

def modHif (f : Hif → Hif) (d : Dev) : Dev := { d with hif := f d.hif }

/-! ## Configuration -/

/-- Sends a pending MSI-X message that is no longer held back (R35). -/
def releaseMsix (d : Dev) : Dev :=
  d.hif.pba.foldl (fun d v =>
    let e := Tab.getD d.hif.msix v {}
    if d.hif.msixEnable && !e.masked then emit (.msix v) (modHif (fun h => { h with pba := h.pba.filter (· != v) }) d) else d) d

/-- `CONFIGURATION_REQUEST`: retried until READY, halt or recovery (R33, R425); then the capability registers of R31, R64 and R65. -/
def execConfigurationRequest (op : ConfigOp) (s : State) : Ans := onDev (fun d =>
  if !alive d || !d.sys.perstHigh then d
  else if d.sys.stage < 4 then emit (.configAnswer true) d
  else
    let d1 := match op with
      | .read | .otherWrite => d
      | .relaxedOrdering on => modHif (fun h => { h with relaxedOrdering := on }) d
      | .virtualChannel en tc => modHif (fun h => { h with vc1Enable := en, tc7Alone := tc }) d
      | .completionTimeout v => modHif (fun h => { h with cplTimeout := v }) d
      | .msixEnable on => releaseMsix (modHif (fun h => { h with msixEnable := on }) d)
    emit (.configAnswer false) d1) s

/-- `UNSUPPORTED_REQUEST` (R32): no capability of R32 is there, whichever the request needs. -/
def execUnsupportedRequest (_k : UrKind) (s : State) : Ans := onDev (fun d =>
  if !alive d || !d.sys.perstHigh then d
  else emit (.barAnswer .unsupportedRequest 0) (modHif (fun h => { h with aerUnsupported := true }) d)) s

/-- `LINK_RETRAIN` (R31, R34): nothing is reset. -/
def execLinkRetrain (speed width : Nat) (s : State) : Ans :=
  onUnit ([64, 32, 16, 8, 5, 2].contains speed && [16, 8, 4, 2, 1].contains width) (fun d =>
    if alive d && d.sys.perstHigh then { d with sys := { d.sys with linkSpeed := speed, linkWidth := width } } else d) s

/-! ## BAR accesses -/

/-- An access within its BAR (R35). -/
def barExists (a : BarAccess) : Bool :=
  (a.bar == 0 && decide (a.off + a.size ≤ 2 ^ 20)) || (a.bar == 2 && decide (a.off + a.size ≤ 2 ^ 24))
    || (a.bar == 4 && decide (a.off + a.size ≤ 2 ^ 16))

/-- `BAR_ACCESS_REJECTED` (R36, R67). A read that breaks no rule is answered with the register's value; a write that breaks none
belongs to its own command. -/
def execBarAccessRejected (a : BarAccess) (s : State) : Ans :=
  onUnit (barExists a) (fun d =>
    if !barsOpen d then d else
    match rejection d a with
    | some r => reject a r d
    | none => if a.write then d else emit (.barAnswer .accepted (barRead { d, f := s.fuse } a)) d) s

/-- A field of `n` bytes of a register at `reg`, as a write changes it: bytes the access covers take the written ones. -/
def merge (a : BarAccess) (reg n old : Nat) : Nat :=
  leAt ((List.range n).map (fun i =>
    if a.off ≤ reg + i ∧ reg + i < a.off + a.size then byteOf (a.value / 2 ^ (8 * (reg + i - a.off)))
    else byteOf (old / 2 ^ (8 * i)))) 0 n

/-- The ones an access writes into `n` bytes at `reg`. -/
def written (a : BarAccess) (reg n : Nat) : Nat := merge a reg n 0

/-- An access touches a byte range. -/
def touches (a : BarAccess) (reg n : Nat) : Bool := decide (a.off < reg + n) && decide (reg < a.off + a.size)

/-- The opcode a window holds. -/
def windowOpcode (b : Mailbox) : Nat := leAt (Mem.readAll b.window 0 2) 0 2

/-- Answers a request whose operation is not known, or not yet taken up, from its window (R266, R268). -/
def answerRaw (m : Nat) (st : Status) (d : Dev) : Dev :=
  let b := mailboxOf d m
  respond m { status := st, opcode := windowOpcode b, reqId := b.reqId } [] 0 0 d

/-- An accepted `GO` (R261, R268 steps 1 and 2): a bad header or an unknown opcode is answered at once; any other request waits for the
CP to take it up. -/
def takeGo (m : Nat) (ide : Bool) (d : Dev) : Dev :=
  let h := headerOf (mailboxOf d m).window m
  let d1 := modBox m (fun b => { b with wait := .submitted, ide := b.ide && ide }) (goBox m h.reqId d)
  match headerCheck h with
  | some st => answerRaw m st d1
  | none => if mgmtOpcodes.contains (windowOpcode (mailboxOf d m)) then d1 else answerRaw m .opcode d1

/-- A write to `MB_DOORBELL` (R259, R261): an `ACK` of the same write is taken before its `GO`. -/
def doorbellWrite (m v : Nat) (ide : Bool) (d : Dev) : Dev :=
  let up := boxesServe d
  let d1 := if bitAt v 1 then
      (if up then modBox m (fun b => if b.state = .idle then { b with ide := true } else b) (ackBox m d) else rejectBox m d)
    else d
  if !bitAt v 0 then d1
  else if up && (mailboxOf d1 m).state == .idle then takeGo m ide d1 else rejectBox m d1

/-- A write to a mailbox's registers or windows (R259, R261). -/
def mailboxWrite (a : BarAccess) (d : Dev) : Dev :=
  if a.off < 0x200 then
    let m := (a.off - 0x100) / 0x20
    let base := 0x100 + 0x20 * m
    if touches a base 8 then doorbellWrite m (written a base 8) a.ide d
    else if touches a (base + 0x10) 1 then modBox m (fun b => { b with irqEn := bitAt (written a (base + 0x10) 1) 0 }) d
    else d
  else
    let m := (a.off - 0x1000) / 0x1000
    let x := a.off % 0x1000
    if 0x800 ≤ x then d
    else modBox m (fun b =>
      if b.state = .busy then b
      else { b with window := Mem.writeAll b.window x (leBytes a.size a.value), ide := b.ide && a.ide }) d

/-- A write to an interrupt message store entry (R61 to R63): a reserved vector sets `BAD_VECTOR`; an entry left unmasked sends what it
owes. -/
def irqWrite (a : BarAccess) (d : Dev) : Dev :=
  let n := (a.off - 0x80000) / 16
  let base := 0x80000 + 16 * n
  let e := (sliceOf d n).irq
  let ctrl := merge a (base + 12) 4 (msgCtrl e)
  let e1 : IrqEntry := { e with
    addr := merge a base 8 e.addr
    data := merge a (base + 8) 4 e.data
    masked := bitAt ctrl 0
    msixMode := bitAt ctrl 2
    vector := bits ctrl 26 16 }
  let d1 := modSlice n (fun s => { s with irq := e1 }) d
  let d2 := if e1.msixMode && decide (e1.vector < 16) then hifError 4 n a.off d1 else d1
  if e1.pending && !e1.masked then sendMessage n d2 else d2

/-- A write to the MSI-X table (R35). -/
def msixWrite (a : BarAccess) (d : Dev) : Dev :=
  let v := a.off / 16
  let base := 16 * v
  let e := Tab.getD d.hif.msix v {}
  let e1 : MsixEntry := {
    addr := merge a base 8 e.addr
    data := merge a (base + 8) 4 e.data
    masked := bitAt (merge a (base + 12) 4 (bitOf e.masked 0)) 0 }
  releaseMsix (modHif (fun h => { h with msix := Tab.put h.msix v e1 }) d)

/-- A write that R36 accepts, to a register of BAR0 or BAR4: ones clear the W1C bits; read-only and reserved offsets do not change
(R10). -/
def plainWrite (a : BarAccess) (d : Dev) : Dev :=
  if a.bar = 4 then (if a.off < 0x8000 then msixWrite a d else d)
  else if touches a 0x20 4 then
    modHif (fun h => { h with err := h.err &&& ~~~(BitVec.ofNat 32 (written a 0x20 4 % 32)) }) d
  else if touches a 0x400 4 then
    { d with sys := { d.sys with faultStatus := d.sys.faultStatus &&& ~~~(BitVec.ofNat 32 (written a 0x400 4 % 32)) } }
  else if (0x100 ≤ a.off ∧ a.off < 0x200) ∨ (0x1000 ≤ a.off ∧ a.off < 0x9000) then mailboxWrite a d
  else if 0x80000 ≤ a.off ∧ a.off < 0x90000 then irqWrite a d
  else d

/-- A write as the host interface takes it: rejected under R36 and R67, a BAR2 write under R46, any other to its register. -/
def hostWrite (a : BarAccess) (d : Dev) : Dev :=
  if !barsOpen d || !a.write then d
  else match rejection d a with
  | some r => reject a r d
  | none => if a.bar = 2 then pageWrite a d else plainWrite a d

/-- `REGISTER_WRITE`: any write that has no command of its own (R10, R36, R46, R259). -/
def execRegisterWrite (a : BarAccess) (s : State) : Ans := onUnit (barExists a && a.write) (hostWrite a) s

/-- `SQ_TAIL_WRITE` (R46, R47): a write to a submission-tail doorbell. -/
def execSqTailWrite (a : BarAccess) (s : State) : Ans :=
  onUnit (barExists a && a.write && a.bar == 2 && decide (a.off % 0x1000 < 0x20)) (hostWrite a) s

/-- `CQ_HEAD_WRITE` (R46, R47): a write to a completion-head doorbell. -/
def execCqHeadWrite (a : BarAccess) (s : State) : Ans :=
  onUnit (barExists a && a.write && a.bar == 2 && decide (0x20 ≤ a.off % 0x1000) && decide (a.off % 0x1000 < 0x40)) (hostWrite a) s

/-- `INTERRUPT_MESSAGE_STORE_WRITE` (R61 to R63). -/
def execInterruptMessageStoreWrite (a : BarAccess) (s : State) : Ans :=
  onUnit (barExists a && a.write && a.bar == 0 && decide (0x80000 ≤ a.off) && decide (a.off < 0x90000)) (hostWrite a) s

/-! ## Failed reads (R65 to R67) -/

/-- The AER error a failure reports (R66). -/
def aerRead (f : ReadFail) (d : Dev) : Dev :=
  modHif (fun h => match f with
    | .timeout => { h with aerTimeout := true }
    | .poisoned => { h with aerAdvisory := true }
    | .ide => { h with aerIde := true }
    | _ => h) d

/-- What every failed read of a slice leaves: `DMA_ERR`, `DMA_FAULT` and record `0x9010` (R65). -/
def dmaFailed (n ring what : Nat) (f : ReadFail) (addr : Nat) (d : Dev) : Dev :=
  raise 0x9010 n addr (ring + what * 256 + f.code * 65536)
    (hifError 1 n addr (modSlice n (fun s => { s with dmaErr := true }) d))

/-- The read of an item on a thread failed: it completes with `ST_DMA_FAULT` (R65). -/
def itemReadFailed (c t what : Nat) (f : ReadFail) (addr : Nat) (d : Dev) : Dev :=
  match runningOn d c t with
  | none => d
  | some (id, i) =>
    if i.res.isSome ∨ i.wait ≠ .none ∨ i.abort then d
    else setRes id { status := .dmaFault } (dmaFailed i.slice i.ring what f addr d)

/-- The oldest outstanding descriptor fetch of a ring pair failed: the ring halts and fetches no more, and one ring-halt record follows
every descriptor whose fetch was issued before (R65). -/
def fetchFailed (n ring : Nat) (f : ReadFail) (addr : Nat) (d : Dev) : Dev :=
  let r := ringOf (sliceOf d n) ring
  if r.fetches.isEmpty then d
  else
    let d1 := modRing n ring (fun r => { r with
      halted := true, haltOwed := true, fetches := r.fetches.tail, inflight := r.inflight - 1 }) d
    checkDrained n (haltRecord n ring (dmaFailed n ring 3 f addr d1))

/-- A device-issued read fails (R65). -/
def readFailed (r : ReadFor) (f : ReadFail) (addr : Nat) (d : Dev) : Dev :=
  if !serving d then d else
  match r with
  | .input c t => itemReadFailed c t 1 f addr d
  | .keyBlock c t => itemReadFailed c t 2 f addr d
  | .descriptor n ring => fetchFailed n ring f addr d

/-- The unit a read was for exists. -/
def readUnit (d : Dev) : ReadFor → Bool
  | .input c t | .keyBlock c t => threadExists d c t
  | .descriptor n ring => decide (n < 4096) && decide (ring < 8)

/-- `DMA_READ_FAULT` (R65, R66). -/
def execDmaReadFault (r : ReadFor) (f : ReadFail) (addr : Nat) (s : State) : Ans :=
  onUnit (readUnit s.dev r) (fun d => if serving d then readFailed r f addr (aerRead f d) else d) s

/-- `PCIE_COMPLETION_TIMEOUT` (R65, R66). -/
def execPcieCompletionTimeout (r : ReadFor) (addr : Nat) (s : State) : Ans :=
  onUnit (readUnit s.dev r) (fun d => if serving d then readFailed r .timeout addr (aerRead .timeout d) else d) s

/-- `IDE_CHECK_FAIL` (R67): the stream, 0 to 7 selective and 8 link IDE, goes Insecure and its outstanding reads fail. -/
def execIdeCheckFail (stream : Nat) (reads : List ReadFor) (s : State) : Ans :=
  onUnit (decide (stream < 9) && reads.all (readUnit s.dev)) (fun d =>
    let e := Tab.getD d.hif.ide stream {}
    if !barsOpen d || !e.keyed || e.insecure then d
    else
      let d1 := modHif (fun h => { h with ide := Tab.put h.ide stream { e with insecure := true } }) d
      let d2 := raise 0x9011 0xFFFF stream 0 (hifError 2 0 0 (aerRead .ide d1))
      reads.foldl (fun d r => readFailed r .ide 0 d) d2) s

/-! ## SPDM over DOE (R68, R69) -/

/-- SPDM request codes. -/
def doeAnswer (code err : Nat) (data : List Byte) (d : Dev) : Dev := emit (.doe code err data) d

/-- The frame of every DOE object: DOE answers once configuration is no longer retried; an object over 4,096 bytes is discarded with an
error in the DOE status (`error` 2). A request that fails is answered with `ERROR` (`error` 1). -/
def onDoe (code : Nat) (r : DoeReq) (f : Dev → Option (Dev × List Byte)) (s : State) : Ans := onDev (fun d =>
  if !barsOpen d then d
  else if 4096 < r.len then doeAnswer code 2 [] d
  else match f d with
  | some (d1, data) => doeAnswer code 0 data d1
  | none => doeAnswer code 1 [] d) s

/-- Negotiation has come to a phase: 1 version, 2 capabilities, 3 algorithms. -/
def atPhase (n : Nat) (d : Dev) : Bool := decide (n ≤ d.hif.spdmPhase)

/-- Certificate slot present: 0 unless the life cycle is invalid, 1 in CLOSED alone (R68, R364, R365). -/
def certSlot (d : Dev) (k : Nat) : Bool := (k == 0 && d.sys.lc != 2) || (k == 1 && d.sys.lc == 1)

/-- The certificate chain of a slot: at most 4,096 bytes (R315). -/
def slotChain (slot : Nat) : List Byte := (Config.certChain slot).take 4096

/-- A finished secured session. -/
def secured (d : Dev) (r : DoeReq) : Option (Nat × SpdmSession) :=
  match r.session with
  | none => none
  | some k => match Tab.find d.hif.spdm k with
    | some x => if x.finished && r.ok then some (k, x) else none
    | none => none

def execDoeDiscovery (r : DoeReq) (s : State) : Ans := onDoe 0 r (fun d => some (d, [0, 1, 2])) s

def execGetVersion (r : DoeReq) (s : State) : Ans :=
  onDoe 0x84 r (fun d => some (modHif (fun h => { h with spdmPhase := 1 }) d, [0x00, 0x13])) s

def execGetCapabilities (r : DoeReq) (s : State) : Ans :=
  onDoe 0xE1 r (fun d => if atPhase 1 d then some (modHif (fun h => { h with spdmPhase := 2 }) d, []) else none) s

def execNegotiateAlgorithms (r : DoeReq) (s : State) : Ans :=
  onDoe 0xE3 r (fun d => if atPhase 2 d then some (modHif (fun h => { h with spdmPhase := 3 }) d, []) else none) s

/-- `GET_DIGESTS`: SHA-384 of each chain present. -/
def execGetDigests (r : DoeReq) (s : State) : Ans :=
  onDoe 0x81 r (fun d =>
    if atPhase 3 d && certSlot d 0 then
      some (d, (([0, 1].filter (certSlot d)).map (fun k => sha384 (slotChain k))).flatten)
    else none) s

def execGetCertificate (r : DoeReq) (s : State) : Ans :=
  onDoe 0x82 r (fun d => if atPhase 3 d && certSlot d r.a then some (d, slotChain r.a) else none) s

def execChallenge (r : DoeReq) (s : State) : Ans :=
  onDoe 0x83 r (fun d =>
    if atPhase 3 d && certSlot d r.a then
      some (d, sha384 (slotChain r.a) ++ beBytes 96 (Config.deviceSign r.a (leBytes 8 d.sys.serial)))
    else none) s

/-- The pair-group identity: the highest-numbered slot that is not blank and not revoked (R376). -/
def groupSlot (f : Fuses) : Option Nat :=
  [3, 2, 1, 0].find? (fun k => ([f.pg0, f.pg1, f.pg2, f.pg3].getD k 0) != 0 && !f.pgRevoke.getLsbD k)

def groupId (f : Fuses) : BitVec 128 :=
  match groupSlot f with
  | some k => [f.pg0, f.pg1, f.pg2, f.pg3].getD k 0
  | none => 0

/-- Measurements 1 to 7 (R69, R369). -/
def measurement (c : Cx) (k : Nat) : List Byte :=
  let img := ((runningBank c.d).map (·.digest)).getD []
  match k with
  | 1 => Config.romDigest
  | 2 | 3 | 4 => Config.sectionDigest img (k - 1)
  | 5 => [byteOf c.d.sys.lc, byteOf (debugOpen c.d).toNat, byteOf (fuseCount c.f.debugReopen), byteOf (fuseCount c.f.reopenLogged)]
  | 6 => [byteOf (fuseCount c.f.secVersion)]
  | 7 => beBytes 16 (groupId c.f).toNat
  | _ => []

/-- `GET_MEASUREMENTS`: one measurement, or with index `0xFF` all seven; `b` asks for a signature. -/
def execGetMeasurements (r : DoeReq) (s : State) : Ans :=
  onDoe 0xE0 r (fun d =>
    let ks := if r.a = 0xFF then List.range' 1 7 else [r.a]
    if !atPhase 3 d || !(ks.all (fun k => decide (1 ≤ k) && decide (k ≤ 7))) || (r.b != 0 && !certSlot d 0) then none
    else
      let data := (ks.map (measurement { d, f := s.fuse })).flatten
      some (d, if r.b = 0 then data else data ++ beBytes 96 (Config.deviceSign 0 data))) s

/-- `KEY_EXCHANGE`: at most four sessions; a fifth is answered Busy (R68). -/
def execKeyExchange (r : DoeReq) (s : State) : Ans :=
  onDoe 0xE4 r (fun d =>
    if !atPhase 3 d || !r.ok || !certSlot d r.a || decide (4 ≤ d.hif.spdm.length) then none
    else
      let k := d.hif.spdmNext
      some (modHif (fun h => { h with spdm := Tab.put h.spdm k {}, spdmNext := k + 1 }) d,
        leBytes 4 k ++ beBytes 96 (Config.ephemeral 0 k))) s

/-- `FINISH`: a handshake whose check fails ends its session. -/
def execFinish (r : DoeReq) (s : State) : Ans := onDev (fun d =>
  if !barsOpen d then d
  else if 4096 < r.len then doeAnswer 0xE5 2 [] d
  else match r.session with
  | none => doeAnswer 0xE5 1 [] d
  | some k => match Tab.find d.hif.spdm k with
    | none => doeAnswer 0xE5 1 [] d
    | some x =>
      if x.finished then doeAnswer 0xE5 1 [] d
      else if r.ok then doeAnswer 0xE5 0 [] (modHif (fun h => { h with spdm := Tab.put h.spdm k { x with finished := true } }) d)
      else doeAnswer 0xE5 1 [] (modHif (fun h => { h with spdm := Tab.del h.spdm k }) d)) s

def execHeartbeatSpdm (r : DoeReq) (s : State) : Ans := onDoe 0xE8 r (fun d => (secured d r).map (fun _ => (d, []))) s

def execKeyUpdate (r : DoeReq) (s : State) : Ans :=
  onDoe 0xE9 r (fun d => (secured d r).map (fun (k, x) =>
    (modHif (fun h => { h with spdm := Tab.put h.spdm k { x with updates := x.updates + 1 } }) d, []))) s

def execEndSession (r : DoeReq) (s : State) : Ans :=
  onDoe 0xEC r (fun d => (secured d r).map (fun (k, _) => (modHif (fun h => { h with spdm := Tab.del h.spdm k }) d, []))) s

/-- `IDE_KM` in a secured session (R67): `a` 0 a query, 1 keys programmed, 2 a stream stopped; `b` the stream, 0 to 7 selective, 8
link. -/
def execIdeKm (r : DoeReq) (s : State) : Ans :=
  onDoe 0xFE r (fun d =>
    if r.b < 9 then (secured d r).map (fun _ =>
      (match r.a with
        | 1 => modHif (fun h => { h with ide := Tab.put h.ide r.b { keyed := true } }) d
        | 2 => modHif (fun h => { h with ide := Tab.del h.ide r.b }) d
        | _ => d, []))
    else none) s

end Sys2Proof.Machine
end

