-- ==== Sys2Proof/Machine/MgmtBase.lean ====
section
/-! DEFINITION. What every management command shares (09): its input, its authority and class, and the checks of R268.
Marks: assumptions 70 to 74. -/

namespace Sys2Proof.Machine

/-- A request as its body meets it: the mailbox, the header, the plaintext input, and the Officer of its session. -/
structure Req where
  m : Nat
  q : MbReq
  inp : List Byte := []
  officer : Nat := 0
deriving DecidableEq, Repr

/-- A field of the input. -/
def Req.f (r : Req) (o n : Nat) : Nat := leAt r.inp o n

/-- The status of the first check that fails. -/
def firstFail (checks : List (Bool × Status)) : Option Status := (checks.find? (fun e => !e.1)).map (·.2)

/-- A body behind its checks, which change nothing. -/
def behind (checks : List (Bool × Status)) (c : Cx) (k : BRes) : BRes :=
  match firstFail checks with
  | some st => .fail st c []
  | none => k

/-- The input has exactly the length its command defines (R470). -/
def len (r : Req) (n : Nat) : Bool × Status := (r.inp.length == n, .format)

/-- Bytes of the input that are reserved. -/
def rsv (r : Req) (lo hi : Nat) : Bool × Status := (zeroFrom r.inp lo hi, .format)

/-- The output fits `OUT_CAP` (R267). -/
def outCap (r : Req) (n : Nat) : Bool × Status := (decide (n ≤ r.q.outCap), .length)

/-- `SCOPE` names a slice. -/
def aSlice (r : Req) : Bool × Status := (decide (r.q.scope < 4096), .format)

/-- The slice of `SCOPE` is in one of the states (R298). -/
def inState (c : Cx) (n : Nat) (l : List SliceState) : Bool × Status := (l.contains (sliceOf c.d n).state, .sliceState)

/-- A body that needs the CP's random supply: it waits for an instance that serves, and fails once the RNG is FAILED (R250, R252). -/
def withRandom (c : Cx) (k : BRes) : BRes :=
  if c.d.rng.failed then .fail .rngFail c [] else if !rngServing c.d then .wait .rng c else k

/-- The mode byte of a command that the table splits by mode: another row's mode gives way to this row's own. -/
def ownMode (r : Req) (off mode : Nat) (valid : List Nat) : Req :=
  if valid.contains (r.f off 1) ∧ off < r.inp.length then { r with inp := r.inp.set off (byteOf mode) } else r

/-! ## Officer sets -/

/-- The Officer set of an authority (R273): `0xFFFF` the device. -/
def officersOf (d : Dev) (scope : Nat) : OfficerSet := if scope = 0xFFFF then d.mg.officers else (sliceOf d scope).per.officers

def setOfficers (scope : Nat) (o : OfficerSet) (d : Dev) : Dev :=
  if scope = 0xFFFF then { d with mg := { d.mg with officers := o } }
  else modSlice scope (fun s => { s with per := { s.per with officers := o } }) d

/-- Changes the persistent part of a slice. -/
def modPer (n : Nat) (f : SliceRec → SliceRec) (d : Dev) : Dev := modSlice n (fun s => { s with per := f s.per }) d

/-- Ends the sessions and SPDM bindings of an authority whose Officer meets a test (R270, R272). -/
def endSessionsOf (scope : Nat) (p : Nat → Bool) (d : Dev) : Dev :=
  let d1 := ((d.mg.sessions.filter (fun e => e.2.scope == scope && p e.2.officer)).map (·.1)).foldl (fun d k => endSession k d) d
  { d1 with hif := { d1.hif with spdm := d1.hif.spdm.map (fun (k, x) =>
      (k, if x.bound.any (fun b => b.1 == scope && p b.2) then { x with bound := none } else x)) } }

/-! ## Class and authority (R268, R274, R283) -/

/-- What a command needs. -/
inductive Cls where
  | open_ | session | quorum
  /-- An owner-root authorisation block (R357). -/
  | owner
deriving DecidableEq, Repr

/-- The class of an operation (R255, R269, R274, R283, R357). -/
def classOf (c : Cx) (op : MOp) (scope : Nat) : Cls :=
  let lc := c.d.sys.lc
  match op with
  | .devInfo | .nonceGet | .sessionOpen _ _ => .open_
  | .logRead => if lc = 2 then .open_ else .session
  | .rngRawSample => if lc = 0 then .session else .quorum
  | .officerEnroll _ =>
    if scope = 0xFFFF ∧ c.d.mg.officers.members.isEmpty then (if lc = 0 then .open_ else .owner) else .quorum
  | .hifPolicySet | .tenantPolicySet | .officerRemove | .quorumSet | .lmkCommit | .lmkTr34Load _ | .lmkActivate | .lmkRemove
  | .anchorSet _ | .curveLoad _ | .curveClear | .logClear | .tamperUnlock | .tamperConfig | .tamperFuseDisable | .lcClose | .lcScrap
  | .debugReopen _ | .fwActivate | .pairFound | .pairJoin | .pairAdmit | .pairResolve | .unpair => .quorum
  | _ => .session

/-- An opcode that R283 lists as quorum-class, whatever the state: only its requests carry a quorum block, and `SESSION_OPEN`'s (R265,
R270). -/
def mayCarryQuorum (op : MOp) : Bool :=
  match op with
  | .officerEnroll _ | .rngRawSample | .sessionOpen _ _ => true
  | op => classOf { d := {}, f := {} } op 0 == .quorum

/-- The set that authorises an operation (R274, R283): `0xFFFF` the device's. -/
def authorityOf (c : Cx) (op : MOp) (scope : Nat) : Nat :=
  match op with
  | .officerEnroll _ => if (officersOf c.d scope).members.isEmpty then 0xFFFF else scope
  | .sessionOpen _ _ | .sessionClose | .officerRemove | .quorumSet | .officerList | .tenantPolicySet | .lmkComponentLoad | .lmkCommit
  | .lmkTr34Load _ | .lmkActivate | .lmkRemove | .lmkInfo | .krdInit _ | .anchorSet _ | .curveLoad _ | .curveClear | .slotImport
  | .slotDelete => scope
  | _ => 0xFFFF

/-- Commands served under a Lock or an Erase (R269). -/
def lockAllows (op : MOp) : Bool :=
  match op with
  | .devInfo | .devReset | .nonceGet | .sessionOpen _ _ | .sessionClose | .tamperStatus | .tamperUnlock | .logRead | .fwStatus
  | .pairStatus | .lcScrap => true
  | _ => false

/-- Commands served in a device fault stop, and after a halt for a unit's load (R329, R429). -/
def stopAllows (op : MOp) : Bool :=
  match op with
  | .devInfo | .devReset | .logRead | .tamperStatus | .fwStatus => true
  | _ => false

/-- Steps 3 and 4 of R268, and the refusal of R329 and R429 beside them. -/
def stateCheck (c : Cx) (op : MOp) : Option Status :=
  firstFail [
    (c.d.sys.lc != 2 || op == .devInfo || op == .logRead, .lifecycle),
    (!(c.d.goose.lock || c.d.goose.eraseBegun) || lockAllows op, .locked),
    (!(devFault c.d || c.d.sys.haltCause == 4) || stopAllows op, .fault)]

/-! ## Quorum (R275, R278) -/

/-- The lengths of a quorum block sum to `QUORUM_LEN`, and each is one the field has (R278). -/
def quorumFormOk (q : MbReq) : Bool :=
  q.quorumPad == 0 && q.quorumLen == 4 + q.quorum.foldl (fun n e => n + 4 + e.sigLen) 0
    && q.quorum.all (fun e => e.sigLen == 96 || e.sigLen == 3309)

/-- Entries name distinct enrolled Officers in ascending index, under their algorithms (R278). -/
def entriesOk (o : OfficerSet) : Option Nat → List QEntry → Bool
  | _, [] => true
  | last, e :: es =>
    last.all (· < e.officer) && o.members.any (fun x => x.index == e.officer && x.alg == e.alg) && entriesOk o (some e.officer) es

/-- An entry verifies: a signature of its algorithm's length that the Officer's key accepts (R278). -/
def verifies (e : QEntry) : Bool := e.valid && e.sigLen == (if e.alg = 2 then 3309 else 96)

/-- The Officers whose signatures verified, as a mask. -/
def verifiedMask (q : MbReq) : Nat := q.quorum.foldl (fun n e => if verifies e then n ||| 2 ^ e.officer else n) 0

/-- The signatures that verified. -/
def verifiedCount (q : MbReq) : Nat := (q.quorum.filter verifies).length

/-- The owner-root authorisation block of a request (R357). -/
def ownerBlockOk (c : Cx) (q : MbReq) : Option Status :=
  match q.owner with
  | none => some .format
  | some b => firstFail [(b.len == 7416 && b.tagOk, .format), (b.digest == c.f.ownerRoot && b.ecdsaOk && b.mldsaOk, .quorum)]

/-- Consumes the nonce of a mailbox, and for a quorum-class command steps `MB_QSEQ` (R275). -/
def useNonce (m : Nat) (stepSeq : Bool) (d : Dev) : Dev :=
  modBox m (fun b => { b with nonce := none, qseq := if stepSeq then (b.qseq + 1) % 2 ^ 32 else b.qseq }) d

/-- The nonce and sequence a request was signed over are the mailbox's (R275). -/
def nonceOk (d : Dev) (m : Nat) (q : MbReq) : Bool :=
  (mailboxOf d m).nonce == some q.nonce && (mailboxOf d m).qseq == q.qseq

/-- Step 7 of R268 for a quorum-class command. The authority's signatures, or with `owner` the owner-root block. -/
def quorumCheck (owner : Bool) (auth : Nat) (r : Req) (c : Cx) : Cx × Option Status :=
  if !nonceOk c.d r.m r.q then (c, some .nonce) else
  let c1 := c.mod (useNonce r.m true)
  if owner then
    (match ownerBlockOk c r.q with
      | some st => (if st = .quorum then c1.mod (raise 0x3002 auth (opCode (.officerEnroll [])) 0) else c1, some st)
      | none => (c1.mod (raise 0x3001 auth (opCode (.officerEnroll [])) 0), none))
  else if !quorumFormOk r.q then (c1, some .format)
  else
    let o := officersOf c.d auth
    let mask := if entriesOk o none r.q.quorum then verifiedMask r.q else 0
    if entriesOk o none r.q.quorum && decide (2 ≤ o.k) && decide (o.k ≤ verifiedCount r.q) then
      (c1.mod (raise 0x3001 auth ((mailboxOf c.d r.m).cur.elim 0 (fun e => opCode e.1)) mask), none)
    else (c1.mod (raise 0x3002 auth ((mailboxOf c.d r.m).cur.elim 0 (fun e => opCode e.1)) mask), some .quorum)

/-- The one signature of `SESSION_OPEN` (R270, R272): of the Officer the body names. -/
def openCheck (r : Req) (c : Cx) : Cx × Option Status :=
  let c1 := c.mod (useNonce r.m false)
  let o := officersOf c.d r.q.scope
  if !quorumFormOk r.q then (c1, some .format)
  else if entriesOk o none r.q.quorum && r.q.quorum.length == 1 && r.q.quorum.all (fun e => verifies e && e.officer == r.f 0 1) then (c1, none)
  else (c1.mod (raise 0x3004 r.q.scope (r.f 0 1) 0), some .quorum)

/-! ## Sessions (R270, R271) -/

/-- Another mailbox has a request of the session in service. -/
def sessionInUse (d : Dev) (m k : Nat) : Bool :=
  d.mg.boxes.any (fun e => e.1 != m && e.2.state == .busy && e.2.cur.any (fun x => x.2.session == k))

/-- Step 6 of R268 for a mailbox: the session, of the right authority, not in use, with a counter and a tag that verify. -/
def sessionCheck (anyScope : Bool) (auth : Nat) (r : Req) (c : Cx) : Cx × Option Status × Nat :=
  match Tab.find c.d.mg.sessions r.q.session with
  | none => (c, some .session, 0)
  | some s =>
    if !anyScope && s.scope != auth then (c, some .session, 0)
    else if sessionInUse c.d r.m r.q.session then (c, some .busy, 0)
    else
      let put := fun (s : Session) (d : Dev) => { d with mg := { d.mg with sessions := Tab.put d.mg.sessions r.q.session s } }
      let s1 := { s with used := c.d.sys.uptime }
      if s.lastReq.any (fun x => decide (r.q.reqId ≤ x)) || !r.q.tagOk then
        (c.mod (fun d => raise 0x3004 s.scope s.officer 0 (put s1 d)), some .sessionAuth, s.officer)
      else (c.mod (put { s1 with lastReq := some r.q.reqId }), none, s.officer)

end Sys2Proof.Machine
end

