-- ==== Sys2Proof/Machine/MgmtDev.lean ====
section
/-! DEFINITION. Device commands (R284 to R288, R255), nonces and sessions (R270, R276), tamper, life cycle and debug (R353, R366 to R369),
and firmware commands (R444, R448, R449).
Marks: assumptions 73, 86. -/

namespace Sys2Proof.Machine

/-! ## Device -/

/-- A mask of the units of a class that are present and not fenced. -/
def upMask {w : Nat} (n : Nat) (fenced : BitVec w) : Nat := (List.range n).foldl (fun m i => m + bitOf (!fenced.getLsbD i) i) 0

/-- The body of `DEV_INFO` (R284). -/
def devInfoBody (c : Cx) : List Byte :=
  let d := c.d
  leBytes 2 (devIdent d) ++ [0xB0, byteOf d.sys.lc] ++ leBytes 4 (fwVersions d) ++ leBytes 8 d.sys.serial
    ++ [byteOf (fuseCount c.f.secVersion), byteOf (d.fw.active.getD 0), byteOf (debugOpen d).toNat, 0]
    ++ leBytes 4 (devStatus d).toNat ++ leBytes 8 (upMask (coreCount d) d.fen.tc) ++ leBytes 4 (upMask (pkCount d) d.fen.pk)
    ++ leBytes 2 (upMask (ceCount d) d.fen.ce) ++ leBytes 1 (upMask (deCount d) d.fen.de) ++ [0] ++ leBytes 8 (now d)
    ++ beBytes 16 (groupId c.f).toNat ++ leBytes 2 (d.slices.filter (fun e => e.2.state != .free)).length
    ++ [byteOf d.mg.officers.members.length, byteOf d.mg.officers.k]

def devInfoCmd (r : Req) (c : Cx) : BRes := behind [len r 0] c (.done c (devInfoBody c) [])

/-- Schedules what begins 100 µs after the response (R285). -/
def schedule (w : Sched100) (d : Dev) : Dev := { d with sys := { d.sys with scheduled := some w } }

def devResetCmd (r : Req) (c : Cx) : BRes := behind [len r 0] c (.done (c.mod (schedule .devReset)) [] [])

/-- Takes an epoch time (R286). -/
def setTime (t : Nat) (d : Dev) : Dev := { d with sys := { d.sys with time := t, epoch := true } }

def timeSetCmd (r : Req) (c : Cx) : BRes :=
  let t := r.f 0 8
  behind [len r 8, (!bitAt t 63, .format), (!(c.d.pair.state == .paired && c.d.pair.role == .secondary), .pairRole)] c
    (.done (c.mod (fun d => if d.pair.state = .paired then strait (.control (.setTime t)) (setTime t d) else setTime t d)) [] [])

/-- `HIF_POLICY_SET` (R287). -/
def hifPolicyCmd (r : Req) (c : Cx) : BRes :=
  let v := r.f 0 4
  behind [len r 4, (decide (v ≤ 1), .format), (v == 0 || r.q.ide, .policy)] c
    (.done (c.mod (modHif (fun h => { h with ideRequired := v == 1 }))) (leBytes 4 v) [])

/-- `RNG_SELF_TEST` (R288, R254). -/
def rngSelfTestCmd (fails : Nat) (r : Req) (c : Cx) : BRes :=
  let v := r.f 0 4
  let sets := if v = 0 then 3 else v
  let bad := if bitAt sets 0 && bitAt fails 0 then 1 else if bitAt sets 1 && bitAt fails 1 then 2 else 0
  behind [len r 4, (decide (v ≤ 3), .format)] c
    (if bad = 0 then .done c (leBytes 4 sets) []
      else .fail .rngTest (c.mod (fun d => failRng (raise 0x6006 0xFFFF bad 0 d))) (leBytes 4 bad))

/-- `RNG_RAW_SAMPLE` (R255, R256): a run already under way goes first (R262). -/
def rngRawCmd (r : Req) (c : Cx) : BRes :=
  let src := r.f 0 1
  let mode := r.f 1 1
  behind [len r 4, (decide (src < 6) && decide (mode ≤ 1), .format), rsv r 2 4, outCap r (rawLen mode)] c
    (if c.d.rng.raw.isSome then .wait .raw c
      else .wait .raw (c.mod (fun d => raise 0x6004 src src mode (modRng (fun g => { g with
        raw := some { mailbox := r.m, source := src, mode } }) d))))

/-! ## Nonces and sessions -/

/-- `NONCE_GET` (R275, R276); through a secured SPDM session the nonce is that session's own (R272). -/
def nonceGetCmd (r : Req) (c : Cx) : BRes :=
  behind [len r 0] c (withRandom c (
    let bytes := drawBytes 32 c.d
    let d1 := cpDraw 32 c.d
    if 256 ≤ r.m then
      .done { c with d := modHif (fun h => { h with spdm := Tab.upd h.spdm (r.m - 256) {} (fun x => { x with nonce := some bytes }) }) d1 }
        (bytes ++ leBytes 4 0) []
    else
      .done { c with d := modBox r.m (fun b => { b with nonce := some bytes }) d1 }
        (bytes ++ leBytes 4 (mailboxOf c.d r.m).qseq) []))

/-- The certificate slot whose key signs replies: slot 1 in CLOSED, slot 0 in OPEN (R270). -/
def attestSlot (d : Dev) : Nat := if d.sys.lc = 1 then 1 else 0

/-- Bytes of the one-step KDF of SP 800-56C with SHA-384 (R270, R316). -/
def oneStep (n : Nat) (z info : List Byte) : List Byte :=
  (((List.range ((n + 47) / 48)).map (fun i => sha384 (beBytes 4 (i + 1) ++ z ++ info))).flatten).take n

/-- A hybrid reply: the device's point and ciphertext, and the shared secret both ends hold, Z and K one after the other. -/
def hybridReply (pos : Nat) (peer : List Byte) : List Byte × List Byte × List Byte :=
  let point := 0x04 :: beBytes 96 (Config.ephemeral 1 pos)
  let ct := beBytes 1568 (Config.ephemeral 2 pos)
  (point, ct, beBytes 80 (Config.agree peer (point ++ ct)))

/-- Bytes the CP draws for a hybrid exchange: scalar, encapsulation randomness and signature nonce. -/
def hybridDraw : Nat := 128

/-- `SESSION_OPEN` through a mailbox (R270), or its binding of an Officer to an SPDM session (R272). -/
def sessionOpenCmd (pointOk encapOk : Bool) (r : Req) (c : Cx) : BRes :=
  let officer := r.f 0 1
  if 256 ≤ r.m then
    behind [len r 4, rsv r 1 4] c
      (.done (c.mod (fun d => raise 0x3003 r.q.scope officer 0 (modHif (fun h => { h with
        spdm := Tab.upd h.spdm (r.m - 256) {} (fun x => { x with bound := some (r.q.scope, officer) }) }) d))) [] [])
  else
    behind [len r 1672, rsv r 1 4, rsv r 0x65 0x68, (r.f 4 1 == 4, .format), outCap r 1568, (pointOk, .pkPoint), (encapOk, .pkRange),
        (decide (c.d.mg.sessions.length < 64), .busy)] c
      (withRandom c (
        let k := c.d.mg.nextSession
        let (point, ct, z) := hybridReply c.d.rng.drawn (r.inp.drop 4)
        let head := point ++ [0, 0, 0] ++ leBytes 4 k
        let sig := beBytes 96 (Config.deviceSign (attestSlot c.d) (sha384 (r.inp ++ head ++ ct)))
        let info := leBytes 8 c.d.sys.serial ++ leBytes 4 k ++ sha384 (r.inp ++ head ++ sig ++ ct)
        let s : Session := { scope := r.q.scope, officer, key := oneStep 64 z info, used := c.d.sys.uptime }
        let d1 := cpDraw hybridDraw c.d
        .done { c with d := raise 0x3003 r.q.scope officer 0 { d1 with mg := { d1.mg with
          sessions := Tab.put d1.mg.sessions k s, nextSession := k + 1 } } } (head ++ sig) ct))

/-- `SESSION_CLOSE` (R276): the session goes with its response; over SPDM the binding alone goes. -/
def sessionCloseCmd (r : Req) (c : Cx) : BRes :=
  behind [len r 0] c (
    if 256 ≤ r.m then
      let k := r.m - 256
      let b := (Tab.getD c.d.hif.spdm k {}).bound.getD (0xFFFF, 0)
      .done (c.mod (fun d => raise 0x3005 b.1 b.2 0 (modHif (fun h => { h with
        spdm := Tab.upd h.spdm k {} (fun x => { x with bound := none }) }) d))) [] []
    else
      let s := Tab.getD c.d.mg.sessions r.q.session { scope := 0, officer := 0 }
      .done (c.mod (raise 0x3005 s.scope s.officer 0)) [] [])

/-! ## Tamper -/

/-- `TAMPER_STATUS` (R366). -/
def tamperStatusCmd (r : Req) (c : Cx) : BRes :=
  behind [len r 0] c (.done c
    (((tamperRegs c).map (leBytes 8)).flatten ++ List.replicate 8 0 ++ ((List.range 16).map (alarmBytes c.d.goose)).flatten) [])

/-- `TAMPER_UNLOCK` (R353). -/
def tamperUnlockCmd (r : Req) (c : Cx) : BRes :=
  let g := c.d.goose
  let left := (g.latched &&& g.uncleared).toNat
  behind [len r 0, (g.lock, .policy)] c (
    if g.eraseBegun then .fail .locked c (leBytes 4 (left + 2 ^ 31))
    else if left ≠ 0 then .fail .locked c (leBytes 4 left)
    else .done (c.mod (fun d => raise 0x1002 0xFFFF g.latched.toNat 0
      (modGoose (fun g => { g with latched := 0, uncleared := 0, alarmOut := false, lock := false }) d))) [] [])

/-- Only the listed bits of a mask are set. -/
def onlyBits (v : Nat) (l : List Nat) : Bool := (List.range 32).all (fun i => !bitAt v i || l.contains i)

/-- `TAMPER_CONFIG` (R366). -/
def tamperConfigCmd (r : Req) (c : Cx) : BRes :=
  let v := r.f 0 4
  let raises := bits v 11 0
  let low := bits v 27 16
  let blown := (c.f.raise0 ||| c.f.raise1).toNat
  behind [len r 4, (bits v 15 12 == 0 && bits v 31 28 == 0 && onlyBits raises [3, 4, 6, 7, 11] && onlyBits low [2, 9], .format),
      (low == 0 || c.d.sys.lc == 0, .lifecycle), (low &&& blown == 0, .policy)] c (
    let f1 := { c.f with raise0 := c.f.raise0 ||| BitVec.ofNat 12 raises, raise1 := c.f.raise1 ||| BitVec.ofNat 12 raises }
    let d1 := modGoose (fun g => { g with lowered := g.lowered ||| BitVec.ofNat 12 low }) c.d
    let d2 := if raises = 0 then d1 else raise 0x1004 0xFFFF raises 0 d1
    .done { d := if low = 0 then d2 else raise 0x1005 0xFFFF low 0 d2, f := f1 } [] [])

/-- `TAMPER_FUSE_DISABLE` (R366). -/
def tamperFuseCmd (r : Req) (c : Cx) : BRes :=
  let v := r.f 0 4
  behind [len r 4, (onlyBits v [2, 6, 7], .format)] c
    (.done { d := raise 0x1003 0xFFFF v 0 c.d
             f := { c.f with disable0 := c.f.disable0 ||| BitVec.ofNat 12 v, disable1 := c.f.disable1 ||| BitVec.ofNat 12 v } } [] [])

/-! ## Life cycle and debug -/

/-- The pattern CLOSED (R362). -/
def closedCopy : BitVec 64 := 0x7777777777777777

/-- `LC_CLOSE` (R367). -/
def lcCloseCmd (r : Req) (c : Cx) : BRes :=
  let b := r.q.owner.getD { len := 0, tagOk := false, digest := 0, ecdsaOk := false, mldsaOk := false }
  behind [len r (4 + 7416), rsv r 0 4, (c.d.sys.lc == 0, .lifecycle), (c.d.slices.all (fun e => e.2.state == .free), .sliceState),
      (c.d.pair.state != .paired, .policy), (b.len == 7416 && b.tagOk, .format), (b.ecdsaOk && b.mldsaOk, .quorum),
      (c.f.ownerRoot &&& b.digest == c.f.ownerRoot, .policy)] c
    (.done { d := schedule .lcClose (raise 0x2001 0xFFFF 0 0 c.d)
             f := { c.f with ownerRoot := c.f.ownerRoot ||| b.digest, lc0 := c.f.lc0 ||| closedCopy, lc1 := c.f.lc1 ||| closedCopy
                             lc2 := c.f.lc2 ||| closedCopy } } [] [])

/-- `LC_SCRAP` (R368). -/
def lcScrapCmd (r : Req) (c : Cx) : BRes := behind [len r 4, rsv r 0 4] c (.done (c.mod (schedule .lcScrap)) [] [])

/-- The 56-byte challenge (R369). -/
def challengeBytes (c : Cx) (id : Nat) (nonce : List Byte) : List Byte :=
  ascii [0x50, 0x47, 0x44, 0x42, 0x47, 0x43, 0x48, 0x31] ++ leBytes 8 c.d.sys.serial ++ leBytes 4 id
    ++ [byteOf (fuseCount c.f.debugReopen), 0, 0, 0] ++ nonce

/-- `DEBUG_CHALLENGE` (R369). -/
def debugChallengeCmd (r : Req) (c : Cx) : BRes :=
  behind [(c.d.sys.lc == 1, .lifecycle), len r 0] c (withRandom c (
    let nonce := drawBytes 32 c.d
    let id := c.d.dbg.challenges + 1
    let d1 := cpDraw 32 c.d
    .done { c with d := raise 0x2003 0xFFFF id 0 { d1 with dbg := { d1.dbg with challenge := some id, challenges := id, nonce } } }
      (challengeBytes c id nonce) []))

/-- `DEBUG_REOPEN` (R369). -/
def debugReopenCmd (sigsOk : Bool) (r : Req) (c : Cx) : BRes :=
  behind [len r 4731, rsv r 4 8, (c.d.sys.lc == 1, .lifecycle), (c.d.dbg.challenge == some (r.f 0 4), .nonce),
      (decide (fuseCount c.f.debugReopen < 8), .lifecycle), (sigsOk, .signature)] c
    (.done (c.mod (fun d => schedule .debugReopen { d with dbg := { d.dbg with challenge := none } })) [] [])

/-! ## Firmware -/

/-- `STAGE_STATE` (R448). -/
def stagingCode : Staging → Nat
  | .none => 0 | .receiving => 1 | .verifying => 2 | .staged => 3 | .activating => 4

/-- `SEC_VERSION` and `KIND` of the package received or staged (R448). -/
def newSec (d : Dev) : Nat :=
  match d.fw.staged with
  | some b => b.sec
  | none => if 128 ≤ d.fw.package.length then leAt d.fw.package 0x0B 1 else 0

def newKind (d : Dev) : Nat := if d.fw.staged.isSome then d.fw.stagedKind else leAt d.fw.package 0x0A 1

/-- The 120 bytes of `FW_STATUS` (R448). -/
def fwStatusBody (c : Cx) : List Byte :=
  let w := c.d.fw
  [byteOf (stagingCode w.staging), byteOf (w.active.getD 0), byteOf (fuseCount c.f.secVersion), byteOf w.lastResult]
    ++ leBytes 4 (fwVersions c.d) ++ leBytes 4 (newFw c.d) ++ [byteOf (newSec c.d), byteOf (newKind c.d), 0, 0]
    ++ leBytes 4 w.package.length ++ leBytes 4 w.total ++ fit (((runningBank c.d).map (·.digest)).getD []) 48
    ++ fit ((w.staged.map (·.digest)).getD []) 48

def fwStatusCmd (r : Req) (c : Cx) : BRes := behind [len r 0] c (.done c (fwStatusBody c) [])

/-- A PAIRED primary whose secondary is not READY on the staged image (R398). -/
def primaryHeld (d : Dev) : Bool :=
  d.pair.state == .paired && d.pair.role == .primary && !(d.pair.partnerReady && d.pair.partnerFw == newFw d)

/-- An activation is accepted, intake closed with it (R445 steps 1, 2). -/
def beginActivation (mailbox : Option Nat) (d : Dev) : Dev :=
  raise 0x7004 0xFFFF (newFw d) (fwVersions d) { d with fw := { d.fw with
    staging := .activating, step := 2, mailbox } }

/-- `FW_ACTIVATE` (R444, R445). -/
def fwActivateCmd (r : Req) (c : Cx) : BRes :=
  behind [len r 4, (c.d.fw.staging != .activating, .busy), (c.d.fw.staging == .staged && r.f 0 4 == newFw c.d, .policy),
      (!primaryHeld c.d, .pairRole)] c
    (.wait .activation (c.mod (beginActivation (some r.m))))

/-- `FW_DISCARD` (R449). -/
def fwDiscardCmd (r : Req) (c : Cx) : BRes :=
  behind [len r 0, (c.d.fw.staging != .activating, .busy), (c.d.fw.staging != .none, .policy)] c
    (.done (c.mod (fun d => raise 0x7005 0xFFFF 1 (newFw d) (dropStaging 11 d))) [] [])

end Sys2Proof.Machine
end

