-- ==== Sys2Proof/Machine/MgmtLog.lean ====
section
/-! DEFINITION. The event log and the performance counters through the mailboxes (R410 to R413, R417 to R422).
Marks: assumption 77. -/

namespace Sys2Proof.Machine

/-! ## The log -/

/-- `LOG_READ` (R411, R412); the boot ROM answers where no CP runs (R365). -/
def logReadCmd (r : Req) (c : Cx) : BRes :=
  behind [len r 16, (logReadOk r.inp, .format), outCap r (32 * r.f 4 4)] c (
    let (out, body) := readLog c.d.sys.cpUp (r.f 0 1) (r.f 4 4) (r.f 8 8) c.d
    .done c body out)

/-- `LOG_CLEAR` (R413). -/
def logClearCmd (r : Req) (c : Cx) : BRes := behind [len r 4, rsv r 0 4] c (.done (c.mod clearLog) [] [])

/-- `LOG_RATE_SET` (R410). -/
def logRateCmd (r : Req) (c : Cx) : BRes :=
  let rate := r.f 2 2
  let burst := r.f 4 2
  behind [len r 8, rsv r 6 8, ((rate == 0) == (burst == 0) && decide (rate ≤ 4096) && decide (burst ≤ 4096), .format),
      (rateLimited (r.f 0 2), .policy)] c
    (.done (c.mod (setRate (r.f 0 2) rate burst)) [] [])

/-! ## Counters -/

/-- The events of R418. -/
def allEvents : List Nat :=
  [0x1000, 0x1101, 0x1102, 0x1103, 0x1104, 0x1105, 0x1106, 0x1107, 0x1200, 0x1201, 0x1202, 0x2000, 0x2001, 0x2002, 0x2003, 0x3000,
    0x3001, 0x3100, 0x3101, 0x3200, 0x4000, 0x4001, 0x5000, 0x5001, 0x5002, 0x6000, 0x6001, 0x6002, 0x7000, 0x7001, 0x8000, 0x8001,
    0x9000, 0x9001]

/-- Events that carry a slice (R418). -/
def carriesSlice (e : Nat) : Bool := [1, 2, 3, 4, 6].contains (e / 4096) || e == 0x8000

/-- The events a selection admits. -/
def admitted (event mask : Nat) : List Nat := allEvents.filter (fun e => e &&& mask == event &&& mask)

def setCtr (n : Nat) (x : Ctr) (d : Dev) : Dev := { d with ctr := { d.ctr with ctr := Tab.put d.ctr.ctr n x } }

/-- `CTR_SELECT` (R417, R422). -/
def ctrSelectCmd (r : Req) (c : Cx) : BRes :=
  let n := r.f 0 2
  let fl := r.f 2 1
  let old := ctrOf c.d n
  let evs := admitted (r.f 4 2) (r.f 6 2)
  behind [len r 32,
      (decide (n < 256) && decide (fl < 16) && decide (1 ≤ r.f 3 1) && decide (r.f 3 1 < 8) && decide (r.f 8 2 < 1024)
        && decide (r.f 10 2 < 1024) && decide (r.f 12 2 < 4096) && zeroFrom r.inp 14 16 && zeroFrom r.inp 29 32, .format),
      (!evs.isEmpty, .format),
      (!bitAt fl 3 || (evs.all (fun e => e / 4096 == 4) && r.f 16 8 % 4096 == 0 && decide (1 ≤ r.f 24 4)), .format),
      (old.grant.isNone || evs.all carriesSlice, .policy)] c (
    let x : Ctr := { old with
      value := if bitAt fl 1 then 0 else old.value
      ovf := !bitAt fl 1 && old.ovf
      enabled := bitAt fl 0
      event := r.f 4 2
      eventMask := r.f 6 2
      priv := r.f 3 1
      master := r.f 8 2
      masterMask := r.f 10 2
      sliceEn := bitAt fl 2 || old.grant.isSome
      slice := if old.grant.isSome then old.slice else r.f 12 2
      addrEn := bitAt fl 3
      base := r.f 16 8
      pages := r.f 24 4
      target := r.f 28 1 }
    .done (c.mod (setCtr n x)) [] [])

/-- `CTR_READ` (R419): granted counters are read and not cleared. -/
def ctrReadCmd (r : Req) (c : Cx) : BRes :=
  let first := r.f 0 2
  let n := r.f 2 1
  behind [len r 4, (decide (1 ≤ n) && decide (n ≤ 251) && decide (r.f 3 1 ≤ 1) && decide (first + n ≤ 256), .format)] c (
    let ks := List.range' first n
    let body := leBytes 8 (now c.d) ++ (ks.map (fun k => leBytes 8 (ctrValue (ctrOf c.d k)))).flatten
    let clear := fun (d : Dev) => ks.foldl (fun d k =>
      let x := ctrOf d k
      if x.grant.isSome then d else setCtr k { x with value := 0, ovf := false } d) d
    .done (if r.f 3 1 = 1 then c.mod clear else c) body [])

/-- `CTR_DUMP_SET` (R421). -/
def ctrDumpCmd (r : Req) (c : Cx) : BRes :=
  let addr := r.f 0 8
  let slots := r.f 8 4
  let period := r.f 12 4
  behind [len r 20,
      (addr % 64 == 0 && decide (2 ≤ slots) && decide (slots ≤ 65536) && (period == 0 || decide (10 ≤ period))
        && decide (period ≤ 10000000) && decide (r.f 16 4 ≤ 1), .format),
      (decide (addr + 2240 * slots ≤ 2 ^ 64), .length)] c
    (.done (c.mod (fun d => { d with ctr := { d.ctr with
      dumpAddr := addr
      dumpSlots := slots
      dumpPeriod := period
      dumpSignal := r.f 16 4 == 1
      dumpSeq := if period = 0 then d.ctr.dumpSeq else 0
      missed := if period = 0 then d.ctr.missed else 0
      dumpMissed := if period = 0 then d.ctr.dumpMissed else 0 } })) [] [])

/-- `BWMON_SET` (R420). -/
def bwmonCmd (r : Req) (c : Cx) : BRes :=
  let m := r.f 0 1
  let w := r.f 4 4
  behind [len r 8, rsv r 2 4, ((decide (m < 8) || m == 0xFF) && decide (r.f 1 1 ≤ 1) && decide (w ≤ 1000000), .format)] c (
    let set := fun (d : Dev) (k : Nat) =>
      let x := monOf d k
      let clear := r.f 1 1 == 1 || x.window != w
      { d with ctr := { d.ctr with mon := Tab.put d.ctr.mon k { x with
        window := w
        peak := if clear then 0 else x.peak
        peakTime := if clear then 0 else x.peakTime } } }
    .done (c.mod (fun d => (if m = 0xFF then List.range 8 else [m]).foldl set d)) [] [])

/-- `CTR_GRANT` (R422). -/
def ctrGrantCmd (r : Req) (c : Cx) : BRes :=
  let n := r.f 0 2
  let s := r.f 2 2
  let m := r.f 4 1
  let x := ctrOf c.d n
  behind [len r 6, rsv r 5 6, (decide (n < 256) && decide (s < 4096) && decide (m < 8), .format),
      (x.grant.isNone && c.d.ctr.ctr.all (fun e => e.2.grant != some (s, m)), .policy),
      ((admitted x.event x.eventMask).all carriesSlice, .policy), ((sliceOf c.d s).state != .free, .sliceState)] c
    (.done (c.mod (setCtr n { x with value := 0, ovf := false, sliceEn := true, slice := s, grant := some (s, m) })) [] [])

/-- A counter as the end of a grant leaves it (R422). -/
def ungranted (x : Ctr) : Ctr := { x with value := 0, ovf := false, enabled := false, grant := none }

/-- `CTR_REVOKE` (R422). -/
def ctrRevokeCmd (r : Req) (c : Cx) : BRes :=
  behind [len r 4, rsv r 2 4, (decide (r.f 0 2 < 256), .format)] c
    (.done (c.mod (fun d => setCtr (r.f 0 2) (ungranted (ctrOf d (r.f 0 2))) d)) [] [])

/-- Revokes every grant of a slice (R309). -/
def revokeGrants (n : Nat) (d : Dev) : Dev :=
  { d with ctr := { d.ctr with ctr := d.ctr.ctr.map (fun (k, x) =>
      (k, if x.grant.any (fun g => g.1 == n) then ungranted x else x)) } }

end Sys2Proof.Machine
end

