-- ==== Sys2Proof/Machine/MgmtSlice.lean ====
section
/-! DEFINITION. Slices (10): their life cycle, quiescing, status, and migration keys. A mirrored command's effect is a function of its
input, so that each device of a pair runs it at its own moment of effect (R282, R384).
Marks: assumptions 75. -/

namespace Sys2Proof.Machine

/-- What the effect of a mirrored command comes to: a failing status, or the new context, the body and the output. -/
abbrev Eff := Except (Status × Cx) (Cx × List Byte × List Byte)

/-- A mirrored command as its effect meets it. `force` holds on the partner, where the checks of what is not mirrored stand as the
originator made them. -/
structure MReq where
  force : Bool
  scope : Nat
  inp : List Byte
  data : List Byte := []
deriving DecidableEq, Repr

def MReq.f (r : MReq) (o n : Nat) : Nat := leAt r.inp o n

/-- An effect behind its checks. -/
def eff (_r : MReq) (checks : List (Bool × Status)) (c : Cx) (k : Cx × List Byte × List Byte) : Eff :=
  match firstFail checks with
  | some st => .error (st, c)
  | none => .ok k

def mlen (r : MReq) (n : Nat) : Bool × Status := (r.inp.length == n, .format)
def mrsv (r : MReq) (lo hi : Nat) : Bool × Status := (zeroFrom r.inp lo hi, .format)
def mSlice (r : MReq) : Bool × Status := (decide (r.scope < 4096), .format)
/-- The slice's state (R298); on a partner only its being FREE, the states beyond that being each device's own. -/
def mState (r : MReq) (c : Cx) (l : List SliceState) : Bool × Status :=
  let st := (sliceOf c.d r.scope).state
  (if r.force then (st == .free) == l.contains .free else l.contains st, .sliceState)

/-- States in which a mirrored command other than those of R298's table is served: neither FREE nor FROZEN (R307). -/
def unfrozen : List SliceState := [.bound, .active, .quiesced, .error]

/-! ## Creation and binding (R300 to R303) -/

/-- Slices in use other than one. -/
def others (d : Dev) (n : Nat) : List (Nat × Slice) := d.slices.filter (fun e => e.1 != n && e.2.state != .free)

/-- A PASID is 20 bits and not 0 (R300). -/
def pasidOk (p : Nat) : Bool := decide (1 ≤ p) && decide (p ≤ 0xFFFFF)

/-- Another slice is bound to a PASID (R59). -/
def pasidTaken (d : Dev) (n p : Nat) : Bool := (others d n).any (fun e => e.2.per.pasid == p)

/-- Flow quotas and cache guarantees of the other slices (R300). -/
def flowTotal (d : Dev) (n : Nat) : Nat := (others d n).foldl (fun k e => k + e.2.per.flowQuota) 0
def guarTotal (d : Dev) (n : Nat) : Nat := (others d n).foldl (fun k e => k + e.2.per.cacheGuar) 0

/-- A field that 0 sets to a default. -/
def orDefault (v d : Nat) : Nat := if v = 0 then d else v

/-- `SFLAGS` of a slice (R300). -/
def sflags (p : SliceRec) : Nat := bitOf p.migratable 0 + bitOf p.noGuar 1 + bitOf p.urgentOk 2

/-- A new slice in BOUND; its interrupt message store entry stays as the Manager wrote it. -/
def newSlice (n : Nat) (p : SliceRec) (d : Dev) : Dev := modSlice n (fun s => { irq := s.irq, per := p, state := .bound }) d

/-- `SLICE_CREATE` (R300). -/
def sliceCreateEff (r : MReq) (c : Cx) : Eff :=
  let fl := r.f 16 1
  let p : SliceRec := {
    pasid := r.f 0 4
    flowQuota := orDefault (r.f 4 2) 16
    inflight := orDefault (r.f 6 2) 512
    cacheGuar := if bitAt fl 1 then r.f 8 4 else orDefault (r.f 8 4) 16
    cacheCeil := orDefault (r.f 12 4) 4096
    migratable := bitAt fl 0
    noGuar := bitAt fl 1
    urgentOk := bitAt fl 2 }
  eff r [mSlice r, mlen r 20, mrsv r 17 20,
      (pasidOk p.pasid && decide (p.flowQuota ≤ 4096) && decide (16 ≤ p.inflight) && decide (p.inflight ≤ 4096)
        && decide (p.cacheGuar ≤ 4096) && (!p.noGuar || p.cacheGuar == 0) && decide (16 ≤ p.cacheCeil) && decide (p.cacheCeil ≤ 131072)
        && decide (fl < 8) && decide (p.cacheGuar ≤ p.cacheCeil), .format),
      mState r c [.free], (!pasidTaken c.d r.scope p.pasid, .policy),
      (decide (flowTotal c.d r.scope + p.flowQuota ≤ 65536), .flowLimit),
      (decide (guarTotal c.d r.scope + p.cacheGuar ≤ 65536), .cacheQuota)] c
    (c.mod (fun d => raise 0x4001 r.scope p.pasid fl (newSlice r.scope p d)), [], [])

/-- `SLICE_BIND` (R301). -/
def sliceBindEff (r : MReq) (c : Cx) : Eff :=
  let p := r.f 0 4
  eff r [mSlice r, mlen r 4, (pasidOk p, .format), mState r c [.bound, .quiesced, .frozen], (!pasidTaken c.d r.scope p, .policy)] c
    (c.mod (fun d => raise 0x4002 r.scope p (sliceOf d r.scope).per.pasid (modPer r.scope (fun s => { s with pasid := p }) d)), [], [])

/-- The eight ring configurations with one changed. -/
def setRing (l : List RingCfg) (k : Nat) (x : RingCfg) : List RingCfg :=
  (List.range 8).map (fun i => if i = k then x else l.getD i {})

/-- `SLICE_RING_SETUP` (R302). -/
def sliceRingEff (r : MReq) (c : Cx) : Eff :=
  let k := r.f 0 1
  let lg := r.f 1 1
  let sq := r.f 8 8
  let cq := r.f 16 8
  eff r [mSlice r, mlen r 24, mrsv r 2 8,
      (decide (k ≤ 7) && (lg == 0 || (decide (6 ≤ lg) && decide (lg ≤ 16))) && sq % 4096 == 0 && cq % 4096 == 0
        && (lg != 0 || (sq == 0 && cq == 0)), .format),
      (lg == 0 || (decide (sq + 128 * 2 ^ lg ≤ 2 ^ 64) && decide (cq + 64 * 2 ^ lg ≤ 2 ^ 64)), .length), mState r c [.bound]] c
    (c.mod (fun d => modSlice r.scope (fun s => { s with
      per := { s.per with rings := setRing s.per.rings k { log2 := lg, sqBase := sq, cqBase := cq } }
      rings := Tab.del s.rings k }) d), [], [])

/-- Ring pairs that are configured. -/
def configured (s : Slice) : List Nat := (List.range 8).filter (fun k => (ringCfg s k).log2 != 0)

/-- A mask of numbers. -/
def maskOf (l : List Nat) : Nat := l.foldl (fun n i => n ||| 2 ^ i) 0

/-- `SLICE_ACTIVATE` (R303). -/
def sliceActivateEff (r : MReq) (c : Cx) : Eff :=
  let ks := configured (sliceOf c.d r.scope)
  eff r [mSlice r, mlen r 0, mState r c [.bound], (!ks.isEmpty, .sliceState)] c
    (c.mod (fun d => raise 0x4003 r.scope (maskOf ks) 0 (modSlice r.scope (fun s => { s with
      state := .active, intake := true, rings := ks.map (fun k => (k, { enabled := true })) }) d)), [], [])

/-- `SLICE_POLICY_SET` (R304). -/
def slicePolicyEff (r : MReq) (c : Cx) : Eff :=
  let n := orDefault (r.f 2 2) 512
  eff r [mSlice r, mlen r 4, (decide (r.f 0 2 ≤ 1) && decide (16 ≤ n) && decide (n ≤ 4096), .format), mState r c unfrozen] c
    (c.mod (modPer r.scope (fun s => { s with urgentOk := bitAt (r.f 0 1) 0, inflight := n })), [], [])

/-- `TENANT_POLICY_SET` (R289). -/
def tenantPolicyEff (r : MReq) (c : Cx) : Eff :=
  eff r [mSlice r, mlen r 4, (decide (r.f 0 4 < 8), .format), mState r c unfrozen] c
    (c.mod (modPer r.scope (fun s => { s with policy := r.f 0 4 })), [], [])

/-! ## Reset and removal (R308, R309) -/

/-- Flow contexts of a slice are unbound. -/
def dropFlows (n : Nat) (d : Dev) : Dev := modSched (fun s => { s with flows := s.flows.filter (fun e => e.1 / 65536 != n) }) d

/-- A slice's cache entries and handles go; its slots' counting resumes past what was drawn from them (R121, R127). -/
def dropCache (n : Nat) (d : Dev) : Dev :=
  ((d.keys.cache.filter (fun e => e.2.slice == n)).map (·.1)).foldl (fun d id => dropEntry id d) d

/-- Ends what a slice still has in flight, where a partner or `UNPAIR` resets or removes a slice that serves. -/
def purgeItems (n : Nat) (d : Dev) : Dev :=
  (itemsOf d n).foldl (fun d id => match itemOf d id with
    | some i => if waiting i then d else abortNow id d
    | none => d) d

/-- The volatile part of a slice as a reset leaves it (R308, R313). -/
def cleanSlice (s : Slice) (st : SliceState) : Slice := { irq := s.irq, per := s.per, state := st, nextHandle := s.nextHandle }

/-- `SLICE_RESET` (R308). On a partner whose slice still serves, its items end first. -/
def sliceResetEff (r : MReq) (c : Cx) : Eff :=
  let s := sliceOf c.d r.scope
  eff r [mSlice r, mlen r 0, mState r c [.quiesced, .frozen, .error], (r.force || s.state != .error || s.per.sound, .keyDamaged)] c
    (c.mod (fun d => raise 0x4007 r.scope s.state.code 0
      (modSlice r.scope (fun s => cleanSlice s .bound) (dropFlows r.scope (dropCache r.scope (purgeItems r.scope d))))), [], [])

/-- Everything a slice holds goes (R309). -/
def removeSlice (n : Nat) (d : Dev) : Dev :=
  let d1 := revokeGrants n (endSessionsOf n (fun _ => true) (dropFlows n (dropCache n (purgeItems n d))))
  { d1 with slices := Tab.del d1.slices n }

/-- `SLICE_REMOVE` (R309). -/
def sliceRemoveEff (r : MReq) (c : Cx) : Eff :=
  let s := sliceOf c.d r.scope
  eff r [mSlice r, mlen r 0, mState r c [.quiesced, .frozen, .error]] c
    (c.mod (fun d => raise 0x4008 r.scope s.state.code 0 (removeSlice r.scope d)), [], [])

/-! ## Quiescing, freezing, resuming (R305 to R307) -/

/-- `SLICE_QUIESCE` (R305, R299): intake closes and the drain begins; a second command waits for the first. -/
def sliceQuiesceCmd (r : Req) (c : Cx) : BRes :=
  let n := r.q.scope
  let s := sliceOf c.d n
  behind [aSlice r, len r 0, inState c n [.active, .quiesced, .frozen]] c (
    if s.state ≠ .active then .done c (List.replicate 16 0) []
    else match s.drain with
    | some dr => .wait (.quiesce n) (c.mod (modSlice n (fun s => { s with drain := some { dr with mailboxes := dr.mailboxes ++ [r.m] } })))
    | none =>
      .wait (.quiesce n) (c.mod (fun d => checkDrained n (modSlice n (fun s => { s with
        intake := false, drain := some { mailboxes := [r.m], start := d.sys.uptime, last := d.sys.uptime } }) d))))

/-- `SLICE_FREEZE` (R307). -/
def sliceFreezeCmd (r : Req) (c : Cx) : BRes :=
  behind [aSlice r, len r 0, inState c r.q.scope [.quiesced]] c
    (.done (c.mod (fun d => raise 0x4005 r.q.scope 0 0 (modSlice r.q.scope (fun s => { s with state := .frozen, saved := false }) d))) [] [])

/-- `SLICE_RESUME` (R306). -/
def sliceResumeCmd (r : Req) (c : Cx) : BRes :=
  let s := sliceOf c.d r.q.scope
  let after := r.f 0 4
  behind [aSlice r, len r 4, (decide (after ≤ 1), .format), inState c r.q.scope [.quiesced, .frozen],
      (!(s.state == .frozen && s.saved) || after == 1, .sliceState)] c
    (.done (c.mod (fun d => raise 0x4006 r.q.scope after 0 (modSlice r.q.scope (fun s => { s with
      state := .active, saved := false, intake := true }) d))) [] [])

/-- `SLICE_STATUS` (R312). -/
def sliceStatusCmd (r : Req) (c : Cx) : BRes :=
  let n := r.q.scope
  let s := sliceOf c.d n
  let p := s.per
  let w := sliceStatusReg s
  behind [aSlice r, len r 0] c (.done c
    ([byteOf s.state.code, byteOf (sflags p + bitOf s.saved 3), 0, 0] ++ leBytes 4 p.pasid ++ leBytes 2 p.flowQuota ++ leBytes 2 p.inflight
      ++ leBytes 4 p.cacheGuar ++ leBytes 4 p.cacheCeil ++ leBytes 4 (heldBy c.d n) ++ leBytes 4 (pinnedBy c.d n)
      ++ [byteOf (maskOf (configured s)), byteOf (bits w 23 16), byteOf (bits w 15 8), 0] ++ leBytes 2 s.spoofCount ++ leBytes 2 s.dbErrCount
      ++ leBytes 4 p.policy ++ [byteOf p.officers.members.length, byteOf p.officers.k] ++ List.replicate 6 0) [])

/-! ## Migration keys (R315, R316) -/

/-- The lowest free entry of the table of 16. -/
def freeMig (d : Dev) : Option Nat := (List.range 16).find? (fun k => (Tab.find d.mg.migration k).isNone)

def setMig (k : Nat) (e : MigKey) (d : Dev) : Dev := { d with mg := { d.mg with migration := Tab.put d.mg.migration k e } }
def delMig (k : Nat) (d : Dev) : Dev := { d with mg := { d.mg with migration := Tab.del d.mg.migration k } }

/-- The entry of a role with a key identifier and a partner, where one is asked for. -/
def migOf (d : Dev) (role : MigRole) (keyId : Nat) (partner : Option Nat) : Option (Nat × MigKey) :=
  d.mg.migration.find? (fun e => e.2.role == role && e.2.keyId == keyId && partner.all (· == e.2.partner))

/-- Fields of an offer or reply before its signature. -/
def migHead (keyId serial : Nat) (point second : List Byte) : List Byte :=
  leBytes 4 keyId ++ leBytes 8 serial ++ point ++ second ++ leBytes 2 (slotChain 1).length ++ slotChain 1

/-- The offer or reply within an input, after the 4-byte body. -/
def migMsg (r : Req) : List Byte := r.inp.drop 4

/-- Structure of an offer or reply (R315). -/
def migFormOk (r : Req) : Bool :=
  let n := leAt (migMsg r) 1677 2
  zeroFrom r.inp 1 4 && decide (n ≤ 4096) && r.inp.length == 4 + 1679 + n + 96 && leAt (migMsg r) 12 1 == 4

/-- Checks of the receiver of an offer or reply (R315). -/
def migChecks (v : MigVerdict) (r : Req) : List (Bool × Status) :=
  [(migFormOk r, .format), (v.chainOk, .policy), (v.sigOk, .signature), (v.pointOk, .pkPoint), (v.encapOk, .pkRange)]

/-- The migration key (R316), from the public halves of the offer and the reply. -/
def migKey (offer reply : List Byte) (src dst keyId : Nat) : List Byte :=
  oneStep 32 (beBytes 80 (Config.agree (slice8 offer 12 1665) (slice8 reply 12 1665)))
    (ascii [0x50, 0x47, 0x4D, 0x49, 0x47, 0x31] ++ leBytes 8 src ++ leBytes 8 dst ++ leBytes 4 keyId)

/-- `MIGRATION_KEY_AGREE` mode 0. -/
def migOfferCmd (r0 : Req) (c : Cx) : BRes :=
  let r := ownMode r0 0 0 [0, 1, 2]
  let n := 1679 + (slotChain 1).length + 96
  behind [(c.d.sys.lc == 1, .lifecycle), len r 4, (r.f 0 1 == 0, .format), rsv r 1 4, outCap r n] c (
    match freeMig c.d with
    | none => .fail .busy c []
    | some k => withRandom c (
      let id := c.d.mg.nextKeyId
      let head := migHead id c.d.sys.serial (0x04 :: beBytes 96 (Config.ephemeral 1 c.d.rng.drawn)) (beBytes 1568 (Config.ephemeral 3 c.d.rng.drawn))
      let d1 := cpDraw hybridDraw c.d
      .done { c with d := setMig k { keyId := id, role := .offered, key := head } { d1 with mg := { d1.mg with nextKeyId := (id + 1) % 2 ^ 32 } } } []
        (head ++ beBytes 96 (Config.deviceSign 1 (sha384 head)))))

/-- Mode 1. -/
def migAcceptCmd (v : MigVerdict) (r0 : Req) (c : Cx) : BRes :=
  let r := ownMode r0 0 1 [0, 1, 2]
  let offer := migMsg r
  let n := 1679 + (slotChain 1).length + 96
  behind ([(c.d.sys.lc == 1, .lifecycle), (r.f 0 1 == 1, .format)] ++ migChecks v r
      ++ [(leAt offer 4 8 != c.d.sys.serial, .policy), outCap r n]) c (
    match freeMig c.d with
    | none => .fail .busy c []
    | some k => withRandom c (
      let id := leAt offer 0 4
      let (point, ct, _) := hybridReply c.d.rng.drawn offer
      let head := migHead id c.d.sys.serial point ct
      let d1 := cpDraw hybridDraw c.d
      .done { c with d := setMig k { keyId := id, role := .outgoing, partner := leAt offer 4 8,
                                     key := migKey offer head c.d.sys.serial (leAt offer 4 8) id } d1 } []
        (head ++ beBytes 96 (Config.deviceSign 1 (sha384 (offer ++ head))))))

/-- Mode 2. -/
def migCompleteCmd (v : MigVerdict) (r0 : Req) (c : Cx) : BRes :=
  let r := ownMode r0 0 2 [0, 1, 2]
  let reply := migMsg r
  let id := leAt reply 0 4
  behind ([(c.d.sys.lc == 1, .lifecycle), (r.f 0 1 == 2, .format)] ++ migChecks { v with encapOk := true } r) c (
    match migOf c.d .offered id none with
    | none => .fail .policy c []
    | some (k, e) =>
      .done (c.mod (setMig k { keyId := id, role := .incoming, partner := leAt reply 4 8,
                               key := migKey e.key reply (leAt reply 4 8) c.d.sys.serial id })) [] [])

end Sys2Proof.Machine
end

