-- ==== Sys2Proof/Machine/Ferry.lean ====
section
/-! DEFINITION. The Ferry image (R317 to R320): the sections of its body, written and read back, and the commands that save and restore
a slice. The manual gives each section's content and length; the offsets within a section are this model's.
Marks: assumption 76 (PRESUMED). -/

namespace Sys2Proof.Machine

/-! ## Writing -/

/-- A section: header, data, padding to 8 bytes (R318). -/
def section8 (ty : Nat) (data : List Byte) : List Byte :=
  leBytes 2 ty ++ [0, 0] ++ leBytes 4 data.length ++ data ++ List.replicate ((8 - data.length % 8) % 8) 0

def attrSection (p : SliceRec) : List Byte :=
  fit (leBytes 2 p.flowQuota ++ leBytes 2 p.inflight ++ leBytes 4 p.cacheGuar ++ leBytes 4 p.cacheCeil ++ leBytes 4 (sflags p)
    ++ leBytes 4 p.policy) 32

def ringSection (p : SliceRec) : List Byte :=
  ((List.range 8).map (fun k =>
    let x := p.rings.getD k {}
    leBytes 8 x.log2 ++ leBytes 8 x.sqBase ++ leBytes 8 x.cqBase)).flatten

def flowSection (d : Dev) (n : Nat) : List Byte :=
  ((d.sched.flows.filter (fun e => e.1 / 65536 == n)).map (fun e =>
    let kind : Nat := match e.2.kind with
      | .unordered => 0
      | .ordered => 1
      | .atomic => 2
    leBytes 2 (e.1 % 65536) ++ leBytes 2 kind ++ leBytes 4 e.2.nextSeq)).flatten

def lmkSection (p : SliceRec) : List Byte :=
  ((List.range 4).map (fun g =>
    let l := p.lmk.getD g {}
    fit ([byteOf (bitOf l.aes.isSome 0 + bitOf l.tdes.isSome 1 + bitOf (p.lmkActive == some g) 2 + bitOf l.damaged 3)]) 8
      ++ fit (l.aes.getD []) 32 ++ fit (l.tdes.getD []) 24)).flatten

/-- The 96 bytes of a slot. -/
def slotBytes (s : Slot) : List Byte :=
  let a := s.key.attr
  let st := match s.st with
    | .empty => 0
    | .live => 1
    | .exhausted => 2
    | .damaged => 3
  if s.st = .empty ∨ s.st = .damaged then fit ([byteOf st, 0, 0, 0, 0, 0, 0, 0] ++ leBytes 4 s.version) 96 else
  let u := usageChars a.usage
  fit ([byteOf st] ++ ascii [u.1, u.2, algChar a.alg, modeChar a.mode] ++ fit a.kvn 2 ++ ascii [expoChar a.expo] ++ leBytes 4 s.version
    ++ leBytes 7 s.resEnd ++ leBytes 7 s.ceiling
    ++ [byteOf (bitOf a.ceil9C.isSome 0 + bitOf a.hm.isSome 1 + bitOf a.ik.isSome 2 + bitOf a.ks.isSome 3)] ++ leBytes 6 (a.ceil9C.getD 0)
    ++ [byteOf (a.hm.getD 0)] ++ fit (a.ik.getD []) 8 ++ fit (a.ks.getD []) 5 ++ [byteOf s.key.bytes.length] ++ fit s.key.bytes 32) 96

def slotSection (s : Slice) : List Byte := ((List.range 64).map (fun k => slotBytes (slotOf s k))).flatten

def officerSection (o : OfficerSet) : List Byte :=
  if o.members.isEmpty then [] else
  fit [byteOf o.k, byteOf o.members.length] 8
    ++ (o.members.map (fun x => [byteOf x.index, byteOf x.alg] ++ leBytes 2 x.key.length ++ x.key)).flatten

def curveSection (p : SliceRec) : List Byte :=
  (p.curves.map (fun e => [byteOf e.1, byteOf e.2.len] ++ fit e.2.params (6 * e.2.len) ++ fit e.2.tag 8)).flatten

def krdSection (p : SliceRec) : List Byte :=
  if p.krd.isNone && p.anchor.isNone then [] else
  leBytes 2 (p.krd.getD []).length ++ leBytes 2 (p.anchor.getD []).length ++ p.krd.getD [] ++ p.anchor.getD []

/-- The sections of a slice: types 1, 2, 4 and 5 always, the others where they hold something. -/
def sections (d : Dev) (n : Nat) : List (Nat × List Byte) :=
  let s := sliceOf d n
  [(1, attrSection s.per), (2, ringSection s.per), (3, flowSection d n), (4, lmkSection s.per), (5, slotSection s),
    (6, officerSection s.per.officers), (7, curveSection s.per), (8, krdSection s.per)].filter
      (fun e => [1, 2, 4, 5].contains e.1 || !e.2.isEmpty)

/-- ASCII `PGFERRY1`. -/
def ferryMagic : List Byte := ascii [0x50, 0x47, 0x46, 0x45, 0x52, 0x52, 0x59, 0x31]

/-- The 64-byte header (R317). -/
def ferryHeader (d : Dev) (n count bodyLen dst keyId : Nat) (nonce : List Byte) : List Byte :=
  ferryMagic ++ leBytes 2 1 ++ leBytes 2 n ++ leBytes 2 count ++ [0, 0] ++ leBytes 8 d.sys.serial ++ leBytes 8 dst ++ leBytes 4 keyId
    ++ leBytes 4 bodyLen ++ leBytes 8 (now d) ++ fit nonce 12 ++ leBytes 4 (fwVersions d)

/-- `SLICE_SAVE` (R319). -/
def sliceSaveCmd (r : Req) (c : Cx) : BRes :=
  let n := r.q.scope
  let secs := sections c.d n
  let body := (secs.map (fun e => section8 e.1 e.2)).flatten
  let size := 64 + body.length + 16
  behind [aSlice r, len r 4, inState c n [.frozen], ((sliceOf c.d n).per.migratable, .policy)] c (
    match migOf c.d .outgoing (r.f 0 4) none with
    | none => .fail .policy c []
    | some (k, e) => behind [outCap r size] c (withRandom c (
      let nonce := drawBytes 12 c.d
      let head := ferryHeader c.d n secs.length body.length e.partner e.keyId nonce
      let image := head ++ beBytes (body.length + 16) (Config.sealed e.key nonce head body)
      .done { c with d := raise 0x4009 n e.keyId size (delMig k (modSlice n (fun s => { s with saved := true }) (cpDraw 12 c.d))) }
        (leBytes 4 size) image)))

/-! ## Reading -/

/-- Sections of a body, in ascending type, well formed and padded with zeros (R318); `fuel` bounds their number. -/
def parseSections : Nat → Nat → List Byte → Option (List (Nat × List Byte))
  | _, _, [] => some []
  | 0, _, _ => none
  | fuel + 1, last, l =>
    let ty := leAt l 0 2
    let n := leAt l 4 4
    let total := 8 + (n + 7) / 8 * 8
    if ty ≤ last ∨ 8 < ty ∨ leAt l 2 2 ≠ 0 ∨ l.length < total ∨ ¬zeroFrom l (8 + n) total then none
    else (parseSections fuel ty (l.drop total)).map (fun t => (ty, slice8 l 8 n) :: t)

/-- A slot as carried, checked against what the key chapter accepts: it resumes counting from the end carried (R114, R318). -/
def parseSlot (b : List Byte) : Option Slot :=
  let version := leAt b 8 4
  match leAt b 0 1 with
  | 0 => if zeroFrom b 1 8 ∧ zeroFrom b 12 96 then some { version } else none
  | 3 => if zeroFrom b 1 8 ∧ zeroFrom b 12 96 then some { st := .damaged, version } else none
  | st =>
    match usageOf (b.getD 1 0) (b.getD 2 0), algOf (b.getD 3 0), modeOf (b.getD 4 0), expoOf (b.getD 7 0) with
    | some u, some a, some m, some e =>
      let fl := leAt b 26 1
      let opt := fun (i : Nat) (v : List Byte) => if bitAt fl i then some v else none
      let attr : Attr := { usage := u, alg := a, mode := m, kvn := slice8 b 5 2, expo := e
                           ceil9C := if bitAt fl 0 then some (leAt b 27 6) else none
                           hm := if bitAt fl 1 then some (leAt b 33 1) else none
                           ik := opt 2 (slice8 b 34 8), ks := opt 3 (slice8 b 42 5) }
      let n := leAt b 47 1
      let resEnd := leAt b 12 7
      let ceiling := leAt b 19 7
      if st ≤ 2 ∧ fl < 16 ∧ comboOk u a m ∧ !asymmetric a ∧ bitsOk a (8 * n) ∧ n ≤ 32 ∧ zeroFrom b (48 + n) 96
          ∧ ceiling = (if symmetric a then ceilingOf attr else 0) ∧ resEnd ≤ ceiling then
        some { st := if st = 1 then .live else .exhausted, version, key := { attr, bytes := slice8 b 48 n }, ceiling, resEnd }
      else none
    | _, _, _, _ => none

/-- Officers of a section, in ascending index. -/
def parseOfficers : Nat → List Byte → Option (List Officer)
  | 0, l => if l.isEmpty then some [] else none
  | n + 1, l =>
    let k := leAt l 2 2
    let alg := leAt l 1 1
    if l.length < 4 + k ∨ 7 < leAt l 0 1 ∨ ¬((alg = 1 ∧ k = 97) ∨ (alg = 2 ∧ k = 1952)) then none
    else (parseOfficers n (l.drop (4 + k))).map (fun t => { index := leAt l 0 1, alg, key := slice8 l 4 k } :: t)

/-- Indexes strictly rise. -/
def rising : List Nat → Bool
  | a :: b :: l => decide (a < b) && rising (b :: l)
  | _ => true

def parseOfficerSet (l : List Byte) : Option OfficerSet :=
  if l.isEmpty then some {} else
  match parseOfficers (leAt l 1 1) (l.drop 8) with
  | some ms =>
    let k := leAt l 0 1
    if zeroFrom l 2 8 ∧ 2 ≤ k ∧ k ≤ ms.length ∧ ms.length ≤ 8 ∧ rising (ms.map (·.index)) then some { k, members := ms } else none
  | none => none

/-- Loaded curves of a section; `fuel` bounds their number. -/
def parseCurves : Nat → List Byte → Option (List (Nat × Curve))
  | _, [] => some []
  | 0, _ => none
  | fuel + 1, l =>
    let n := leAt l 1 1
    let size := 2 + 6 * n + 8
    if 3 < leAt l 0 1 ∨ n < 32 ∨ 66 < n ∨ l.length < size then none
    else (parseCurves fuel (l.drop size)).map (fun t => (leAt l 0 1, { len := n, params := slice8 l 2 (6 * n), tag := slice8 l (2 + 6 * n) 8 }) :: t)

/-- Zero bytes as an absent value, any other number of bytes as one. -/
def someIf (l : List Byte) : Option (List Byte) := if l.isEmpty then none else some l

/-- A slice's persistent part as an image carries it, checked against R300, R302 and the key chapters (R320 step 4), with the number of
flow contexts carried. -/
def parseImage (pasid count : Nat) (body : List Byte) : Option (SliceRec × Nat) :=
  match parseSections 8 0 body with
  | none => none
  | some secs =>
    let get := fun (ty : Nat) => ((secs.find? (fun e => e.1 == ty)).map (·.2)).getD []
    let a := get 1
    let rg := get 2
    let lm := get 4
    let sl := get 5
    let kd := get 8
    let fl := leAt a 12 4
    let rings : List RingCfg := (List.range 8).map (fun k =>
      { log2 := leAt rg (24 * k) 8, sqBase := leAt rg (24 * k + 8) 8, cqBase := leAt rg (24 * k + 16) 8 })
    let lmk : List LmkSet := (List.range 4).map (fun g =>
      let s := leAt lm (64 * g) 1
      { aes := if bitAt s 0 then some (slice8 lm (64 * g + 8) 32) else none
        tdes := if bitAt s 1 then some (slice8 lm (64 * g + 40) 24) else none
        damaged := bitAt s 3 })
    let slots := (List.range 64).map (fun k => (k, parseSlot (slice8 sl (96 * k) 96)))
    match parseOfficerSet (get 6), parseCurves 4 (get 7) with
    | some officers, some curves =>
      let p : SliceRec := {
        pasid, flowQuota := leAt a 0 2, inflight := leAt a 2 2, cacheGuar := leAt a 4 4, cacheCeil := leAt a 8 4
        migratable := bitAt fl 0, noGuar := bitAt fl 1, urgentOk := bitAt fl 2, policy := leAt a 16 4
        rings, officers, lmk, lmkActive := (List.range 4).find? (fun g => bitAt (leAt lm (64 * g) 1) 2)
        slots := (slots.filterMap (fun e => e.2.map (fun s => (e.1, s)))).filter (fun e => e.2 != {})
        curves, krd := someIf (slice8 kd 4 (leAt kd 0 2)), anchor := someIf (slice8 kd (4 + leAt kd 0 2) (leAt kd 2 2)) }
      if secs.length = count ∧ a.length = 32 ∧ rg.length = 192 ∧ lm.length = 256 ∧ sl.length = 6144 ∧ (get 3).length % 8 = 0
          ∧ fl < 8 ∧ zeroFrom a 20 32 ∧ 1 ≤ p.flowQuota ∧ p.flowQuota ≤ 4096 ∧ 16 ≤ p.inflight ∧ p.inflight ≤ 4096
          ∧ p.cacheGuar ≤ 4096 ∧ 16 ≤ p.cacheCeil ∧ p.cacheCeil ≤ 131072 ∧ p.cacheGuar ≤ p.cacheCeil
          ∧ (p.noGuar = decide (p.cacheGuar = 0)) ∧ p.policy < 8
          ∧ rings.all (fun x => x.sqBase % 4096 == 0 && x.cqBase % 4096 == 0 && (x.log2 == 0 || (decide (6 ≤ x.log2) && decide (x.log2 ≤ 16))))
          ∧ slots.all (fun e => e.2.isSome) ∧ rising (curves.map (·.1))
          ∧ (get 8 = [] ∨ kd.length = 4 + leAt kd 0 2 + leAt kd 2 2) then some (p, (get 3).length / 8) else none
    | _, _ => none

/-- The image within the input of `SLICE_RESTORE`: lengths consistent (R320 step 1). -/
def imageFormOk (r : MReq) : Bool :=
  decide (84 ≤ r.inp.length) && decide (r.inp.length ≤ 4 + 65536) && slice8 r.inp 4 8 == ferryMagic && r.f 12 2 == 1
    && r.f 18 2 == 0 && decide (4 ≤ r.f 16 2) && decide (r.f 16 2 ≤ 8) && r.inp.length == 4 + 64 + r.f 40 4 + 16

/-- `SLICE_RESTORE` (R320). The body's plaintext and the verdict of its tag come with the command. -/
def sliceRestoreEff (body0 : List Byte) (tagOk : Bool) (r : MReq) (c : Cx) : Eff :=
  let n := r.scope
  let pasid := r.f 0 4
  let body := fit body0 (r.f 40 4)
  let key := migOf c.d .incoming (r.f 36 4) (some (r.f 20 8))
  let img := parseImage pasid (r.f 16 2) body
  let (p, flows) := img.getD ({}, 0)
  eff r [mSlice r, (imageFormOk r, .format), (r.force || (r.f 28 8 == c.d.sys.serial && key.isSome), .policy), (tagOk, .tagMismatch),
      (img.isSome, .format), (pasidOk pasid && !pasidTaken c.d n pasid, .policy),
      (decide (flows ≤ p.flowQuota) && decide (flowTotal c.d n + p.flowQuota ≤ 65536), .flowLimit),
      (decide (guarTotal c.d n + p.cacheGuar ≤ 65536), .cacheQuota), mState r c [.free]] c
    (c.mod (fun d =>
      let d1 := match if r.force then none else key with
        | some (k, _) => delMig k d
        | none => d
      raise 0x400A n (r.f 36 4) (r.f 14 2) (newSlice n p d1)), [], [])

end Sys2Proof.Machine
end

