-- ==== Sys2Proof/Machine/KeyCmds.lean ====
section
/-! DEFINITION. The key-management opcodes (R130 to R136, R472).
Marks: assumptions 44 and 45 (DEDUCED). -/

namespace Sys2Proof.Machine

/-- The fixed result of R134. -/
def keyResult (handle version : Nat) (cv : List Byte × Nat) : List Byte :=
  fit (leBytes 8 handle ++ leBytes 4 version ++ cv.1 ++ [byteOf cv.2]) 32

/-- The active generation and its AES LMK (R105, R135). -/
def activeLmk (s : SliceRec) : Option (Nat × List Byte) :=
  match s.lmkActive with
  | none => none
  | some g => match s.lmk[g]? with
    | some l => if l.damaged then none else l.aes.map (fun k => (g, k))
    | none => none

def getActiveLmk (c : Ctx) : M (Nat × List Byte) := do
  let d ← get
  orFail (activeLmk (sliceOf d c.i.slice).per) .keyLmk

/-- Strength of a key under the curves of the item's slice (R131). -/
def strengthOf (d : Dev) (slice : Nat) (k : Key) : Nat := strength (orderOf (sliceOf d slice).per) k

/-- R131: the wrapped key is no stronger than its KEK, and none asymmetric goes under a TDES KEK. -/
def wrapAllowed (d : Dev) (slice : Nat) (k kek : Key) : Bool :=
  !(asymmetric k.attr.alg && kek.attr.alg == .T) && decide (strengthOf d slice k ≤ strengthOf d slice kek)

/-- A KEK to unwrap, or to wrap (R131); its algorithm is held against the version of the block. -/
def kekDemand (wrap : Bool) : Demand :=
  needs (fun a => (a.usage == .K0 || a.usage == .K1) && symmetric a.alg && (a.mode == .B || a.mode == if wrap then .E else .D))

/-- What a slot can hold (R113). -/
def slotFits (k : Key) : Bool := !asymmetric k.attr.alg && decide (k.bytes.length ≤ 32)

/-- Delivery to `DEST` (R133, R134, R472 steps 8 to 10): `before` and `after` are output beside the LMK block. -/
def deliverKey (c : Ctx) (dest slot : Nat) (ow : Bool) (meth : Nat) (k : Key) (before after : List Byte) : M (Res × After) := do
  chk (!weakTdes k.attr.alg k.bytes) .keyDamaged
  if dest = 0 then
    let (g, lmk) ← getActiveLmk c
    let pad ← random (padLen false k.bytes.length)
    let out := before ++ writeBlock false lmk (some g) k pad ++ after
    chk (outLenOk c out.length) .length
    pure ({ status := .ok, out, fixed := keyResult 0 0 (kcv meth k) }, .nothing)
  else
    let out := before ++ after
    chk (outLenOk c out.length) .length
    if dest = 1 then
      pure ({ status := .ok, out, fixed := keyResult (c.i.slice * 2 ^ 48 + slot) 0 (kcv meth k) },
        .step (.slotWrite slot k (ceilingOf k.attr) ow))
    else pure ({ status := .ok, out, fixed := keyResult 0 0 (kcv meth k) }, .handle k)

/-- Slice policy bit `SLOT_WRITE` (R115, R289). -/
def slotWritePolicy (c : Ctx) (dest : Nat) : M Unit := do
  let d ← get
  chk (decide (dest ≠ 1) || bitAt (sliceOf d c.i.slice).per.policy 0) .policy

/-- `DEST`, `SLOT`, `KFLAGS` and `KCV_METHOD` of an opcode that delivers a key (R132). -/
def destOk (c : Ctx) (flags : Nat) : Bool :=
  decide (c.p 0x38 1 ≤ 2) && (c.p 0x38 1 == 1 || c.p 0x39 1 == 0) && decide (c.p 0x3A 1 < flags) && decide (c.p 0x3B 1 ≤ 1)

def slotOk (c : Ctx) : M Unit := chk (decide (c.p 0x39 1 < 64)) .keyAccess

/-- The subject block of `KEY_IMPORT` and `KEY_TRANSLATE` by `BLOCK_OFF` and `BLOCK_LEN` (R112 step 1, R132). -/
def subject (c : Ctx) (inp : List Byte) : M (List Byte) := do
  let text ← liftS (blockExtent inp (c.p 0x3C 4))
  chk (text.length == c.p 0x40 4) .length
  pure text

/-- `KEY_IMPORT` (R133). -/
def keyImport (c : Ctx) : M Act := do
  let dest := c.p 0x38 1
  chk (fmtOk c 12 1 true && destOk c 2) .format
  slotOk c
  chk (inLenOk c 12 20480 && (dest == 0 || outLenOk c 0)) .length
  slotWritePolicy c dest
  let inp := c.input 12
  let kek ← lookupAt c 0 (dKeyA c.i.desc) inp allKinds (kekDemand false)
  let text ← subject c inp
  let b ← liftS (parseBlock text)
  chk (kek.key.attr.alg == if b.hdr.tdesForm then .T else .A) .keyUsage
  chk (decide (dest ≠ 1) || !asymmetric b.hdr.attr.alg) .keyUsage
  chk (!(asymmetric b.hdr.attr.alg && kek.key.attr.alg == .T)) .keyStrength
  if dest = 0 then let _ ← getActiveLmk c
  let _ ← drawCounts c [(kek, wrapCounts b.hdr.tdesForm b.hdr.len b.data.length)]
  let k ← liftS (unwrapBlock kek.key.bytes b)
  let d ← get
  chk (wrapAllowed d c.i.slice k kek.key) .keyStrength
  chk (decide (dest ≠ 1) || slotFits k) .keyUsage
  let (r, a) ← deliverKey c dest (c.p 0x39 1) (bitAt (c.p 0x3A 1) 0) (c.p 0x3B 1) k [] []
  pure (.done r a)

/-- An exchange block under a KEK: version D for an AES KEK, B for a TDES KEK (R133, R135). -/
def exchangeBlock (kek : Key) (k : Key) (pad : List Byte) : List Byte :=
  writeBlock (kek.attr.alg == .T) kek.bytes none k pad

/-- Counts a wrap under a KEK draws (R117). -/
def exchangeCounts (kek : Key) (k : Key) : Nat :=
  let v := kek.attr.alg == .T
  wrapCounts v (headerText v k.attr none k.bytes.length).length (dataLen (verSize v) k.bytes.length)

/-- `KEY_EXPORT` (R133). -/
def keyExport (c : Ctx) : M Act := do
  chk (fmtOk c 0 2 false) .format
  chk (inLenOk c 0 20480 && !dInlineOut c.i.desc) .length
  let inp := c.input 0
  let k ← lookupAt c 0 (dKeyA c.i.desc) inp allKinds (fun a => if a.expo = .E then none else some .keyExport)
  let kek ← lookupAt c 1 (dKeyB c.i.desc) inp allKinds (kekDemand true)
  let d ← get
  chk (wrapAllowed d c.i.slice k.key kek.key) .keyStrength
  let _ ← drawCounts c [({ k with slot := none }, 0), (kek, exchangeCounts kek.key k.key)]
  let pad ← random (padLen (kek.key.attr.alg == .T) k.key.bytes.length)
  let out := exchangeBlock kek.key k.key pad
  chk (outLenOk c out.length) .length
  pure (.done { status := .ok, out } .nothing)

/-- A header template at the start of an input: its attributes, with its length in characters (R132). -/
def template (combo : Bool) (inp : List Byte) (lim : Nat) : M Header := do
  chk (decide (16 ≤ lim)) .length
  let h ← orFail (parseHeader combo inp lim (ascii [0x30, 0x30, 0x30, 0x30])) .keyBlockFormat
  chk h.gen.isNone .keyBlockFormat
  pure h

/-- `KEY_GENERATE` (R133). -/
def keyGenerate (c : Ctx) : M Act := do
  let dest := c.p 0x38 1
  let flags := c.p 0x3A 1
  let exp := bitAt flags 1
  let n := c.p 0x3C 2
  chk (fmtOk c 6 2 true && dKeyA c.i.desc == 0 && (exp || dKeyB c.i.desc == 0) && destOk c 4 && (!exp || dest == 0)) .format
  slotOk c
  chk (inLenOk c 6 20480 && (dest == 0 || outLenOk c 0)) .length
  slotWritePolicy c dest
  let inp := c.input 6
  let kek : Copy ← if exp then lookupAt c 0 (dKeyB c.i.desc) inp allKinds (kekDemand true) else pure { key := {} }
  let h ← template true inp inp.length
  chk (!asymmetric h.attr.alg) .keyUsage
  chk (bitsOk h.attr.alg n) .format
  chk (!exp || h.attr.expo == .E) .keyExport
  let proto : Key := { attr := h.attr, bytes := List.replicate (n / 8) 0 }
  chk (decide (dest ≠ 1) || slotFits proto) .keyUsage
  let d ← get
  chk (!exp || wrapAllowed d c.i.slice proto kek.key) .keyStrength
  if dest = 0 then let _ ← getActiveLmk c
  if exp then let _ ← drawCounts c [(kek, exchangeCounts kek.key proto)]
  let k : Key := { proto with bytes := ← random (n / 8) }
  let post ← if exp then
      do let pad ← random (padLen (kek.key.attr.alg == .T) k.bytes.length)
         pure (exchangeBlock kek.key k pad)
    else pure []
  let (r, a) ← deliverKey c dest (c.p 0x39 1) (bitAt flags 0) (c.p 0x3B 1) k [] post
  pure (.done r a)

/-- `KEY_CHECK_VALUE` (R133); it draws nothing and works on an exhausted slot (R117, R119). -/
def keyCheckValue (c : Ctx) : M Act := do
  chk (fmtOk c 4 1 true && c.p 0x38 3 == 0 && decide (c.p 0x3B 1 ≤ 1)) .format
  chk (inLenOk c 4 20480 && outLenOk c 0) .length
  let k ← lookup c (dKeyA c.i.desc) (c.input 4) allKinds (needs (fun a => symmetric a.alg))
  pure (.done { status := .ok, fixed := keyResult 0 0 (kcv (c.p 0x3B 1) k.key) } .nothing)

/-- `KEY_STORE` (R133). -/
def keyStore (c : Ctx) : M Act := do
  chk (fmtOk c 4 1 true && c.p 0x38 1 == 0 && decide (c.p 0x3A 1 < 2) && decide (c.p 0x3B 1 ≤ 1)) .format
  slotOk c
  chk (inLenOk c 4 20480 && outLenOk c 0) .length
  slotWritePolicy c 1
  let k ← lookup c (dKeyA c.i.desc) (c.input 4) [1, 2] (needs (fun a => !asymmetric a.alg))
  chk (slotFits k.key) .keyUsage
  pure (.done { status := .ok, fixed := keyResult 0 0 (kcv (c.p 0x3B 1) k.key) }
    (.step (.slotWrite (c.p 0x39 1) k.key (ceilingOf k.key.attr) (bitAt (c.p 0x3A 1) 0))))

/-- `KEY_DELETE` (R133). -/
def keyDelete (c : Ctx) : M Act := do
  chk (fmtOk c 2 0 true && c.p 0x38 1 == 0) .format
  slotOk c
  chk (inLenOk c 2 128 && outLenOk c 0) .length
  slotWritePolicy c 1
  pure (.done { status := .ok, fixed := List.replicate 32 0 } (.step (.slotDelete (c.p 0x39 1))))

/-- Blocks of the base key that the KDF of `KEY_DERIVE` processes (R117, R132). -/
def kdfCounts (label ctx n : Nat) : Nat := (n + 127) / 128 * ((9 + label + ctx + 15) / 16)

/-- `KEY_DERIVE` (R132). -/
def keyDerive (c : Ctx) : M Act := do
  let dest := c.p 0x38 1
  let ll := c.p 0x3C 2
  let cl := c.p 0x3E 2
  let n := c.p 0x40 2
  chk (fmtOk c 10 1 true && destOk c 2 && decide (ll ≤ 64) && decide (cl ≤ 256)) .format
  slotOk c
  chk (inLenOk c 10 20480 && (dest == 0 || outLenOk c 0)) .length
  slotWritePolicy c dest
  let inp := c.input 10
  let base ← lookupAt c 0 (dKeyA c.i.desc) inp allKinds (needs (fun a => a.mode == .X && a.alg == .A))
  let h ← template true inp inp.length
  chk (decide (h.len + ll + cl ≤ inp.length)) .length
  chk (!asymmetric h.attr.alg) .keyUsage
  chk (bitsOk h.attr.alg n) .format
  let proto : Key := { attr := h.attr, bytes := List.replicate (n / 8) 0 }
  chk (decide (dest ≠ 1) || slotFits proto) .keyUsage
  let d ← get
  chk (decide (strengthOf d c.i.slice proto ≤ strengthOf d c.i.slice base.key)) .keyStrength
  if dest = 0 then let _ ← getActiveLmk c
  let _ ← drawCounts c [(base, kdfCounts ll cl n)]
  let k : Key := { proto with bytes := cmacKdf base.key.bytes (slice8 inp h.len ll) (slice8 inp (h.len + ll) cl) (n / 8) }
  let (r, a) ← deliverKey c dest (c.p 0x39 1) (bitAt (c.p 0x3A 1) 0) (c.p 0x3B 1) k [] []
  pure (.done r a)

/-- `KEY_TRANSLATE` (R133). -/
def keyTranslate (c : Ctx) : M Act := do
  let h := dKeyA c.i.desc
  chk (fmtOk c 12 1 false && c.p 0x38 4 == 0 && c.p 0x3C 4 == hIndex h) .format
  chk (inLenOk c 12 20480 && !dInlineOut c.i.desc) .length
  let inp := c.input 12
  chk (decide (hKind h ≤ 2)) .format
  chk (hSlice h == c.i.slice && (decide (hKind h ≠ 0) || decide (hIndex h < 64))) .keyAccess
  if hKind h = 1 then let _ ← subject c inp
  let k ← lookup c h inp [1] anyKey
  let (g, lmk) ← getActiveLmk c
  let pad ← random (padLen false k.key.bytes.length)
  let out := writeBlock false lmk (some g) k.key pad
  chk (outLenOk c out.length) .length
  pure (.done { status := .ok, out } .nothing)

/-- `KEY_LOAD_EPHEMERAL` (R133). -/
def keyLoadEphemeral (c : Ctx) : M Act := do
  chk (fmtOk c 0 1 true) .format
  chk (inLenOk c 0 20480 && outLenOk c 0) .length
  let k ← lookup c (dKeyA c.i.desc) (c.input 0) [1] anyKey
  pure (.done { status := .ok, fixed := List.replicate 32 0 } (.handle k.key))

/-- `KEY_RELEASE` (R127, R128, R133): a damaged handle is freed too. -/
def keyRelease (c : Ctx) : M Act := do
  let h := dKeyA c.i.desc
  chk (fmtOk c 0 1 false) .format
  chk (inLenOk c 0 128 && outLenOk c 0) .length
  chk (decide (hKind h ≤ 2)) .format
  chk (hSlice h == c.i.slice && (decide (hKind h ≠ 0) || decide (hIndex h < 64))) .keyAccess
  let d ← get
  if hKind h ≠ 2 then failWith .format
  else match cached d c.i.slice (fun e => e == .eph (hIndex h)) with
    | none => failWith .keyAccess
    | some (id, _) =>
      set (dropEntry id d)
      pure (.done { status := .ok } .nothing)

/-- The fixed result of `KEY_SLOT_INFO` (R134). -/
def slotInfo (s : Slot) : List Byte :=
  let a := s.key.attr
  let st := match s.st with
    | .empty => 0
    | .live => 1
    | .exhausted => 2
    | .damaged => 3
  if s.st = .empty ∨ s.st = .damaged then fit (leBytes 4 s.version ++ [byteOf st]) 32 else
  let u := usageChars a.usage
  leBytes 4 s.version ++ [byteOf (st + bitOf (!symmetric a.alg) 2)]
    ++ ascii [algChar a.alg, u.1, u.2, modeChar a.mode, expoChar a.expo]
    ++ leBytes 2 (8 * s.key.bytes.length) ++ (kcv (if a.alg = .T then 0 else 1) s.key).1 ++ [0]
    ++ leBytes 6 s.resEnd ++ leBytes 6 (s.ceiling % 2 ^ 48) ++ [0, 0]

/-- `KEY_SLOT_INFO` (R134). -/
def keySlotInfo (c : Ctx) : M Act := do
  chk (fmtOk c 2 0 true && c.p 0x38 1 == 0) .format
  slotOk c
  chk (inLenOk c 2 128 && outLenOk c 0) .length
  let d ← get
  pure (.done { status := .ok, fixed := slotInfo (slotOf (sliceOf d c.i.slice) (c.p 0x39 1)) } .nothing)

def execKeyImport (r : Run) (s : State) : Ans := runTx 0x0101 r keyImport s
def execKeyExport (r : Run) (s : State) : Ans := runTx 0x0102 r keyExport s
def execKeyGenerate (r : Run) (s : State) : Ans := runTx 0x0103 r keyGenerate s
def execKeyCheckValue (r : Run) (s : State) : Ans := runTx 0x0104 r keyCheckValue s
def execKeyStore (r : Run) (s : State) : Ans := runTx 0x0105 r keyStore s
def execKeyDelete (r : Run) (s : State) : Ans := runTx 0x0106 r keyDelete s
def execKeyDerive (r : Run) (s : State) : Ans := runTx 0x0107 r keyDerive s
def execKeyTranslate (r : Run) (s : State) : Ans := runTx 0x0108 r keyTranslate s
def execKeyLoadEphemeral (r : Run) (s : State) : Ans := runTx 0x0109 r keyLoadEphemeral s
def execKeyRelease (r : Run) (s : State) : Ans := runTx 0x010A r keyRelease s
def execKeySlotInfo (r : Run) (s : State) : Ans := runTx 0x010B r keySlotInfo s

end Sys2Proof.Machine
end

