-- ==== Sys2Proof/Machine/MgmtKey.lean ====
section
/-! DEFINITION. Officers, LMKs, TR-34, curves and slots through the mailboxes (R216, R273, R274, R279 to R281, R290 to R296).
Marks: assumptions 11, 78 to 82, 85. -/

namespace Sys2Proof.Machine

/-! ## Officers -/

/-- A command on an authority's set: a slice's is refused while it is FREE or FROZEN (R307). -/
def mSetState (r : MReq) (c : Cx) : Bool × Status := if r.scope = 0xFFFF then (true, .sliceState) else mState r c unfrozen

/-- `SCOPE` names a slice or the device. -/
def mAuth (r : MReq) : Bool × Status := (decide (r.scope < 4096) || r.scope == 0xFFFF, .format)

/-- Officers of an enrolment, `n` entries up to index `top` (R279). -/
def parseEntries (top : Nat) : Nat → List Byte → Option (List Officer)
  | 0, l => if l.isEmpty then some [] else none
  | n + 1, l =>
    let k := leAt l 2 2
    let alg := leAt l 1 1
    if l.length < 4 + k ∨ top < leAt l 0 1 ∨ ¬((alg = 1 ∧ k = 97) ∨ (alg = 2 ∧ k = 1952)) then none
    else (parseEntries top n (l.drop (4 + k))).map (fun t => { index := leAt l 0 1, alg, key := slice8 l 4 k } :: t)

/-- Puts an Officer in its place by index. -/
def insertOfficer (o : Officer) : List Officer → List Officer
  | [] => [o]
  | x :: l => if o.index < x.index then o :: x :: l else x :: insertOfficer o l

/-- The new n, then k (R279). -/
def setBody (o : OfficerSet) : List Byte := [byteOf o.members.length, byteOf o.k]

/-- The status of the first key that fails its checks (R273). -/
def keyStatus (v : List KeyVerdict) : Option Status :=
  (v.find? (· != .good)).map (fun x => if x = .badPoint then .pkPoint else .format)

/-- `OFFICER_ENROLL` (R279). -/
def officerEnrollEff (v : List KeyVerdict) (r : MReq) (c : Cx) : Eff :=
  let o := officersOf c.d r.scope
  let most := if r.scope = 0xFFFF then 16 else 8
  let n := r.f 0 1
  let es := (parseEntries (most - 1) n (r.inp.drop 4)).getD []
  let keys := keyStatus (v.take n)
  let o1 : OfficerSet := { k := orDefault (r.f 1 1) o.k, members := es.foldl (fun l e => insertOfficer e l) o.members }
  eff r [mAuth r, (decide (4 ≤ r.inp.length) && zeroFrom r.inp 2 4 && decide (1 ≤ n) && decide (n ≤ most)
        && (parseEntries (most - 1) n (r.inp.drop 4)).isSome && rising (es.map (·.index)), .format),
      (keys.isNone, keys.getD .format), mSetState r c,
      (es.all (fun e => o.members.all (fun x => x.index != e.index)), .keyOccupied),
      (decide (2 ≤ o1.members.length) && decide (2 ≤ o1.k) && decide (o1.k ≤ o1.members.length)
        && (!o.members.isEmpty || r.f 1 1 != 0), .policy)] c
    (c.mod (setOfficers r.scope o1), setBody o1, [])

/-- `OFFICER_REMOVE` (R280): every session of a removed Officer ends. -/
def officerRemoveEff (r : MReq) (c : Cx) : Eff :=
  let o := officersOf c.d r.scope
  let m := r.f 0 2
  let o1 : OfficerSet := { o with members := o.members.filter (fun x => !bitAt m x.index) }
  eff r [mAuth r, mlen r 4, mrsv r 2 4,
      ((List.range 16).all (fun i => !bitAt m i || o.members.any (fun x => x.index == i)), .format), mSetState r c,
      (decide (2 ≤ o1.members.length) && decide (o.k ≤ o1.members.length), .policy)] c
    (c.mod (fun d => endSessionsOf r.scope (bitAt m) (setOfficers r.scope o1 d)), setBody o1, [])

/-- `QUORUM_SET` (R280). -/
def quorumSetEff (r : MReq) (c : Cx) : Eff :=
  let o := officersOf c.d r.scope
  let o1 : OfficerSet := { o with k := r.f 0 1 }
  eff r [mAuth r, mlen r 4, mrsv r 1 4, mSetState r c, (decide (2 ≤ o1.k) && decide (o1.k ≤ o.members.length), .policy)] c
    (c.mod (setOfficers r.scope o1), setBody o1, [])

/-- `OFFICER_LIST` (R281). -/
def officerListCmd (r : Req) (c : Cx) : BRes :=
  let o := officersOf c.d r.q.scope
  behind [(decide (r.q.scope < 4096) || r.q.scope == 0xFFFF, .format), len r 0] c
    (.done c (setBody o ++ [0, 0] ++ (o.members.map (fun x =>
      [byteOf x.index, byteOf x.alg] ++ leBytes 2 x.key.length ++ sha384 x.key)).flatten) [])

/-! ## LMKs -/

def lmkOf (p : SliceRec) (g : Nat) : LmkSet := p.lmk.getD g {}

def setLmk (g : Nat) (x : LmkSet) (p : SliceRec) : SliceRec := { p with lmk := (List.range 4).map (fun i => if i = g then x else lmkOf p i) }

/-- One part of a generation: 0 AES, 1 TDES (R290). -/
def lmkPart (x : LmkSet) (part : Nat) : Option (List Byte) := if part = 0 then x.aes else x.tdes

/-- Occupancy and generation rules of R290. -/
def lmkRoom (p : SliceRec) (g part : Nat) : List (Bool × Status) :=
  [((lmkPart (lmkOf p g) part).isNone, .keyOccupied), (part == 0 || (lmkOf p g).aes.isSome, .keyLmk)]

/-- Loads a part; the first AES part of a slice without an active generation becomes active (R291, R293). -/
def loadPart (g part : Nat) (k : List Byte) (p : SliceRec) : SliceRec :=
  let x := lmkOf p g
  if part = 0 then { setLmk g { x with aes := some k } p with lmkActive := p.lmkActive.orElse (fun _ => some g) }
  else setLmk g { x with tdes := some k } p

/-- Check value of a part by CMAC (R290). -/
def lmkCheck (part : Nat) (k : List Byte) : List Byte :=
  ((cmac (if part = 0 then aes k else tdes k) (List.replicate (if part = 0 then 16 else 8) 0)).take 5)

/-- Bytes of a part. -/
def lmkLen (part : Nat) : Nat := if part = 0 then 32 else 24

/-- Components staged for a part. -/
def stagedFor (s : Slice) (g part : Nat) : List Staged := s.staged.filter (fun x => x.gen == g && x.part == part)

/-- Discards the components staged for a part. -/
def discardStaged (n g part : Nat) (d : Dev) : Dev :=
  modSlice n (fun s => { s with staged := s.staged.filter (fun x => x.gen != g || x.part != part) }) d

/-- `LMK_COMPONENT_LOAD` (R290). -/
def lmkComponentCmd (r : Req) (c : Cx) : BRes :=
  let n := r.q.scope
  let g := r.f 0 1
  let part := r.f 1 1
  let s0 := sliceOf c.d n
  let s := if bitAt (r.f 2 1) 0 then { s0 with staged := s0.staged.filter (fun x => x.gen != g || x.part != part) } else s0
  let b := slice8 r.inp 4 (lmkLen part)
  behind ([aSlice r, len r 36, (decide (g < 4) && decide (part < 2) && decide (r.f 2 1 < 2) && zeroFrom r.inp 3 4
        && (part == 0 || zeroFrom r.inp 28 36), .format), (s0.state != .free, .sliceState)]
      ++ lmkRoom s.per g part
      ++ [((stagedFor s g part).all (fun x => x.officer != r.officer) && decide (s.staged.length < 8), .policy)]) c
    (.done (c.mod (modSlice n (fun _ => { s with staged := s.staged ++ [{ gen := g, part, officer := r.officer, bytes := b }] })))
      ([byteOf ((stagedFor s g part).length + 1)] ++ lmkCheck part b ++ [byteOf r.officer]) [])

/-- The exclusive-OR of staged components (R291). -/
def combine (part : Nat) (l : List Staged) : List Byte := l.foldl (fun a x => xorB a x.bytes) (List.replicate (lmkLen part) 0)

/-- `LMK_COMMIT` (R291): the LMK comes in `data`; the staging of its part is discarded whether the commit succeeds or fails. -/
def lmkCommitEff (r : MReq) (c : Cx) : Eff :=
  let n := r.scope
  let g := r.f 0 1
  let part := r.f 1 1
  let k := r.data
  let staged := (stagedFor (sliceOf c.d n) g part).length
  match eff r [mSlice r, mlen r 9, (decide (g < 4) && decide (part < 2) && zeroFrom r.inp 3 4, .format), mState r c unfrozen,
      (r.force || (decide (2 ≤ staged) && staged == r.f 2 1), .policy),
      ((zeroFrom r.inp 4 9 || slice8 r.inp 4 5 == lmkCheck part k) && (part == 0 || k.take 8 != (k.drop 8).take 8), .keyDamaged)] c
      (c.mod (fun d => discardStaged n g part (modPer n (loadPart g part k) d)), lmkCheck part k, []) with
  | .error (st, c1) => .error (st, c1.mod (discardStaged n g part))
  | .ok x => .ok x

/-- `LMK_ACTIVATE` (R292). -/
def lmkActivateEff (r : MReq) (c : Cx) : Eff :=
  let g := r.f 0 1
  eff r [mSlice r, mlen r 1, (decide (g < 4), .format), mState r c unfrozen,
      ((lmkOf (sliceOf c.d r.scope).per g).aes.isSome, .keyLmk)] c
    (c.mod (modPer r.scope (fun p => { p with lmkActive := some g })), [], [])

/-- Cache entries unwrapped under a generation go (R107). -/
def dropGeneration (n g : Nat) (d : Dev) : Dev :=
  ((d.keys.cache.filter (fun e => e.2.slice == n && (match e.2.src with
    | .block k _ | .lmk k _ => k == g
    | _ => false))).map (·.1)).foldl (fun d id => dropEntry id d) d

/-- `LMK_REMOVE` (R292). -/
def lmkRemoveEff (r : MReq) (c : Cx) : Eff :=
  let g := r.f 0 1
  eff r [mSlice r, mlen r 1, (decide (g < 4), .format), mState r c unfrozen,
      ((sliceOf c.d r.scope).per.lmkActive != some g, .policy)] c
    (c.mod (fun d => dropGeneration r.scope g (modPer r.scope (setLmk g {}) d)), [], [])

/-- `LMK_INFO` (R292). -/
def lmkInfoCmd (r : Req) (c : Cx) : BRes :=
  let s := sliceOf c.d r.q.scope
  let one := fun (g : Nat) =>
    let x := lmkOf s.per g
    let cv := fun (part : Nat) => (match lmkPart x part with
      | some k => lmkCheck part k
      | none => List.replicate 5 0)
    [byteOf (bitOf x.aes.isSome 0 + bitOf x.tdes.isSome 1 + bitOf (s.per.lmkActive == some g) 2 + bitOf (s.staged.any (·.gen == g)) 3)]
      ++ cv 0 ++ cv 1
  behind [aSlice r, len r 1, (decide (r.f 0 1 < 4), .format), (s.state != .free, .sliceState)] c
    (.done c (((List.range 4).map one).flatten) [])

/-! ## TR-34 -/

/-- The transported key, where the token passes: its verdicts, the hybrid frame, the KRD random number, the usage and the length of the
part (R293, R295). -/
def tokenKey (v : TokenVerdict) (r : Req) (c : Cx) : List Byte :=
  let part := r.f 1 1
  let p := (sliceOf c.d r.q.scope).per
  if v.ok ∧ v.usageOk ∧ v.random = r.q.nonce ∧ p.krd.isSome ∧ p.anchor.isSome ∧ v.alg = (if part = 0 then .A else .T)
      ∧ v.key.length = lmkLen part
      ∧ (r.f 2 1 = 0 ∨ (slice8 r.inp 4 4 = ascii [0x50, 0x47, 0x48, 0x31] ∧ r.f 8 2 = 1568)) then v.key else []

/-- `LMK_TR34_LOAD` (R293): `data` holds the key of a token that passes and nothing else. -/
def lmkTr34Eff (r : MReq) (c : Cx) : Eff :=
  let n := r.scope
  let g := r.f 0 1
  let part := r.f 1 1
  match eff r ([mSlice r, (decide (5 ≤ r.inp.length) && decide (r.inp.length ≤ 4 + 16384), .format),
      (decide (g < 4) && decide (part < 2) && decide (r.f 2 1 < 2) && zeroFrom r.inp 3 4, .format), mState r c unfrozen]
      ++ lmkRoom (sliceOf c.d n).per g part ++ [(!r.data.isEmpty, .token)]) c
      (c.mod (modPer n (loadPart g part r.data)), [], []) with
  | .error (.token, c1) => .error (.token, c1.mod (fun d => raise 0x3010 n (Config.freeNat (nextSeq d)) 0 d))
  | x => x

/-- `TR34_KRD_INIT` (R294): the public keys come with the command. -/
def krdInitEff (pub : List Byte) (r : MReq) (c : Cx) : Eff :=
  let p := fit pub 1960
  eff r [mSlice r, mlen r 0, mState r c unfrozen] c
    (c.mod (modPer r.scope (fun s => { s with krd := some p })), [],
      p ++ beBytes 96 (Config.deviceSign (attestSlot c.d) (sha384 (leBytes 8 c.d.sys.serial ++ leBytes 2 r.scope ++ p))))

/-- `TR34_ANCHOR_SET` (R294). -/
def anchorSetEff (parses : Bool) (r : MReq) (c : Cx) : Eff :=
  eff r [mSlice r, (decide (1 ≤ r.inp.length) && decide (r.inp.length ≤ 4096), .format), (parses, .format), mState r c unfrozen] c
    (c.mod (modPer r.scope (fun s => { s with anchor := some r.inp })), [], [])

/-! ## Curves (R213, R214, R216) -/

/-- `CURVE_LOAD` with `OP` 1. -/
def curveLoadEff (v : CurveVerdict) (r : MReq) (c : Cx) : Eff :=
  let l := r.f 2 1
  let ps := slice8 r.inp 4 (6 * l)
  let p := beNat (ps.take l)
  let tag := (digest 3 (ps ++ [1])).take 8
  eff r [mSlice r, (r.inp.length == 5 + 6 * l, .format),
      (decide (r.f 0 1 < 4) && r.f 1 1 == 1 && decide (32 ≤ l) && decide (l ≤ 66) && zeroFrom r.inp 3 4 && decide (256 ≤ bitLen p)
        && decide (bitLen p ≤ 521) && l == (bitLen p + 7) / 8 && r.f (4 + 6 * l) 1 == 1, .format), mState r c unfrozen,
      (v == .good, .pkCurve)] c
    (c.mod (modPer r.scope (fun s => { s with curves := Tab.put s.curves (r.f 0 1) { len := l, params := ps, tag } })),
      tag ++ leBytes 2 (bitLen p) ++ [0, 0], [])

/-- `CURVE_LOAD` with `OP` 0. -/
def curveClearEff (r : MReq) (c : Cx) : Eff :=
  eff r [mSlice r, mlen r 4, (decide (r.f 0 1 < 4) && r.f 1 1 == 0 && zeroFrom r.inp 2 4, .format), mState r c unfrozen] c
    (c.mod (modPer r.scope (fun s => { s with curves := Tab.del s.curves (r.f 0 1) })), [], [])

/-! ## Slots (R296) -/

/-- The frame in which the CP looks up a key for a slice. -/
def cpCtx (slice : Nat) : Ctx := { id := 0, i := { slice, ring := 0, desc := [] }, r := { core := 0, thread := 0 } }

/-- Submits a slot's step for a mailbox, behind its destination check. -/
def submitSlot (r : Req) (k : StepKind) (fixed : List Byte) (c : Cx) : BRes :=
  match slotCheck c.d r.q.scope k with
  | some st => .fail st c []
  | none => .wait .step (c.mod (submit { slice := r.q.scope, kind := k } (.mailbox r.m) { status := .ok, fixed }))

/-- `SLOT_IMPORT` (R296): as `KEY_STORE` of the block. -/
def slotImportCmd (r : Req) (c : Cx) : BRes :=
  let n := r.q.scope
  let slot := r.f 0 1
  let ext := blockExtent r.inp 4
  let extOk := match ext with
    | .ok t => t.length + 4 == r.inp.length
    | .error .length => false
    | .error _ => true
  behind [aSlice r, (decide (4 ≤ r.inp.length) && extOk, .format),
      (decide (r.f 1 1 < 2) && decide (r.f 2 1 ≤ 1) && zeroFrom r.inp 3 4, .format), (decide (slot < 64), .keyAccess),
      inState c n unfrozen] c (
    let h := 2 ^ 60 + n * 2 ^ 48 + 4
    match (lookup (cpCtx n) h r.inp [1] (needs (fun a => !asymmetric a.alg))).run.run c.d with
    | (.error (.fail res), d) => .fail res.status { c with d } []
    | (.error (.wait _), d) => .fail .fault { c with d } []
    | (.ok k, d) =>
      if !slotFits k.key then .fail .keyUsage { c with d } []
      else submitSlot r (.slotWrite slot k.key (ceilingOf k.key.attr) (bitAt (r.f 1 1) 0))
        (keyResult 0 0 (kcv (r.f 2 1) k.key)) { c with d })

/-- `SLOT_DELETE` (R296): as `KEY_DELETE`. -/
def slotDeleteCmd (r : Req) (c : Cx) : BRes :=
  behind [aSlice r, len r 4, rsv r 1 4, (decide (r.f 0 1 < 64), .keyAccess), inState c r.q.scope unfrozen] c
    (submitSlot r (.slotDelete (r.f 0 1)) (List.replicate 32 0) c)

end Sys2Proof.Machine
end

