-- ==== Sys2Proof/Machine/MgmtPair.lean ====
section
/-! DEFINITION. The pair commands (R377, R378, R395 to R397).
Marks: assumptions 90, 92, 95, 97. -/

namespace Sys2Proof.Machine

def modPair (f : Pair → Pair) (d : Dev) : Dev := { d with pair := f d.pair }

/-- The partner's serial low word, parameter 2 of the pair records (R399). -/
def partnerLow (d : Dev) : Nat := d.store.partner % 2 ^ 32

/-- The next `PAIR_GROUP` slot, if one is left (R376). -/
def nextGroup (f : Fuses) : Option Nat :=
  let n := [3, 2, 1, 0].findIdx (fun k => [f.pg0, f.pg1, f.pg2, f.pg3].getD k 0 != 0)
  if 4 - n < 4 then some (4 - n) else none

/-- Blows an identity into a slot, bit by bit (R363, R376). -/
def blowGroup (k : Nat) (v : BitVec 128) (f : Fuses) : Fuses :=
  match k with
  | 0 => { f with pg0 := f.pg0 ||| v }
  | 1 => { f with pg1 := f.pg1 ||| v }
  | 2 => { f with pg2 := f.pg2 ||| v }
  | _ => { f with pg3 := f.pg3 ||| v }

/-- Blows the revoke bit of the current slot (R378). -/
def revokeGroup (f : Fuses) : Fuses :=
  match groupSlot f with
  | some k => { f with pgRevoke := f.pgRevoke ||| BitVec.ofNat 4 (2 ^ k) }
  | none => f

/-- Slices that are not FREE. -/
def slicesInUse (d : Dev) : List (Nat × Slice) := d.slices.filter (fun e => e.2.state != .free)

/-- `PAIR` (R377): once its own requirements hold, it waits to meet the partner over the Strait. -/
def pairCmd (mode : Nat) (r0 : Req) (c : Cx) : BRes :=
  let r := ownMode r0 0 mode [0, 1, 2, 3]
  let st := c.d.pair.state
  let joins := decide (mode ≤ 1)
  behind [len r 16, (r.f 0 1 == mode, .format), rsv r 1 8, (c.d.sys.pairEn && c.d.pair.cmd.isNone, .policy),
      (!joins || (st == .unpaired && (mode == 0 || (slicesInUse c.d).isEmpty)), .policy), (r.f 8 8 != c.d.sys.serial, .policy),
      (!joins || (nextGroup c.f).isSome, .lifecycle),
      (joins || (if mode = 2 then st == .soloUnproven || st == .soloProven else st == .diverged), .pairRole)] c
    (.wait .pair (c.mod (modPair (fun p => { p with cmd := some (mode, r.f 8 8, r.m), nonce := [], helloSent := false }))))

/-- Answers the `PAIR` command in service. -/
def answerPair (st : Status) (d : Dev) : Dev :=
  match d.pair.cmd with
  | some (_, _, m) => answer m st [] [] false (nextSeq d) (modPair (fun p => { p with cmd := none, held := false }) d)
  | none => d

/-- A slice goes as `SLICE_REMOVE` would remove it, on this device only (R309, R378). -/
def dropSlice (n : Nat) (d : Dev) : Dev := raise 0x4008 n (sliceOf d n).state.code 0 (removeSlice n d)

/-- Steps of a device that has left its pair wait for no partner any more. -/
def freeSteps (d : Dev) : Dev :=
  modPair (fun p => { p with steps := p.steps.map (fun x =>
    match x.phase with
    | .sequenced _ => { x with phase := .committing }
    | .requested => { x with phase := .waiting }
    | _ => x) }) d

/-- `UNPAIR` (R378). -/
def unpairCmd (r : Req) (c : Cx) : BRes :=
  behind [len r 4, rsv r 0 4] c (
    let d1 := (slicesInUse c.d).foldl (fun d e => dropSlice e.1 d) (relinquish c.d)
    let d2 := raise 0x8009 0xFFFF 0xFF (partnerLow d1) d1
    let d3 := if d2.pair.cmd.any (fun x => 2 ≤ x.1) then answerPair .policy d2 else d2
    let d4 := modPair (fun p => { p with
      state := .unpaired, role := .none, relinquished := false, key := false, timer := .off, seen := false, resync := false, held := false }) d3
    let d5 : Dev := { d4 with store := { d4.store with partner := 0 } }
    .done { d := resubmit (freeSteps d5), f := revokeGroup c.f } [] [])

/-- `ROLE` (R397). -/
def roleCode : Role → Nat
  | .none => 0 | .primary => 1 | .secondary => 2

/-- Lanes in use: 0, 4 or 8. -/
def lanesInUse (d : Dev) : Nat := if 8 ≤ d.pair.lanes then 8 else if 4 ≤ d.pair.lanes then 4 else 0

/-- `PAIR_STATUS` (R397). -/
def pairStatusCmd (r : Req) (c : Cx) : BRes :=
  let d := c.d
  let p := d.pair
  behind [len r 0] c (.done c
    ([byteOf p.state.code, byteOf (roleCode p.role), byteOf (pairRank d), byteOf (lanesInUse d)] ++ leBytes 4 d.store.timeoutMs
      ++ leBytes 8 d.store.partner ++ beBytes 16 (groupId c.f).toNat ++ leBytes 8 d.store.seq ++ leBytes 8 p.partnerSeq
      ++ leBytes 8 (if p.state = .diverged then p.commonSeq else 0) ++ leBytes 4 p.lossCount ++ leBytes 4 0) [])

/-- `PAIR_TIMEOUT_SET` (R396). -/
def pairTimeoutCmd (r : Req) (c : Cx) : BRes :=
  let t := r.f 0 4
  behind [len r 4, (decide (100 ≤ t) && decide (t ≤ 60000), .format)] c
    (.done (c.mod (fun d => { d with store := { d.store with timeoutMs := t } })) [] [])

/-- The primary hands over with its last position and is secondary from there (R395). -/
def handOver (d : Dev) : Dev :=
  modPair (fun p => { p with role := .secondary })
    (raise 0x8008 0xFFFF 0 (partnerLow d) (strait (.control (.swap d.store.seq)) d))

/-- `PAIR_SWITCHOVER` mode 0: a secondary asks for the role and holds its steps until it has it (R395). -/
def pairSwapCmd (r0 : Req) (c : Cx) : BRes :=
  let r := ownMode r0 0 0 [0, 1]
  behind [len r 4, (r.f 0 1 == 0, .format), rsv r 1 4, (c.d.pair.state == .paired && !c.d.pair.held, .pairRole)] c
    (if c.d.pair.role = .primary then .done (c.mod handOver) [] []
      else .wait .pair (c.mod (fun d => modPair (fun p => { p with held := true, cmd := some (4, 0, r.m) })
        (strait (.control (.swap d.store.seq)) d))))

/-- Ends the steps a device had asked its primary for: their items and commands answer `ST_ABORTED` (R390). Reservations and exhaustions
of the device itself are its own to commit now. -/
def abortRequested (d : Dev) : Dev :=
  let gone := d.pair.steps.filter (fun p => p.phase == .requested)
  let keep := d.pair.steps.filterMap (fun p =>
    if p.phase = .requested then (if p.origin = .device then some { p with phase := .waiting } else none) else some p)
  gone.foldl (fun d p => match p.origin with
    | .item id => setRes id { status := .aborted } d
    | .mailbox m => answer m .aborted [] [] false (nextSeq d) d
    | .device => d) (modPair (fun x => { x with steps := keep }) d)

/-- Into SOLO-UNPROVEN: the steps that waited are committed here, those asked of the partner are not (R379, R390). -/
def enterUnproven (d : Dev) : Dev :=
  resubmit (modPair (fun p => { p with state := .soloUnproven, timer := .off }) (abortRequested d))

/-- `PAIR_SWITCHOVER` mode 1 (R395). -/
def pairTakeOverCmd (r0 : Req) (c : Cx) : BRes :=
  let r := ownMode r0 0 1 [0, 1]
  behind [len r 4, (r.f 0 1 == 1, .format), rsv r 1 4, (c.d.pair.state == .waiting, .pairRole)] c
    (.done (c.mod (fun d => raise 0x8008 0xFFFF 1 (partnerLow d) (enterUnproven d))) [] [])

end Sys2Proof.Machine
end

