-- ==== Sys2Proof/Machine/Mgmt.lean ====
section
/-! DEFINITION. How a management request is served: the checks of R268 in their order, its body, and for a mirrored command the step
whose moment of effect completes it (R282). Then one command for each row.
Marks: assumptions 70 to 74, 83, 84, 87, 113. -/

namespace Sys2Proof.Machine

/-! ## Bodies -/

/-- The effect of a mirrored command (R282, R283). -/
def effect (op : MOp) (r : MReq) (c : Cx) : Eff :=
  match op with
  | .sliceCreate => sliceCreateEff r c
  | .sliceBind => sliceBindEff r c
  | .sliceRingSetup => sliceRingEff r c
  | .sliceActivate => sliceActivateEff r c
  | .sliceReset => sliceResetEff r c
  | .sliceRemove => sliceRemoveEff r c
  | .sliceRestore body tagOk => sliceRestoreEff body tagOk r c
  | .slicePolicySet => slicePolicyEff r c
  | .tenantPolicySet => tenantPolicyEff r c
  | .officerEnroll v => officerEnrollEff v r c
  | .officerRemove => officerRemoveEff r c
  | .quorumSet => quorumSetEff r c
  | .lmkCommit => lmkCommitEff r c
  | .lmkTr34Load _ => lmkTr34Eff r c
  | .lmkActivate => lmkActivateEff r c
  | .lmkRemove => lmkRemoveEff r c
  | .krdInit pub => krdInitEff pub r c
  | .anchorSet parses => anchorSetEff parses r c
  | .curveLoad v => curveLoadEff v r c
  | .curveClear => curveClearEff r c
  | _ => .error (.opcode, c)

/-- What a mirrored command carries beside its input: the key it resolved on the device that holds its parts. -/
def dataOf (op : MOp) (r : Req) (c : Cx) : List Byte :=
  match op with
  | .lmkCommit => combine (r.f 1 1) (stagedFor (sliceOf c.d r.q.scope) (r.f 0 1) (r.f 1 1))
  | .lmkTr34Load v => tokenKey v r c
  | _ => []

/-- Bytes the CP draws for a mirrored command: the KRD keys (R294), or two primality tests of 64 bases (R214). -/
def drawOf (op : MOp) (r : Req) : Nat :=
  match op with
  | .krdInit _ => 448
  | .curveLoad _ => 128 * r.f 2 1
  | _ => 0

/-- A mirrored command: its checks and effect are tried, then its step enters the commit path. From ERROR a reset or a removal waits for
the last completion record first (R308). -/
def mirroredCmd (op : MOp) (r : Req) (c : Cx) : BRes :=
  let x : MReq := { force := false, scope := r.q.scope, inp := r.inp, data := dataOf op r c }
  match effect op x c with
  | .error (st, c1) => .fail st c1 []
  | .ok (_, _, out) => behind [outCap r out.length] c (
    if (op = .sliceReset ∨ op = .sliceRemove) ∧ inflight (sliceOf c.d r.q.scope) ≠ 0 then .wait (.quiesce r.q.scope) c
    else
      let st : Step := { slice := r.q.scope, kind := .mgmt op r.q.scope r.inp x.data }
      let go := fun (c : Cx) => BRes.wait .step (c.mod (submit st (.mailbox r.m) { status := .ok }))
      if drawOf op r = 0 then go c else withRandom c (go (c.mod (cpDraw (drawOf op r)))))

/-- The body of an operation (step 8 of R268 and on). -/
def body (op : MOp) (r : Req) (c : Cx) : BRes :=
  match op with
  | .devInfo => devInfoCmd r c
  | .devReset => devResetCmd r c
  | .timeSet => timeSetCmd r c
  | .nonceGet => nonceGetCmd r c
  | .sessionOpen p e => sessionOpenCmd p e r c
  | .sessionClose => sessionCloseCmd r c
  | .hifPolicySet => hifPolicyCmd r c
  | .rngSelfTest fails => rngSelfTestCmd fails r c
  | .rngRawSample => rngRawCmd r c
  | .sliceQuiesce => sliceQuiesceCmd r c
  | .sliceFreeze => sliceFreezeCmd r c
  | .sliceResume => sliceResumeCmd r c
  | .sliceSave => sliceSaveCmd r c
  | .sliceStatus => sliceStatusCmd r c
  | .migOffer => migOfferCmd r c
  | .migAccept v => migAcceptCmd v r c
  | .migComplete v => migCompleteCmd v r c
  | .officerList => officerListCmd r c
  | .lmkComponentLoad => lmkComponentCmd r c
  | .lmkInfo => lmkInfoCmd r c
  | .slotImport => slotImportCmd r c
  | .slotDelete => slotDeleteCmd r c
  | .logRead => logReadCmd r c
  | .logClear => logClearCmd r c
  | .logRateSet => logRateCmd r c
  | .ctrSelect => ctrSelectCmd r c
  | .ctrRead => ctrReadCmd r c
  | .ctrDumpSet => ctrDumpCmd r c
  | .bwmonSet => bwmonCmd r c
  | .ctrGrant => ctrGrantCmd r c
  | .ctrRevoke => ctrRevokeCmd r c
  | .tamperStatus => tamperStatusCmd r c
  | .tamperUnlock => tamperUnlockCmd r c
  | .tamperConfig => tamperConfigCmd r c
  | .tamperFuseDisable => tamperFuseCmd r c
  | .lcClose => lcCloseCmd r c
  | .lcScrap => lcScrapCmd r c
  | .debugChallenge => debugChallengeCmd r c
  | .debugReopen sigsOk => debugReopenCmd sigsOk r c
  | .fwStatus => fwStatusCmd r c
  | .fwActivate => fwActivateCmd r c
  | .fwDiscard => fwDiscardCmd r c
  | .pairFound => pairCmd 0 r c
  | .pairJoin => pairCmd 1 r c
  | .pairAdmit => pairCmd 2 r c
  | .pairResolve => pairCmd 3 r c
  | .unpair => unpairCmd r c
  | .pairStatus => pairStatusCmd r c
  | .pairTimeoutSet => pairTimeoutCmd r c
  | .pairSwap => pairSwapCmd r c
  | .pairTakeOver => pairTakeOverCmd r c
  | .curveLoad _ => mirroredCmd op (ownMode r 1 1 [0, 1]) c
  | .curveClear => mirroredCmd op (ownMode r 1 0 [0, 1]) c
  | .sliceCreate | .sliceBind | .sliceRingSetup | .sliceActivate | .sliceReset | .sliceRemove | .sliceRestore _ _ | .slicePolicySet
  | .tenantPolicySet | .officerEnroll _ | .officerRemove | .quorumSet | .lmkCommit | .lmkTr34Load _ | .lmkActivate | .lmkRemove
  | .krdInit _ | .anchorSet _ => mirroredCmd op r c

/-- Runs the body and answers, or leaves the request waiting. Output beyond `OUT_CAP` fails before anything changes (R267). -/
def perform (op : MOp) (r : Req) (before : Nat) (c : Cx) : Cx :=
  match body op r c with
  | .fail st c1 diag => c1.mod (answer r.m st diag [] false before)
  | .done c1 b out =>
    if r.q.outCap < out.length then c.mod (answer r.m .length [] [] false before)
    else c1.mod (answer r.m .ok b out false before)
  | .wait w c1 => c1.mod (fun d => modBox r.m (fun b =>
      if b.state = .busy ∧ b.cur.isSome then { b with wait := w, lastRec := lastRecord r.m before d } else b) d)

/-! ## Checks (R268) -/

/-- Bytes of the plaintext input: body and DMA input less quorum block and tag (R470). -/
def plainLen (q : MbReq) : Nat := q.bodyLen + q.inLen - q.quorumLen - (if q.session = 0 then 0 else 16)

/-- `SCOPE` in range (R265). -/
def scopeOk (q : MbReq) : Bool := decide (q.scope < 4096) || q.scope == 0xFFFF

/-- Steps 1 to 4 of R268; the opcode is known (step 2). -/
def earlyCheck (op : MOp) (q : MbReq) (c : Cx) : Option Status :=
  (((firstFail [(scopeOk q, .format)]).orElse (fun _ => headerCheck q)).orElse (fun _ =>
    firstFail [(q.quorumLen == 0 || mayCarryQuorum op, .format)])).orElse (fun _ => stateCheck c op)

/-- Step 7 of R268 (R274, R275, R278, R357). -/
def quorumStep (op : MOp) (r : Req) (c : Cx) : Cx × Option Status :=
  let auth := authorityOf c op r.q.scope
  match op with
  | .sessionOpen _ _ => if nonceOk c.d r.m r.q then openCheck r c else (c, some .nonce)
  | _ =>
    match classOf c op r.q.scope with
    | .quorum => quorumCheck false auth r c
    | .owner => quorumCheck true auth r c
    | _ => (c, none)

/-- Steps 6 and 7 of R268: the context, the failing status, and the Officer of the session. -/
def authorise (op : MOp) (r : Req) (c : Cx) : Cx × Option Status × Nat :=
  let cls := classOf c op r.q.scope
  let (c1, st, off) :=
    if r.q.session ≠ 0 ∨ cls = .session then sessionCheck (cls == .open_) (authorityOf c op r.q.scope) r c else (c, none, 0)
  match st with
  | some _ => (c1, st, off)
  | none =>
    let c2 := c1.mod (modBox r.m (fun b => { b with cur := some (op, r.q) }))
    let (c3, st3) := quorumStep op r c2
    (c3, st3, off)

/-- Serves a request that a mailbox has taken up: what fails up to step 6 is answered outside its session. -/
def serve (op : MOp) (q0 : MbReq) (c : Cx) : Cx :=
  let m := q0.mailbox
  let q := { q0 with tagOk := q0.tagOk && decide (q0.quorumLen + 16 ≤ q0.bodyLen + q0.inLen) }
  let before := nextSeq c.d
  let r : Req := { m, q, inp := fit q.input (plainLen q) }
  let c0 := c.mod (modBox m (fun b => { b with cur := some (op, { q with session := 0 }), wait := .none }))
  let ans := fun (st : Status) (c : Cx) => c.mod (answer m st [] [] false before)
  match earlyCheck op q c with
  | some st => ans st c0
  | none =>
    if q.inLen ≠ 0 ∧ q.dmaFail.isSome then ans .dmaFault (c0.mod (fun d => raise 0x9012 0xFFFF m 0 (hifError 1 0 q.inAddr d)))
    else
      let (c1, st, off) := authorise op r c0
      match st with
      | some x => ans x c1
      | none => perform op { r with officer := off } before c1

/-! ## Through a mailbox (R260 to R262) -/

/-- The 48-byte header of a request (R265). -/
def headerBytes (op : MOp) (q : MbReq) : List Byte :=
  leBytes 2 (opCode op) ++ leBytes 2 q.scope ++ leBytes 4 q.reqId ++ leBytes 4 q.bodyLen ++ leBytes 4 q.session ++ leBytes 8 q.inAddr
    ++ leBytes 4 q.inLen ++ leBytes 4 q.outCap ++ leBytes 8 q.outAddr ++ leBytes 4 q.quorumLen ++ leBytes 4 q.rsv

/-- The Manager writes header and inline body, then `GO`: the body of a session is sealed and not shown here. -/
def submitBox (op : MOp) (q : MbReq) (d : Dev) : Dev :=
  goBox q.mailbox q.reqId (modBox q.mailbox (fun b => { b with
    window := Mem.writeAll b.window 0 (headerBytes op q ++ if q.session = 0 then fit q.input (min q.bodyLen (plainLen q)) else [])
    ide := q.ide }) d)

/-- The request a `GO` write left in the window, with what reaches the device beside it: DMA input and verdicts. -/
def fromWindow (b : Mailbox) (q : MbReq) : MbReq :=
  let h := headerOf b.window q.mailbox
  let n := min h.bodyLen (plainLen h)
  { h with
    input := if h.session = 0 then Mem.readAll b.window 48 n ++ q.input.drop n else q.input
    tagOk := q.tagOk, quorum := q.quorum, quorumPad := q.quorumPad, owner := q.owner, nonce := q.nonce, qseq := q.qseq
    dmaFail := q.dmaFail, vc1 := q.vc1, ide := b.ide }

/-- The Officer of a session. -/
def officerOf (d : Dev) (session : Nat) : Nat := ((Tab.find d.mg.sessions session).map (·.officer)).getD 0

/-- What a waiting request waited for has come, so that its body runs again. -/
def resumes (d : Dev) (b : Mailbox) : Bool :=
  match b.wait, b.cur with
  | .rng, _ => rngServing d
  | .raw, _ => d.rng.raw.isNone
  | .quiesce n, some (op, _) => (op == .sliceReset || op == .sliceRemove) && inflight (sliceOf d n) == 0
  | _, _ => false

/-- A management command through a mailbox. -/
def overMailbox (op : MOp) (q : MbReq) (c : Cx) : Cx :=
  let m := q.mailbox
  let b := mailboxOf c.d m
  if !barsOpen c.d then c
  else if c.d.hif.ideRequired && !q.ide then c.mod (hifError 0 0 (0x1000 * (m + 1)))
  else if !boxesServe c.d then c.mod (rejectBox m)
  else match b.state with
  | .idle => serve op q (c.mod (submitBox op q))
  | .done => c.mod (rejectBox m)
  | .busy =>
    if b.wait = .submitted then (if windowOpcode b = opCode op then serve op (fromWindow b q) c else c.mod (rejectBox m))
    else match b.cur with
    | some (op1, q1) =>
      if opCode op1 = opCode op ∧ resumes c.d b then
        perform op1 { m, q := q1, inp := fit q1.input (plainLen q1), officer := officerOf c.d q1.session } (nextSeq c.d)
          (c.mod (modBox m (fun b => { b with wait := .none })))
      else c.mod (rejectBox m)
    | none => c.mod (rejectBox m)

/-! ## Over a secured SPDM session (R272) -/

/-- Header of a frame over SPDM: at most 4,000 bytes with its body, and no mailbox DMA. -/
def spdmHeader (q : MbReq) : Option Status :=
  firstFail [(q.rsv == 0 && q.inAddr == 0 && q.outAddr == 0 && scopeOk q, .format),
    (decide (48 + q.bodyLen ≤ 4000) && q.inLen == 0 && q.outCap == 0 && decide (q.quorumLen ≤ q.bodyLen), .length)]

/-- Steps 6 and 7 over SPDM: the binding comes first; quorum-class commands are for mailboxes alone. -/
def spdmAuthorise (op : MOp) (k : Nat) (x : SpdmSession) (r : Req) (c : Cx) : Cx × Option Status :=
  match op with
  | .nonceGet => (c, none)
  | .sessionOpen _ _ =>
    if x.nonce = some r.q.nonce ∧ r.q.qseq = 0 then
      openCheck r (c.mod (modHif (fun h => { h with spdm := Tab.put h.spdm k { x with nonce := none } })))
    else (c, some .nonce)
  | _ =>
    match x.bound, classOf c op r.q.scope with
    | none, _ => (c, some .session)
    | some _, .open_ => (c, none)
    | some b, .session => (c, if b.1 = authorityOf c op r.q.scope then none else some .session)
    | some _, _ => (c, some .session)

/-- A management command inside a secured SPDM session. -/
def overSpdm (op : MOp) (k : Nat) (q : MbReq) (c : Cx) : Cx :=
  let m := spdmBox k
  match Tab.find c.d.hif.spdm k with
  | none => if barsOpen c.d then c.mod (doeAnswer 0xFE 1 []) else c
  | some x =>
    if !barsOpen c.d then c
    else if !x.finished || !boxesServe c.d || (mailboxOf c.d m).state != .idle then c.mod (doeAnswer 0xFE 1 [])
    else
      let before := nextSeq c.d
      let r : Req := { m, q, inp := fit q.input (q.bodyLen - q.quorumLen), officer := (x.bound.map (·.2)).getD 0 }
      let c0 := c.mod (fun d => modBox m (fun b => { b with cur := some (op, q) }) (goBox m q.reqId d))
      let ans := fun (st : Status) (c : Cx) => c.mod (answer m st [] [] false before)
      match ((spdmHeader q).orElse (fun _ => stateCheck c op)).orElse (fun _ => firstFail [(q.session == 0, .session)]) with
      | some st => ans st c0
      | none =>
        match spdmAuthorise op k x r c0 with
        | (c1, some st) => ans st c1
        | (c1, none) => perform op r before c1

/-- A management command: its request through mailbox 0 to 7, or over SPDM. -/
def runMgmt (op : MOp) (q : MbReq) (s : State) : Ans :=
  match q.spdm with
  | some k => withCx s (overSpdm op k q s.cx)
  | none => if q.mailbox < 8 then withCx s (overMailbox op q s.cx) else .fault .noSuchUnit

/-! ## The rows -/

def execDevInfo (r : MbReq) (s : State) : Ans := runMgmt .devInfo r s
def execDevReset (r : MbReq) (s : State) : Ans := runMgmt .devReset r s
def execTimeSet (r : MbReq) (s : State) : Ans := runMgmt .timeSet r s
def execNonceGet (r : MbReq) (s : State) : Ans := runMgmt .nonceGet r s
def execSessionOpen (r : MbReq) (pointOk encapOk : Bool) (s : State) : Ans := runMgmt (.sessionOpen pointOk encapOk) r s
def execSessionClose (r : MbReq) (s : State) : Ans := runMgmt .sessionClose r s
def execHifPolicySet (r : MbReq) (s : State) : Ans := runMgmt .hifPolicySet r s
def execRngSelfTest (r : MbReq) (fails : Nat) (s : State) : Ans := runMgmt (.rngSelfTest fails) r s
def execRngRawSample (r : MbReq) (s : State) : Ans := runMgmt .rngRawSample r s
def execSliceCreate (r : MbReq) (s : State) : Ans := runMgmt .sliceCreate r s
def execSliceBind (r : MbReq) (s : State) : Ans := runMgmt .sliceBind r s
def execSliceRingSetup (r : MbReq) (s : State) : Ans := runMgmt .sliceRingSetup r s
def execSliceActivate (r : MbReq) (s : State) : Ans := runMgmt .sliceActivate r s
def execSliceQuiesce (r : MbReq) (s : State) : Ans := runMgmt .sliceQuiesce r s
def execSliceFreeze (r : MbReq) (s : State) : Ans := runMgmt .sliceFreeze r s
def execSliceResume (r : MbReq) (s : State) : Ans := runMgmt .sliceResume r s
def execSliceReset (r : MbReq) (s : State) : Ans := runMgmt .sliceReset r s
def execSliceRemove (r : MbReq) (s : State) : Ans := runMgmt .sliceRemove r s
def execSliceSave (r : MbReq) (s : State) : Ans := runMgmt .sliceSave r s
def execSliceRestore (r : MbReq) (body : List Byte) (imageTagOk : Bool) (s : State) : Ans := runMgmt (.sliceRestore body imageTagOk) r s
def execSlicePolicySet (r : MbReq) (s : State) : Ans := runMgmt .slicePolicySet r s
def execSliceStatus (r : MbReq) (s : State) : Ans := runMgmt .sliceStatus r s
def execMigrationKeyOffer (r : MbReq) (s : State) : Ans := runMgmt .migOffer r s
def execMigrationKeyAccept (r : MbReq) (v : MigVerdict) (s : State) : Ans := runMgmt (.migAccept v) r s
def execMigrationKeyComplete (r : MbReq) (v : MigVerdict) (s : State) : Ans := runMgmt (.migComplete v) r s
def execTenantPolicySet (r : MbReq) (s : State) : Ans := runMgmt .tenantPolicySet r s
def execOfficerEnroll (r : MbReq) (v : List KeyVerdict) (s : State) : Ans := runMgmt (.officerEnroll v) r s
def execOfficerRemove (r : MbReq) (s : State) : Ans := runMgmt .officerRemove r s
def execQuorumSet (r : MbReq) (s : State) : Ans := runMgmt .quorumSet r s
def execOfficerList (r : MbReq) (s : State) : Ans := runMgmt .officerList r s
def execLmkComponentLoad (r : MbReq) (s : State) : Ans := runMgmt .lmkComponentLoad r s
def execLmkCommit (r : MbReq) (s : State) : Ans := runMgmt .lmkCommit r s
def execLmkTr34Load (r : MbReq) (v : TokenVerdict) (s : State) : Ans := runMgmt (.lmkTr34Load v) r s
def execLmkActivate (r : MbReq) (s : State) : Ans := runMgmt .lmkActivate r s
def execLmkRemove (r : MbReq) (s : State) : Ans := runMgmt .lmkRemove r s
def execLmkInfo (r : MbReq) (s : State) : Ans := runMgmt .lmkInfo r s
def execTr34KrdInit (r : MbReq) (pub : List Byte) (s : State) : Ans := runMgmt (.krdInit pub) r s
def execTr34AnchorSet (r : MbReq) (parses : Bool) (s : State) : Ans := runMgmt (.anchorSet parses) r s
def execCurveLoad (r : MbReq) (v : CurveVerdict) (s : State) : Ans := runMgmt (.curveLoad v) r s
def execCurveClear (r : MbReq) (s : State) : Ans := runMgmt .curveClear r s
def execSlotImport (r : MbReq) (s : State) : Ans := runMgmt .slotImport r s
def execSlotDelete (r : MbReq) (s : State) : Ans := runMgmt .slotDelete r s
def execLogRead (r : MbReq) (s : State) : Ans := runMgmt .logRead r s
def execLogClear (r : MbReq) (s : State) : Ans := runMgmt .logClear r s
def execLogRateSet (r : MbReq) (s : State) : Ans := runMgmt .logRateSet r s
def execCtrSelect (r : MbReq) (s : State) : Ans := runMgmt .ctrSelect r s
def execCtrRead (r : MbReq) (s : State) : Ans := runMgmt .ctrRead r s
def execCtrDumpSet (r : MbReq) (s : State) : Ans := runMgmt .ctrDumpSet r s
def execBwmonSet (r : MbReq) (s : State) : Ans := runMgmt .bwmonSet r s
def execCtrGrant (r : MbReq) (s : State) : Ans := runMgmt .ctrGrant r s
def execCtrRevoke (r : MbReq) (s : State) : Ans := runMgmt .ctrRevoke r s
def execTamperStatus (r : MbReq) (s : State) : Ans := runMgmt .tamperStatus r s
def execTamperUnlock (r : MbReq) (s : State) : Ans := runMgmt .tamperUnlock r s
def execTamperConfig (r : MbReq) (s : State) : Ans := runMgmt .tamperConfig r s
def execTamperFuseDisable (r : MbReq) (s : State) : Ans := runMgmt .tamperFuseDisable r s
def execLcClose (r : MbReq) (s : State) : Ans := runMgmt .lcClose r s
def execLcScrap (r : MbReq) (s : State) : Ans := runMgmt .lcScrap r s
def execDebugChallenge (r : MbReq) (s : State) : Ans := runMgmt .debugChallenge r s
def execDebugReopen (r : MbReq) (sigsOk : Bool) (s : State) : Ans := runMgmt (.debugReopen sigsOk) r s
def execFwStatus (r : MbReq) (s : State) : Ans := runMgmt .fwStatus r s
def execFwActivate (r : MbReq) (s : State) : Ans := runMgmt .fwActivate r s
def execFwDiscard (r : MbReq) (s : State) : Ans := runMgmt .fwDiscard r s
def execPairFound (r : MbReq) (s : State) : Ans := runMgmt .pairFound r s
def execPairJoin (r : MbReq) (s : State) : Ans := runMgmt .pairJoin r s
def execPairAdmit (r : MbReq) (s : State) : Ans := runMgmt .pairAdmit r s
def execPairResolve (r : MbReq) (s : State) : Ans := runMgmt .pairResolve r s
def execUnpair (r : MbReq) (s : State) : Ans := runMgmt .unpair r s
def execPairStatus (r : MbReq) (s : State) : Ans := runMgmt .pairStatus r s
def execPairTimeoutSet (r : MbReq) (s : State) : Ans := runMgmt .pairTimeoutSet r s
def execPairSwap (r : MbReq) (s : State) : Ans := runMgmt .pairSwap r s
def execPairTakeOver (r : MbReq) (s : State) : Ans := runMgmt .pairTakeOver r s

/-! ## The mailboxes' own events -/

/-- `MB_ACK` (R261). -/
def execMbAck (mailbox : Nat) (s : State) : Ans :=
  onUnit (decide (mailbox < 8)) (fun d => if barsOpen d then doorbellWrite mailbox 2 true d else d) s

/-- A quiesce that is given up leaves the slice as it was, unless another request still waits for it (R263). -/
def leaveDrain (m n : Nat) (d : Dev) : Dev :=
  modSlice n (fun s =>
    match s.drain with
    | some dr =>
      if dr.mailboxes = [m] then { s with drain := none, intake := true }
      else { s with drain := some { dr with mailboxes := dr.mailboxes.filter (· != m) } }
    | none => s) d

/-- What a request that runs out of time leaves undone is discarded (R263). -/
def giveUp (m : Nat) (w : MbWait) (d : Dev) : Dev :=
  match w with
  | .quiesce n => leaveDrain m n d
  | .raw => (match d.rng.raw with
    | some x => if x.mailbox = m then endRaw x d else d
    | none => d)
  | .activation =>
    if d.fw.step < 4 then { d with fw := { d.fw with staging := .staged, step := 0, mailbox := none } }
    else { d with fw := { d.fw with mailbox := none } }
  | .pair => modPair (fun p => { p with cmd := none, held := false }) d
  | _ => d

/-- `EXECUTION_LIMIT_EXPIRY` (R263): the waits for PAIRED or SOLO, for the RNG and for the recorder are not counted. -/
def execExecutionLimitExpiry (mailbox : Nat) (s : State) : Ans :=
  onUnit (decide (mailbox < 8)) (fun d =>
    let b := mailboxOf d mailbox
    if b.state ≠ .busy ∨ !boxesServe d then d else
    match b.wait with
    | .step | .rng | .record _ => d
    | .submitted => answerRaw mailbox .timeout d
    | w =>
      let d1 := answer mailbox .timeout [] [] false (nextSeq d) (giveUp mailbox w d)
      if w = .pair then resubmit d1 else d1) s

/-- `SESSION_IDLE_EXPIRY` (R270): a session with a request in service stays. -/
def execSessionIdleExpiry (session : Nat) (s : State) : Ans :=
  onDev (fun d => if d.mg.boxes.any (fun e => e.2.state == .busy && e.2.cur.any (fun x => x.2.session == session)) then d
    else endSession session d) s

/-- `MIGRATION_KEY_EXPIRY` (R316). -/
def execMigrationKeyExpiry (entry : Nat) (s : State) : Ans := onUnit (decide (entry < 16)) (delMig entry) s

end Sys2Proof.Machine
end

