-- ==== Sys2Proof/Machine/Apply.lean ====
section
/-! DEFINITION. The moment of effect of a state-changing step (R114, R119 to R121, R127, R310, R384, R392), and the local commits.
Marks: assumptions 47 to 50. -/

namespace Sys2Proof.Machine

/-! ## Slots -/

/-- Cache entries of a slot go when its content does (R127). -/
def dropSlot (n k : Nat) (d : Dev) : Dev :=
  ((d.keys.cache.filter (fun e => e.2.slice == n && (match e.2.src with
    | .slot j _ => j == k
    | _ => false))).map (·.1)).foldl (fun d id => { d with keys := { d.keys with cache := Tab.del d.keys.cache id } }) d

/-- A key written into a slot: the next version, its counter at 0 with the first reservation, whose counts the writing device draws
(R114, R118, R120, R133). -/
def writeSlot (key : Key) (ceiling : Nat) (mine : Bool) (s : Slot) : Slot :=
  let w := resStep { s with ceiling }
  let up := if ceiling = 0 then 0 else min ceiling w
  { st := .live, version := s.version + 1, key, ceiling, resEnd := up, ranges := if mine && up != 0 then [(0, up)] else [] }

/-- A deleted slot keeps its version alone (R114, R133). -/
def clearSlot (s : Slot) : Slot := { version := s.version + 1 }

/-- The items that wait for counts of a slot go on (R120); in SOLO they carry `UNMIRRORED` (R140). -/
def wakeDraws (n k : Nat) (unm : Bool) (d : Dev) : Dev :=
  modSched (fun s => { s with items := s.items.map (fun (id, i) =>
    (id, if i.slice = n ∧ i.wait = .reservation k then { i with wait := .none, unmirrored := i.unmirrored || unm } else i)) }) d

/-- A committed reservation (R120, R121): its counts go to the device that asked, unless counting has resumed past it. -/
def applyReserve (n k v start up : Nat) (mine unm : Bool) (d : Dev) : Dev :=
  if (slotOf (sliceOf d n) k).version ≠ v then d else
  let d1 := modSlot n k (fun s =>
    let s1 := { s with resEnd := max s.resEnd up }
    if mine then { s1 with
      ranges := if s.void || up ≤ start then s.ranges else s.ranges ++ [(start, up)]
      asked := false
      void := false } else s1) d
  if mine then wakeDraws n k unm d1 else d1

/-! ## Completion (R58, R134, R384) -/

/-- Completes the originator of a step: an item with its result, a mailbox with its response. -/
def finishStep (o : Origin) (r : Res) (out : List Byte) (unm : Bool) (before : Nat) (d : Dev) : Dev :=
  match o with
  | .item id => setRes id r (modItem id (fun i => { i with unmirrored := i.unmirrored || (unm && r.status == .ok) }) d)
  | .mailbox m => answer m r.status r.fixed out (unm && r.status == .ok) before d
  | .device => d

/-- The draft of a slot's step with the new version (R134). -/
def withVersion (r : Res) (v : Nat) : Res := { r with fixed := patch r.fixed 8 (leBytes 4 v) }

/-- A slot write or delete at its moment of effect, checked again (R384); the cache entry is replaced or goes with it (R127). -/
def applySlot (st : Step) (k : Nat) (f : Slot → Slot) (p : Pend) (unm : Bool) (d : Dev) : Dev :=
  let before := nextSeq d
  let bad := match p.origin with
    | .mailbox _ => firstFail [(unfrozen.contains (sliceOf d st.slice).state, .sliceState)]
    | _ => none
  match if p.foreign then none else bad, slotCheck d st.slice st.kind with
  | some e, _ | none, some e => finishStep p.origin { status := e } [] unm before d
  | none, none =>
    let held := d.keys.cache.any (fun e => e.2.slice == st.slice && e.2.src == .slot k (slotOf (sliceOf d st.slice) k).version)
    let d0 := modSlot st.slice k f (dropSlot st.slice k d)
    let new := slotOf (sliceOf d0 st.slice) k
    let d1 := if new.st = .live && (held || !p.foreign) then cacheKey st.slice (.slot k new.version) new.key d0 else d0
    finishStep p.origin (withVersion p.draft (slotOf (sliceOf d1 st.slice) k).version) [] unm before d1

/-- The moment of effect of a step on this device (R127, R384). -/
def applyStep (p : Pend) (unm : Bool) (c : Cx) : Cx :=
  let st := p.step
  match st.kind with
  | .slotWrite k key ceiling _ => c.mod (applySlot st k (writeSlot key ceiling (!p.foreign)) p unm)
  | .slotDelete k => c.mod (applySlot st k clearSlot p unm)
  | .reserve k v start up => c.mod (applyReserve st.slice k v start up (!p.foreign) unm)
  | .exhaust k v => c.mod (modSlot st.slice k (fun s => if s.version = v ∧ s.st = .live then { s with st := .exhausted } else s))
  | .sliceErr => c.mod (fun d => if p.foreign then d else modPer st.slice (fun s => { s with sound := false }) d)
  | .mgmt op scope inp data =>
    let before := nextSeq c.d
    match effect op { force := p.foreign, scope, inp, data } c with
    | .error (e, c1) => if p.foreign then c else c1.mod (finishStep p.origin { status := e } [] unm before)
    | .ok (c1, b, out) => c1.mod (finishStep p.origin { status := .ok, fixed := b } out unm before)

/-! ## Local commits (R325, R379) -/

/-- An item has looked up the slot and not yet drawn (R119). -/
def holdsLookup (d : Dev) (n k : Nat) : Bool :=
  (itemList d).any (fun e => e.2.slice == n && (match e.2.wait with
    | .reservation _ => true
    | _ => false) && [dKeyA e.2.desc, dKeyB e.2.desc].any (fun h => h == n * 2 ^ 48 + k))

/-- A step replaces a slot. -/
def replaces (st : Step) : Option Nat :=
  match st.kind with
  | .slotWrite k _ _ _ | .slotDelete k => some k
  | _ => none

/-- The effect of a step waits for items that hold a lookup, or for an earlier step of its slice that does (R119). -/
def blocked (d : Dev) (st : Step) : Bool :=
  match replaces st with
  | some k => holdsLookup d st.slice k
  | none => false

/-- A step commits on this device: journalled where the device belongs to a pair, unmirrored unless both journals already hold it. -/
def commitPend (p : Pend) (c : Cx) : Cx :=
  if p.mirrored then applyStep p false c
  else
    let st := fixReserve p.step c.d
    let c1 := if c.d.pair.state = .unpaired then c
      else c.mod (fun d => countEntry st (writeEntry (nextEntry (if d.pair.role = .secondary then 1 else 0) st d) d))
    applyStep { p with step := st } true c1

/-- The first step in the commit path that meets a test, taken out of it. -/
def takeStep (p : Pend → Bool) : List Pend → Option (Pend × List Pend)
  | [] => none
  | x :: l => if p x then some (x, l) else (takeStep p l).map (fun (y, r) => (y, x :: r))

/-- Commits the first step that meets a test. -/
def commitFirst (p : Pend → Bool) (c : Cx) : Cx :=
  if !alive c.d || !c.d.sys.ksk || devFault c.d then c else
  match takeStep (fun x => x.phase == .committing && p x) c.d.pair.steps with
  | none => c
  | some (x, rest) => commitPend x (c.mod (fun d => count 0x9001 1 none (some 0x301) false none (modPair (fun y => { y with steps := rest }) d)))

def isReserve (st : Step) : Bool :=
  match st.kind with
  | .reserve _ _ _ _ => true
  | _ => false

/-- The slot of a reservation step. -/
def reserveSlot (st : Step) : Option Nat :=
  match st.kind with
  | .reserve k _ _ _ => some k
  | _ => none

/-- `RESERVATION_COMMIT` (R120). -/
def execReservationCommit (slice slot : Nat) (s : State) : Ans :=
  if 4096 ≤ slice ∨ 64 ≤ slot then .fault .noSuchUnit
  else withCx s (commitFirst (fun x => x.step.slice == slice && reserveSlot x.step == some slot) s.cx)

/-- `SKERRY_COMMIT` (R325): the oldest step under way that no lookup holds back. -/
def execSkerryCommit (s : State) : Ans :=
  withCx s (commitFirst (fun x => !isReserve x.step && !blocked s.dev x.step) s.cx)

end Sys2Proof.Machine
end

