-- ==== Sys2Proof/Machine/PairLink.lean ====
section
/-! DEFINITION. The Strait link and the pair's own events (13): training, `HELLO`, heartbeats, the journal's frames, resynchronisation,
and losing the partner.
Marks: assumptions 88 to 96. -/

namespace Sys2Proof.Machine

/-! ## The link (R372, R373) -/

/-- The Strait carries frames. -/
def linkUp (d : Dev) : Bool := alive d && d.sys.pairEn && decide (4 ≤ d.pair.lanes) && !devFault d

/-- `STRAIT_TRAINING_START` (R372). -/
def execStraitTrainingStart (s : State) : Ans := onDev (fun d =>
  if alive d && d.sys.pairEn && d.pair.lanes == 0 then modPair (fun p => { p with training := true }) d else d) s

/-- `STRAIT_TRAINING_COMPLETE` (R372): 8 lanes, or 4 where fewer train; with fewer than 4 the link is down. -/
def execStraitTrainingComplete (lanes : Nat) (s : State) : Ans :=
  onUnit (decide (lanes ≤ 8)) (fun d =>
    if !alive d || !d.pair.training then d
    else modPair (fun p => { p with training := false, lanes := if lanes = 8 then 8 else if 4 ≤ lanes then 4 else 0 }) d) s

/-- `STRAIT_TRAINING_RETRY` (R372). -/
def execStraitTrainingRetry (s : State) : Ans := onDev (fun d =>
  if alive d && d.sys.pairEn && d.pair.lanes == 0 && !d.pair.training then modPair (fun p => { p with training := true }) d else d) s

/-- A frame under the transport key: one that fails authentication is discarded with record `0x8011` (R373). -/
def onFrame (ty : Nat) (auth : Bool) (f : Cx → Cx) (s : State) : Ans :=
  withCx s (
    if !linkUp s.dev || !s.dev.pair.key then s.cx
    else if auth then f s.cx else s.cx.mod (raise 0x8011 0xFFFF ty 0))

/-! ## Applying what both journals hold -/

/-- A step takes effect, or waits for the items that hold a lookup of what it replaces (R119, R384). -/
def applyOrHold (p : Pend) (unm : Bool) (c : Cx) : Cx :=
  if blocked c.d p.step then c.mod (modPair (fun x => { x with steps := x.steps ++ [{ p with phase := .committing, mirrored := true }] }))
  else applyStep p unm c

/-- A sequenced step up to a position. -/
def sequencedTo (n : Nat) (p : Pend) : Bool :=
  match p.phase with
  | .sequenced k => decide (k ≤ n)
  | _ => false

/-- Sequenced steps up to a position take effect in order. -/
def applySequenced (n : Nat) (unm : Bool) : Nat → Cx → Cx
  | 0, c => c
  | fuel + 1, c =>
    match takeStep (sequencedTo n) c.d.pair.steps with
    | none => c
    | some (p, rest) => applySequenced n unm fuel (applyOrHold p unm (c.mod (modPair (fun x => { x with steps := rest }))))

def applyAll (unm : Bool) (c : Cx) : Cx := applySequenced c.d.store.seq unm c.d.pair.steps.length c

/-- Steps asked of a primary are submitted anew. -/
def askAgain (d : Dev) : Dev :=
  resubmit (modPair (fun p => { p with steps := p.steps.map (fun x => if x.phase = .requested then { x with phase := .waiting } else x) }) d)

/-! ## Heartbeats (R373, R386) -/

/-- The device looks for a partner (R377, R380). -/
def seeks (d : Dev) : Bool :=
  d.sys.ready && !d.goose.lock && ([PairState.seeking, .waiting, .soloUnproven, .soloProven].contains d.pair.state
    || d.pair.cmd.any (fun x => decide (x.1 ≤ 3)))

/-- Mode of the `PAIR` command in service. -/
def pairMode (d : Dev) : Option Nat := d.pair.cmd.bind (fun x => if x.1 ≤ 3 then some x.1 else none)

/-- A `HELLO` with this formation's nonce, drawn once the CP's instance serves (R374). -/
def sendHello (d : Dev) : Dev :=
  let d1 := if !d.pair.nonce.isEmpty || !rngServing d then d
    else modPair (fun p => { p with nonce := drawBytes 32 d }) (cpDraw 32 d)
  if d1.pair.nonce.isEmpty then d
  else emit (.hello d.sys.serial d1.pair.nonce (pairMode d)) (modPair (fun p => { p with helloSent := true }) d1)

/-- A heartbeat; after 2^32 frames the devices run a new exchange (R374). -/
def sendHeartbeat (d : Dev) : Dev :=
  let d1 := strait (.heartbeat d.store.seq d.pair.state.code d.sys.time d.sys.epoch (d.sys.ready && !devFault d) (fwVersions d)) d
  if 2 ^ 32 ≤ d1.pair.frames then modPair (fun p => { p with frames := 0 }) (strait (.control .rekey) d1) else d1

/-- `HEARTBEAT_SEND` (R373): before a transport key exists, only `HELLO` flows. -/
def execHeartbeatSend (s : State) : Ans := onDev (fun d =>
  if !linkUp d then d else
  let d1 := if d.pair.key then sendHeartbeat d else d
  if seeks d1 then sendHello d1 else d1) s

/-- The secondary aligns its time base: forward by a step, back only by counting at half rate (R386). -/
def align (t : Nat) (epoch : Bool) (d : Dev) : Dev :=
  let d1 : Dev := { d with sys := { d.sys with time := max d.sys.time t, epoch } }
  modPair (fun p => { p with ahead := d.sys.time - t }) d1

/-- A received heartbeat (R373, R386, R387). -/
def takeHeartbeat (m : HbMsg) (d : Dev) : Dev :=
  let d1 := modPair (fun p => { p with missed := 0, partnerSeq := m.journalSeq, partnerReady := m.ready, partnerFw := m.fw }) d
  if d.pair.state = .paired ∧ d.pair.role = .secondary then align (m.time + m.delay) m.epoch d1 else d1

/-! ## Losing the partner (R387 to R390) -/

def loses (d : Dev) : Dev := modPair (fun p => { p with lossCount := sat 0xFFFFFFFF (p.lossCount + 1), missed := 0 }) d

/-- A formation falls back to SEEKING; the pair timeout continues from READY (R389). -/
def backToSeeking (d : Dev) : Dev :=
  modPair (fun p => { p with
    state := .seeking, role := .none, key := false, seen := false, timer := .ready, resync := false, nonce := [], helloSent := false }) d

/-- Silent loss (R387, R389, R390). -/
def silentLoss (c : Cx) : Cx :=
  let st := c.d.pair.state
  let note := fun (d : Dev) => raise 0x8002 0xFFFF st.code (partnerLow d) (loses d)
  match st, c.d.pair.role with
  | .paired, .primary =>
    (applyAll true (c.mod (fun d => modPair (fun p => { p with state := .soloUnproven, nonce := [], held := false }) (note d)))).mod resubmit
  | .paired, _ => c.mod (fun d => modPair (fun p => { p with state := .waiting, timer := .loss, nonce := [], held := false }) (note d))
  | .forming, _ => c.mod (fun d => backToSeeking (note d))
  | _, _ => c

/-- `RELINQUISH` received (R388 to R390). -/
def partnerLeft (seq : Nat) (c : Cx) : Cx :=
  let note := fun (d : Dev) => raise 0x8006 0xFFFF seq (partnerLow d) (loses d)
  let proven := fun (c : Cx) => c.mod (modPair (fun p => { p with
    state := .soloProven, role := .primary, key := false, timer := .off, nonce := [], held := false }))
  match c.d.pair.state with
  | .paired => (applyAll true (proven (c.mod note))).mod askAgain
  | .waiting => (proven (c.mod note)).mod askAgain
  | .soloUnproven => c.mod (fun d => modPair (fun p => { p with state := .soloProven, key := false, nonce := [] }) (note d))
  | .diverged => c.mod note
  | .forming => c.mod (fun d => backToSeeking (note d))
  | _ => c

/-- A heartbeat that fails authentication counts as a missed one (R373). -/
def missHeartbeat (n : Nat) (c : Cx) : Cx :=
  let c1 := c.mod (fun d => count 0x8001 n none none false none (modPair (fun p => { p with missed := p.missed + n }) d))
  if 5 ≤ c1.d.pair.missed then silentLoss c1 else c1

/-- `HEARTBEAT` (R373, R386). -/
def execHeartbeat (auth : Bool) (m : HbMsg) (s : State) : Ans :=
  withCx s (
    if !linkUp s.dev || !s.dev.pair.key then s.cx
    else if auth then s.cx.mod (takeHeartbeat m) else missHeartbeat 1 (s.cx.mod (raise 0x8011 0xFFFF 2 0)))

/-- `HEARTBEAT_LOSS` (R387). -/
def execHeartbeatLoss (s : State) : Ans :=
  withCx s (if alive s.dev && s.dev.pair.key then missHeartbeat (5 - s.dev.pair.missed) s.cx else s.cx)

/-- `JOURNAL_ACK_TIMEOUT` (R387). -/
def execJournalAckTimeout (s : State) : Ans :=
  withCx s (if alive s.dev && s.dev.pair.state == .paired && s.dev.pair.steps.any (sequencedTo s.dev.store.seq) then silentLoss s.cx else s.cx)

/-- `RELINQUISH` (R389). -/
def execRelinquish (auth : Bool) (seq : Nat) (s : State) : Ans := onFrame 7 auth (partnerLeft seq) s

/-- `PAIR_TIMEOUT_EXPIRY` (R382, R389): at start-up, or counted from the loss. -/
def execPairTimeoutExpiry (s : State) : Ans := onDev (fun d =>
  if !alive d then d else
  match d.pair.timer, d.pair.state with
  | .ready, .seeking => raise 0x8003 0xFFFF 0 (partnerLow d) (enterUnproven d)
  | .loss, .waiting => raise 0x8003 0xFFFF 1 (partnerLow d) (enterUnproven d)
  | _, _ => d) s

/-! ## The journal's frames (R384) -/

/-- A step the primary has been asked to sequence. -/
def takeRequest (st : Step) (d : Dev) : Dev :=
  if d.pair.state = .paired ∧ d.pair.role = .primary ∧ !d.pair.held ∧ d.sys.ready then
    sequence 1 { step := st, origin := .device, phase := .waiting, foreign := true } d
  else d

/-- `JOURNAL_REQ` (R384). -/
def execJournalReq (auth : Bool) (step : Step) (s : State) : Ans := onFrame 3 auth (fun c => c.mod (takeRequest step)) s

/-- The step this device asked for, whatever range the primary fixed for a reservation. -/
def sameStep (a b : Step) : Bool :=
  a.slice == b.slice && (match a.kind, b.kind with
    | .reserve k v _ _, .reserve k' v' _ _ => k == k' && v == v'
    | x, y => x == y)

/-- The secondary writes an entry, acknowledges it and applies it (R384). -/
def takeEntry (e : Entry) (c : Cx) : Cx :=
  let d := c.d
  if (d.pair.state ≠ .paired ∧ d.pair.state ≠ .forming) ∨ d.pair.role ≠ .secondary ∨ e.seq ≠ d.store.seq + 1 then c
  else
    let c1 := c.mod (fun d => strait (.journalAck e.seq) (countEntry e.step (writeEntry e d)))
    match takeStep (fun p => e.origin == 1 && p.phase == .requested && sameStep p.step e.step) c1.d.pair.steps with
    | some (p, rest) => applyOrHold { p with step := e.step } false (c1.mod (modPair (fun x => { x with steps := rest })))
    | none => applyOrHold { step := e.step, origin := .device, phase := .requested, foreign := true } false c1

/-- `JOURNAL` (R384). -/
def execJournal (auth : Bool) (e : Entry) (s : State) : Ans := onFrame 4 auth (takeEntry e) s

/-- `JOURNAL_ACK` (R384): the moment of effect on the primary. -/
def execJournalAck (auth : Bool) (seq : Nat) (s : State) : Ans :=
  onFrame 5 auth (fun c =>
    let c1 := c.mod (modPair (fun p => { p with partnerSeq := seq }))
    applySequenced seq false c1.d.pair.steps.length c1) s

/-! ## Forming (R374, R375, R377, R381, R392) -/

/-- The first check of R375 that a partner fails. A `JOIN` adopts the partner's identity and its `ADMIT` lends it, so check 4 there asks
only which of the two is blank; check 5 asks for the serial a `PAIR` command names. -/
def helloCheck (c : Cx) (m : HelloMsg) : Option Nat :=
  let d := c.d
  let lc := d.sys.lc
  let group := match pairMode d with
    | some 1 => m.group != 0
    | some 2 => m.group == 0
    | _ => m.group == groupId c.f
  let serial := match d.pair.cmd with
    | some (_, n, _) => m.serial == n
    | none => d.store.partner == 0 || m.serial == d.store.partner
  ([(m.sigOk, 1), (m.lifecycle == lc && (lc != 1 || m.chainOk), 2), (lc != 1 || !m.debugOpen, 3), (group, 4), (serial, 5),
    (m.major == 4, 6)].find? (fun e => !e.1)).map (·.2)

/-- The partner executes the command that meets this device's (R377). -/
def meets (d : Dev) (m : HelloMsg) : Bool :=
  match pairMode d with
  | some 0 => m.pairMode == some 0 && m.pairSerial == d.sys.serial
  | some 1 => m.pairMode == some 2 && m.pairSerial == d.sys.serial
  | some 2 => m.pairMode == some 1 && m.pairSerial == d.sys.serial
  | _ => true

/-- The chain value of this journal at a position, where it holds one. -/
def chainAt (d : Dev) (n : Nat) : Option (BitVec 128) :=
  if n = d.store.seq then some d.store.chain
  else if n = 0 then some 0
  else (d.store.journal.find? (fun e => e.seq == n)).map (·.chain)

/-- Entries after a position, where all of them are retained (R385, R392). -/
def entriesAfter (d : Dev) (n : Nat) : Option (List Entry) :=
  let l := d.store.journal.filter (fun e => decide (n < e.seq))
  if l.length = d.store.seq - n then some l else none

/-- How a pair forms: this device leads, bringing the partner level by catch-up or by everything it holds; it follows; both are level; or
they have diverged. -/
inductive Form where
  | lead (full : Bool) | follow | level (primary : Bool) | diverged
deriving DecidableEq, Repr

/-- Straps decide, then the lower serial (R381). -/
def firstByStrap (d : Dev) (m : HelloMsg) : Bool :=
  if d.sys.preferPrimary = m.preferPrimary then decide (d.sys.serial < m.serial) else d.sys.preferPrimary

/-- Roles of a formation (R377, R381, R392, R394). A device whose journal is empty is brought level by a full resynchronisation. -/
def formOf (d : Dev) (m : HelloMsg) : Form :=
  let holds := !(slicesInUse d).isEmpty
  match pairMode d with
  | some 0 => if holds then .lead true else if m.holdsSlices then .follow else .level (firstByStrap d m)
  | some 1 | some 3 => .follow
  | some 2 => .lead true
  | _ =>
    if m.pairMode = some 3 then .lead true
    else if d.store.seq = m.journalSeq ∧ d.store.chain = m.chain then
      (if d.store.seq = 0 ∧ holds ∧ !m.holdsSlices then .lead true
        else if d.store.seq = 0 ∧ !holds ∧ m.holdsSlices then .follow else .level (firstByStrap d m))
    else if m.journalSeq < d.store.seq ∧ chainAt d m.journalSeq = some m.chain then
      .lead (m.journalSeq = 0 || (entriesAfter d m.journalSeq).isNone)
    else if d.store.seq < m.journalSeq ∧ (if d.store.seq = 0 then some 0 else m.chainAtOurs) = some d.store.chain then .follow
    else .diverged

/-- Reservation ends and exhaustion as the higher of both devices' at equal versions (R392). -/
def mergeEnd (e : SlotEnd) (d : Dev) : Dev :=
  if (sliceOf d e.slice).state = .free ∨ (slotOf (sliceOf d e.slice) e.slot).st = .empty
      ∨ (slotOf (sliceOf d e.slice) e.slot).version ≠ e.version then d
  else modSlot e.slice e.slot (fun s => { s with
    resEnd := max s.resEnd e.resEnd, st := if e.exhausted ∧ s.st = .live then .exhausted else s.st }) d

/-- The identity two devices found (R377). -/
def foundIdentity (d : Dev) (m : HelloMsg) : BitVec 128 :=
  let a := (leBytes 8 d.sys.serial, d.pair.nonce)
  let b := (leBytes 8 m.serial, m.nonce)
  let (x, y) := if d.sys.serial < m.serial then (a, b) else (b, a)
  BitVec.ofNat 128 (beNat ((sha384 (ascii [0x50, 0x47, 0x47, 0x52, 0x4F, 0x55, 0x50, 0x31] ++ x.1 ++ y.1 ++ x.2 ++ y.2)).take 16))

/-- What a `PAIR` command changes once R375 has passed: the fuses, the recorded partner, and for an empty or resolved journal its
position (R377, R393). -/
def adopt (m : HelloMsg) (c : Cx) : Cx :=
  let d := c.d
  let fresh : PairStore := { d.store with journal := [], seq := 0, chain := 0, partner := m.serial }
  let note := fun (mode : Nat) (d : Dev) => raise 0x8009 0xFFFF mode (m.serial % 2 ^ 32) d
  match pairMode d, nextGroup c.f with
  | some 0, some k => { d := note 0 { d with store := fresh }, f := blowGroup k (foundIdentity d m) c.f }
  | some 1, some k => { d := note 1 { d with store := fresh }, f := blowGroup k m.group c.f }
  | some 2, _ => c.mod (fun d => note 2 { d with store := { d.store with partner := m.serial } })
  | some 3, _ => c.mod (fun d => note 3 { d with store := { d.store with
      journal := d.store.journal.filter (fun e => decide (e.seq ≤ d.pair.commonSeq))
      seq := d.pair.commonSeq
      chain := (chainAt d d.pair.commonSeq).getD 0 } })
  | _, _ => c.mod (fun d => { d with store := { d.store with partner := m.serial } })

/-- Into PAIRED (R379, R399): what both journals hold takes effect, and the steps that waited go on. -/
def enterPaired (c : Cx) : Cx :=
  let c1 := c.mod (fun d => raise 0x8001 0xFFFF (roleCode d.pair.role) (partnerLow d) (modPair (fun p => { p with
    state := .paired, timer := .off, relinquished := false, held := false, missed := 0, resync := false, ahead := 0, commonSeq := 0 }) d))
  (applyAll false (c1.mod (answerPair .ok))).mod askAgain

/-- Local commits not yet made wait for the pair (R379). -/
def holdCommits (d : Dev) : Dev :=
  modPair (fun p => { p with steps := p.steps.map (fun x =>
    if x.phase = .committing ∧ !x.mirrored then { x with phase := .waiting } else x) }) d

/-- Everything the primary sends in a full resynchronisation (R392). -/
def resyncOf (d : Dev) : ResyncMsg :=
  { slices := (slicesInUse d).map (fun e => (e.1, e.2.per)), officers := d.mg.officers, journalSeq := d.store.seq, chain := d.store.chain
    kib := Config.freeNat d.store.seq }

/-- The pair begins to form in a role. -/
def beginForming (role : Role) (m : HelloMsg) (d : Dev) : Dev :=
  modPair (fun p => { p with
    state := .forming, role, partnerSeq := m.journalSeq, formSeq := d.store.seq, resync := false, resyncKib := 0, missed := 0
    relinquished := false }) (m.ends.foldl (fun d e => mergeEnd e d) (holdCommits d))

/-- The transport key is agreed and the pair forms as R381 decides (R374, R392). -/
def formPair (m : HelloMsg) (c : Cx) : Cx :=
  let form := formOf c.d m
  let c1 := (adopt m c).mod (modPair (fun p => { p with key := true, frames := 0, seen := true, nonce := [], helloSent := false }))
  match form with
  | .level primary => enterPaired (c1.mod (beginForming (if primary then .primary else .secondary) m))
  | .lead full =>
    c1.mod (fun d =>
      let d1 := beginForming .primary m d
      if full then answerPair .ok (strait (.resync (resyncOf d1)) d1)
      else ((entriesAfter d1 m.journalSeq).getD []).foldl (fun d e => strait (.journal e) d) d1)
  | .follow => c1.mod (beginForming .secondary m)
  | .diverged => c1.mod (fun d => resubmit (raise 0x8007 0xFFFF m.common (partnerLow d) (modPair (fun p => { p with
      state := .diverged, role := .none, commonSeq := m.common, timer := .off, relinquished := false }) d)))

/-- A `HELLO` is taken while the device looks for a partner, or from one that resolves a divergence (R375, R377). -/
def takeHello (m : HelloMsg) (c0 : Cx) : Cx :=
  if !seeks c0.d && !(c0.d.sys.ready && c0.d.pair.state == .diverged && m.pairMode == some 3) then c0
  else
    let c := if c0.d.pair.nonce.isEmpty then c0.mod sendHello else c0
    if c.d.pair.nonce.isEmpty then c0
    else match helloCheck c m with
    | some k => c.mod (fun d => answerPair .policy (modPair (fun p => { p with seen := false, key := false, nonce := [], helloSent := false })
        (raise 0x8010 0xFFFF k (m.serial % 2 ^ 32) d)))
    | none =>
      if !meets c.d m then c
      else if pairMode c.d = some 0 ∧ m.holdsSlices ∧ !(slicesInUse c.d).isEmpty then c.mod (answerPair .policy)
      else formPair m c

/-- `HELLO` (R374, R375). -/
def execHello (auth : Bool) (m : HelloMsg) (s : State) : Ans :=
  withCx s (if !linkUp s.dev then s.cx else if auth then takeHello m s.cx else s.cx.mod (raise 0x8011 0xFFFF 1 0))

/-! ## Resynchronisation (R392) -/

/-- A slot as received, its counter no lower than this device's at the same version; its counts are this device's no more. -/
def mergeSlot (old new : Slot) : Slot :=
  let n := { new with ranges := [], asked := false, void := false }
  if old.version = n.version ∧ old.st ≠ .empty then
    { n with resEnd := max old.resEnd n.resEnd, st := if old.st = .exhausted ∧ n.st = .live then .exhausted else n.st }
  else n

/-- A slice as received: BOUND, as after a device reset (R313, R392). -/
def receiveSlice (n : Nat) (p : SliceRec) (d : Dev) : Dev :=
  modSlice n (fun s => cleanSlice { s with per := { p with slots := p.slots.map (fun (k, x) => (k, mergeSlot (slotOf s k) x)) } } .bound) d

/-- Steps the primary's state already holds end here. -/
def settleSequenced (d : Dev) : Dev :=
  let done := fun (p : Pend) => sequencedTo d.store.seq p || p.mirrored
  (d.pair.steps.filter done).foldl (fun d p => finishStep p.origin p.draft [] false (nextSeq d) d)
    (modPair (fun x => { x with steps := x.steps.filter (fun p => !done p) }) d)

/-- The secondary takes over the primary's persistent state: intake closes, items end, and every slice is as received (R392). -/
def takeResync (m : ResyncMsg) (d : Dev) : Dev :=
  if d.pair.state ≠ .forming ∨ d.pair.role ≠ .secondary then d else
  let d1 := settleSequenced ((slicesInUse d).foldl (fun d e => purgeItems e.1 (modSlice e.1 (fun s => { s with intake := false }) d)) d)
  let d2 := ((slicesInUse d1).filter (fun e => m.slices.all (fun x => x.1 != e.1))).foldl (fun d e => removeSlice e.1 d) d1
  let d3 : Dev := { d2 with keys := { d2.keys with cache := [] }, sched := { d2.sched with flows := [] } }
  let d4 := m.slices.foldl (fun d e => receiveSlice e.1 e.2 d) d3
  let d5 := endSessionsOf 0xFFFF (fun i => m.officers.members.all (fun x => x.index != i)) (setOfficers 0xFFFF m.officers d4)
  let d6 : Dev := { d5 with store := { d5.store with journal := [], seq := m.journalSeq, chain := m.chain } }
  answerPair .ok (modPair (fun p => { p with resync := true, resyncKib := p.resyncKib + m.kib, partnerSeq := m.journalSeq }) d6)

/-- `RESYNC` (R392). -/
def execResync (auth : Bool) (m : ResyncMsg) (s : State) : Ans := onFrame 6 auth (fun c => c.mod (takeResync m)) s

/-- `RESYNC_COMPLETE`: the secondary is level, and the pair is PAIRED (R380, R392, R399). -/
def execResyncComplete (s : State) : Ans :=
  withCx s (
    let p := s.dev.pair
    if !linkUp s.dev || p.state != .forming || p.role == .none || (p.role == .secondary && decide (s.dev.store.seq < p.partnerSeq)) then s.cx
    else enterPaired (s.cx.mod (fun d =>
      if p.role = .primary then d
      else if p.resync then raise 0x8005 0xFFFF p.resyncKib (partnerLow d) d
      else raise 0x8004 0xFFFF (d.store.seq - p.formSeq) (partnerLow d) d)))

/-! ## Control (R374, R386, R395) -/

/-- A secondary that is handed the role leads from the last position. -/
def takeRole (d : Dev) : Dev :=
  askAgain (answerPair .ok (raise 0x8008 0xFFFF 0 (partnerLow d) (modPair (fun p => { p with role := .primary, held := false }) d)))

/-- A received `CONTROL`. -/
def takeControl (m : ControlMsg) (d : Dev) : Dev :=
  match m with
  | .swap position =>
    if d.pair.state ≠ .paired then d
    else if d.pair.role = .primary then handOver d
    else if position = d.store.seq then takeRole d else d
  | .setTime t =>
    if d.pair.state = .paired ∧ d.pair.role = .secondary then modPair (fun p => { p with ahead := 0 }) (setTime t d) else d
  | .rekey => modPair (fun p => { p with frames := 0 }) d

/-- `CONTROL` (R374, R386, R395). -/
def execControl (auth : Bool) (m : ControlMsg) (s : State) : Ans := onFrame 8 auth (fun c => c.mod (takeControl m)) s

end Sys2Proof.Machine
end

