-- ==== Sys2Proof/Machine/Events.lean ====
section
/-! DEFINITION. What the recorder, the bandwidth monitors and the dump engine do of their own (14).
Marks: assumptions 100, 105. -/

namespace Sys2Proof.Machine

/-- `EVENT_RECORD_WRITE` (R402, R405, R406): the oldest request is written; responses that waited for an entry go out (R266). -/
def execEventRecordWrite (s : State) : Ans := onDev (fun d => if alive d then releaseRecordWaits (writeRecord d) else d) s

/-- `TOKEN_ADD` (R408). -/
def execTokenAdd (code : Nat) (s : State) : Ans := onDev (fun d => if alive d then addToken code d else d) s

/-- `SUPPRESSION_SUMMARY` (R409): windows are counted from READY. -/
def execSuppressionSummary (s : State) : Ans := onDev (fun d => if alive d && d.sys.ready then windowEnd d else d) s

/-- A window of a monitor ends: `BW_LAST`, and the peak where the window exceeds it (R420). -/
def endWindow (m bytes : Nat) (d : Dev) : Dev :=
  let x := monOf d m
  let more := decide (x.peak < bytes)
  { d with ctr := { d.ctr with mon := Tab.put d.ctr.mon m { x with
    last := bytes
    peak := if more then bytes else x.peak
    peakTime := if more then now d else x.peakTime } } }

/-- `BWMON_WINDOW_END` (R420), with the payload bytes the window counted. -/
def execBwmonWindowEnd (m bytes : Nat) (s : State) : Ans :=
  onUnit (decide (m < 8)) (fun d => if alive d && (monOf d m).window != 0 then endWindow m bytes d else d) s

/-- The 2,240 bytes of a snapshot (R421). -/
def snapshot (seq : Nat) (d : Dev) : List Byte :=
  leBytes 8 seq ++ leBytes 8 (now d) ++ leBytes 4 d.ctr.dumpPeriod ++ leBytes 4 d.ctr.missed ++ List.replicate 8 0
    ++ ((List.range 256).map (fun k => leBytes 8 (ctrValue (ctrOf d k)))).flatten
    ++ ((List.range 8).map (fun m => leBytes 8 (monOf d m).last ++ leBytes 8 (monOf d m).peak)).flatten ++ List.replicate 32 0

/-- A snapshot is latched and written into its slot, then vector 10 is signalled where `DFLAGS` asks (R63, R421). -/
def writeSnapshot (d : Dev) : Dev :=
  let n := d.ctr.dumpSeq + 1
  let d1 := emit (.dump (d.ctr.dumpAddr + n % d.ctr.dumpSlots * 2240) (snapshot n d))
    { d with ctr := { d.ctr with dumpSeq := n, missed := 0 } }
  if d.ctr.dumpSignal then signal 10 d1 else d1

/-- A snapshot is skipped (R421). -/
def skipSnapshot (d : Dev) : Dev :=
  { d with ctr := { d.ctr with missed := sat 0xFFFFFFFF (d.ctr.missed + 1), dumpMissed := sat 0xFFFFFFFF (d.ctr.dumpMissed + 1) } }

/-- `DUMP_PERIOD_END` (R421); `late` where the previous snapshot is not yet written. -/
def execDumpPeriodEnd (late : Bool) (s : State) : Ans := onDev (fun d =>
  if !alive d || devFault d || d.ctr.dumpPeriod == 0 then d else if late then skipSnapshot d else writeSnapshot d) s

end Sys2Proof.Machine
end

