-- ==== Sys2Proof/Machine/Boot.lean ====
section
/-! DEFINITION. Resets and start-up (15, 16): what a reset keeps, the straps, the KSK and its share, the image, READY, and the restart of
the CP.
Marks: assumptions 17 to 27, 111. -/

namespace Sys2Proof.Machine

/-! ## What a reset loses (R313, R405, R422, R424, R443) -/

/-- Steps both journals may hold, or that this journal holds, stand: they take effect as the device leaves the pair (R384, R390). -/
def settleSteps (c : Cx) : Cx :=
  let held := fun (p : Pend) => p.mirrored || sequencedTo c.d.store.seq p
  let ps := c.d.pair.steps.filter held
  ps.foldl (fun c p => applyStep { p with origin := .device } true c) (c.mod (modPair (fun x => { x with steps := [] })))

/-- A slot's persistent share (R117, R120). -/
def keptSlot (s : Slot) : Slot := { s with ranges := [], asked := false, void := false }

/-- The persistent part of the slices that are not FREE; each is BOUND at the next READY (R313). -/
def keptSlices (t : Tab Slice) : Tab Slice :=
  t.map (fun (k, s) => (k,
    if s.state = .free then {}
    else { per := { s.per with slots := s.per.slots.map (fun (j, x) => (j, keptSlot x)) }, state := .bound }))

/-- The device in reset: Skerry's contents, the pins' levels, and nothing else (R424). `port` keeps the service port's response. -/
def cleared (port : Bool) (d : Dev) : Dev :=
  { sys := {
      powered := d.sys.powered
      inReset := true
      resetLow := d.sys.resetLow
      perstHigh := d.sys.perstHigh
      pulses := d.sys.pulses
      lc := d.sys.lc
      pg40 := d.sys.pg40
      serial := d.sys.serial
      share := d.sys.share
      startOwed := d.sys.startOwed }
    hif := { ideRequired := d.hif.ideRequired }
    slices := keptSlices d.slices
    mg := { officers := d.mg.officers }
    rng := { drawn := d.rng.drawn }
    store := d.store
    log := {
      head := d.log.resEnd
      resEnd := d.log.resEnd
      clearMark := d.log.clearMark
      circ := d.log.circ
      perm := d.log.perm
      rates := d.log.rates }
    fw := {
      bank0 := d.fw.bank0
      bank1 := d.fw.bank1
      active := d.fw.active
      response := if port then d.fw.response else none }
    out := d.out }

/-- A reset of the device as a whole begins. -/
def enterReset (port : Bool) (c : Cx) : Cx := (settleSteps c).mod (cleared port)

/-! ## Halt and recovery (R429) -/

/-- A start that cannot reach READY: stage, cause, and record `0x0003`, which a start without a KSK never writes. -/
def stopStart (stage cause p2 : Nat) (d : Dev) : Dev :=
  let d1 : Dev := { d with sys := { d.sys with stage, haltCause := cause, bootMs := d.sys.uptime / 1000000 } }
  if cause = 1 then d1 else raise 0x0003 0xFFFF cause p2 d1

/-! ## The KSK (R101, R356) -/

/-- The KSK and the region keys exist: `STAGE` 1, the start record, and a debug reopening not yet logged (R101, R369, R427, R450). -/
def formKsk (c : Cx) : Cx :=
  let d1 : Dev := { c.d with sys := { c.d.sys with ksk := true, share := .written, stage := 1 } }
  let d2 := raise 0x0001 0xFFFF d1.sys.cause.toNat (d1.fw.active.getD 0 + fuseCount c.f.secVersion * 256) d1
  if fuseCount c.f.reopenLogged < fuseCount c.f.debugReopen then
    { d := raise 0x2004 0xFFFF (fuseCount c.f.debugReopen) 0 d2, f := { c.f with reopenLogged := blowNext c.f.reopenLogged } }
  else { c with d := d2 }

/-- The start waits for its KSK: the external lines checked, the PUF response corrected, the life cycle valid (R101, R351, R427). -/
def awaitsKsk (d : Dev) : Bool :=
  alive d && !d.goose.checkDue && d.sys.pufOk && !d.sys.ksk && d.sys.stage == 0 && d.sys.lc != 2 && !d.goose.eraseBegun

/-- The KSK from its share; a share never written or erased is drawn anew once the instances serve (R101, R249). -/
def keyStep (c : Cx) : Cx :=
  if !awaitsKsk c.d then c
  else if c.d.sys.share = .written then formKsk c
  else if rngServing c.d && (nextInstantiation c.d).isNone then formKsk (c.mod (cpDraw 32))
  else c

/-- `EXT_TAMPER_POWERUP_CHECK`: a line without a high and a low phase within limits is latched and responds; only then is a KSK formed
(R351, R427 steps 2 and 4). -/
def execExtTamperPowerupCheck (s : State) : Ans :=
  withCx s (
    let g := s.dev.goose
    if !alive s.dev || !g.checkDue then s.cx
    else keyStep (alarms ((if g.aPhases < 2 then [6] else []) ++ (if g.bPhases < 2 then [7] else [])) true
      (s.cx.mod (modGoose (fun g => { g with checkDue := false })))))

/-- `INSTANCE_INSTANTIATE` (R245, R247, R249, R254); a share that waits is drawn with the last instance (R101). -/
def execInstanceInstantiate (s : State) : Ans := withCx s (keyStep (s.cx.mod instantiate))

/-- Every Skerry region but the share reads as blank after an Erase; what the event areas hold no longer authenticates, and numbers
resume at `ERASE_COUNT` × 2^56 (R356, R407). -/
def blankSkerry (count : Nat) (d : Dev) : Dev :=
  let old := fun (t : Tab EvRec) => t.map (fun (k, r) => (k, { r with readable := false }))
  { d with
    sys := { d.sys with startOwed := true }
    hif := { d.hif with ideRequired := false }
    slices := []
    mg := { d.mg with officers := {} }
    store := {}
    log := { head := count * 2 ^ 56, resEnd := count * 2 ^ 56, circ := old d.log.circ, perm := old d.log.perm }
    fw := { d.fw with bank0 := none, bank1 := none, active := none } }

/-! ## The start (R427) -/

/-- What the boot ROM senses: all 64 bits of `ERASE_COUNT` blown decode as invalid (R356, R362). -/
def sensedLc (f : Fuses) : Nat := if fuseCount f.eraseCount = 64 then 2 else lcState f

/-- Record `0x2005` where one copy dissents (R362). -/
def dissent (c : Cx) : Cx :=
  let ds := [lcDecode c.f.lc0, lcDecode c.f.lc1, lcDecode c.f.lc2]
  if c.d.sys.lc ≠ 2 ∧ ds.any (· != c.d.sys.lc) then
    c.mod (raise 0x2005 0xFFFF (ds.getD 0 0 + ds.getD 1 0 * 4 + ds.getD 2 0 * 16) c.d.sys.lc)
  else c

/-- The start-up known-answer tests (R253, R254). -/
def startTests (fails : Nat) (d : Dev) : Dev :=
  if fails = 0 then modRng (fun r => { r with kat := true }) d
  else failRng (raise 0x6006 0xFFFF (if bitAt fails 0 then 1 else 2) 0 d)

/-- The state invalid: halted, with Ewenkober serving where the active bank still decrypts (R365, R429). -/
def haltInvalid (d : Dev) : Dev :=
  let keyed := d.sys.pufOk && d.sys.share == .written
  let d1 := stopStart 6 2 0 d
  { d1 with sys := { d1.sys with ksk := keyed, cpUp := keyed && d.fw.active.isSome } }

/-- A start from the release of a reset (R347, R377, R427, R459): `cause` is the bit of `RESET_CAUSE`. -/
def start (p : Pins) (cause : Nat) (c : Cx) : Cx :=
  let d1 : Dev := { c.d with
    sys := { c.d.sys with
      powered := true
      inReset := false
      resetLow := false
      pairEn := p.pairEn
      preferPrimary := p.preferPrimary
      lc := sensedLc c.f
      pg40 := c.f.part == .pg40
      serial := c.f.serial.toNat
      cause := BitVec.ofNat 6 (2 ^ cause)
      pufReads := 1
      pufOk := p.pufOk && !c.f.secretsBlown }
    goose := { armed := true }
    pair := { state := if groupId c.f = 0 then .unpaired else .seeking } }
  let d2 := if d1.sys.share = .erased then blankSkerry (fuseCount c.f.eraseCount) d1 else d1
  let c1 := (dissent { c with d := d2 }).mod (startTests p.katFails)
  if c1.d.sys.lc = 2 then c1.mod haltInvalid else c1

/-! ## The reset pins and the host's resets (R34, R424, R425, R461) -/

/-- `RESET_n` low for at least 100 ns resets, below 20 ns never; between, either (R461). -/
def resetsAt (heldNs pulse : Nat) : Bool := decide (100 ≤ heldNs) || (decide (20 ≤ heldNs) && Config.shortPulse pulse)

/-- `RESET_N_ASSERT` (R424, R461). -/
def execResetNAssert (heldNs : Nat) (s : State) : Ans :=
  resetTo s (
    if !s.dev.sys.powered || s.dev.sys.resetLow then s.cx else
    let c := if 20 ≤ heldNs ∧ heldNs < 100 then
        s.cx.mod (fun d => { d with sys := { d.sys with pulses := d.sys.pulses + 1 } }) else s.cx
    if resetsAt heldNs s.dev.sys.pulses then
      enterReset false (c.mod (fun d => { d with sys := { d.sys with resetLow := true } })) else c)

/-- `RESET_N_RELEASE`, and with it the return of power after a loss (R425, R427). -/
def execResetNRelease (p : Pins) (s : State) : Ans :=
  resetTo s (if s.dev.sys.resetLow then start p 0 s.cx else s.cx)

/-- `POWER_LOSS` (R325, R347). -/
def execPowerLoss (s : State) : Ans :=
  resetTo s (
    if !s.dev.sys.powered then s.cx
    else enterReset false (s.cx.mod (fun d => { d with sys := { d.sys with powered := false, resetLow := true } })))

/-- A reset from the host's side or of Ewenkober's: `RELINQUISH` first, then the reset, held while `PERST_n` is low (R388, R424). -/
def hostReset (p : Pins) (cause : Nat) (c : Cx) : Cx :=
  let c1 := enterReset true (c.mod relinquish)
  if c1.d.sys.perstHigh then start p cause c1 else c1

/-- `PERST_N_ASSERT`: a reset only where `PERST_n` has been high; the device is held until it is high again (R424, R425). -/
def execPerstNAssert (s : State) : Ans :=
  resetTo s (
    let low := fun (d : Dev) => { d with sys := { d.sys with perstHigh := false } }
    if alive s.dev && s.dev.sys.perstHigh then hostReset {} 1 (s.cx.mod low) else s.cx.mod low)

/-- `PERST_N_RELEASE`: ends the hold of a device reset; at power-up only the PCIe controller waited for it (R33, R424, R425). -/
def execPerstNRelease (p : Pins) (s : State) : Ans :=
  resetTo s (
    let c := s.cx.mod (fun d => { d with sys := { d.sys with perstHigh := true } })
    if c.d.sys.inReset && !c.d.sys.resetLow && c.d.sys.powered then start p 1 c else c)

/-- The PCIe link is up. -/
def linked (d : Dev) : Bool := alive d && d.sys.perstHigh

/-- `HOT_RESET` (R34). -/
def execHotReset (p : Pins) (s : State) : Ans := resetTo s (if linked s.dev then hostReset p 2 s.cx else s.cx)

/-- `LINK_DOWN` (R34). -/
def execLinkDown (p : Pins) (s : State) : Ans := resetTo s (if linked s.dev then hostReset p 3 s.cx else s.cx)

/-- `DEV_RESET_START` (R285, R367). -/
def execDevResetStart (p : Pins) (s : State) : Ans :=
  resetTo s (match s.dev.sys.scheduled with
    | some .devReset => if alive s.dev then hostReset p 4 s.cx else s.cx
    | some .lcClose => if alive s.dev then hostReset p 5 s.cx else s.cx
    | _ => s.cx)

/-! ## From the KSK to READY (R101, R427, R428) -/

/-- `PUF_REREAD` (R101): at most four readings in total; after the fourth the device halts. -/
def execPufReread (ok : Bool) (s : State) : Ans :=
  withCx s (
    if !alive s.dev || s.dev.sys.pufOk || s.dev.sys.stage != 0 then s.cx else
    let good := ok && !s.fuse.secretsBlown
    let c := s.cx.mod (fun d => { d with sys := { d.sys with pufReads := d.sys.pufReads + 1, pufOk := good } })
    if good then keyStep c else if c.d.sys.pufReads < 4 then c else c.mod (stopStart 6 1 0))

/-- The active bank's image. -/
def activeBank (w : Firmware) : Option Bank :=
  match w.active with
  | some 0 => w.bank0
  | some _ => w.bank1
  | none => none

/-- The fuse steps until its count is that of the image (R447). -/
def stepFuse {w : Nat} (target : Nat) (x : BitVec w) : BitVec w :=
  (List.range (target - fuseCount x)).foldl (fun y _ => blowNext y) x

/-- Why the boot ROM turns the active bank away (R428, R429): 6 no image, 3 verification, 5 security version. -/
def imageFails (v : BootVerdict) (c : Cx) : Option Nat :=
  match activeBank c.d.fw with
  | none => some 6
  | some b =>
    if !(v.digestOk && v.vendorOk && (c.d.sys.lc != 1 || (b.owner && v.ownerOk))) then some 3
    else if b.sec < fuseCount c.f.secVersion then some 5
    else none

/-- Ewenkober starts: the fuse is stepped first, and after an Erase record `0x1010` follows (R356, R428, R447). -/
def startImage (c : Cx) : Cx :=
  let d1 : Dev := { c.d with sys := { c.d.sys with
    stage := 3, haltCause := 0, cpUp := true, watchdogKick := c.d.sys.uptime, startOwed := false } }
  { d := if c.d.sys.startOwed then raise 0x1010 0xFFFF (fuseCount c.f.eraseCount) (fuseCount c.f.debugReopen) d1 else d1
    f := { c.f with secVersion := stepFuse (((activeBank c.d.fw).map (·.sec)).getD 0) c.f.secVersion } }

/-- `BOOT_IMAGE_VERIFY` (R428, R429): Ewenkober starts, or the device enters recovery. -/
def execBootImageVerify (v : BootVerdict) (s : State) : Ans :=
  withCx s (
    let y := s.dev.sys
    if !alive s.dev || !y.ksk || !(y.stage == 1 || y.stage == 2) then s.cx
    else match imageFails v s.cx with
    | some k => s.cx.mod (stopStart 5 k 0)
    | none => startImage s.cx)

/-- Fences a unit by its class (R346). -/
def fenceUnit (cls unit cause : Nat) (d : Dev) : Dev :=
  match cls with
  | 1 => fenceCore unit cause d
  | 2 => fencePool .cipher unit cause d
  | 3 => fencePool .digest unit cause d
  | 4 => fencePool .pk unit cause d
  | 5 => fenceBank unit cause d
  | _ => fenceInst unit cause d

def unitExists (d : Dev) (cls unit : Nat) : Bool :=
  match cls with
  | 1 => decide (unit < coreCount d)
  | 2 => decide (unit < ceCount d)
  | 3 => decide (unit < deCount d)
  | 4 => decide (unit < pkCount d)
  | 5 | 6 => decide (unit < 16)
  | _ => false

/-- A unit fails its start-up self-test: fenced from reset with cause 8, and record `0x5011` (R328). -/
def failSelfTest (d : Dev) (u : Nat × Nat) : Dev :=
  raise 0x5011 u.2 u.2 0 (fenceUnit u.1 u.2 8 d)

/-- READY (R313, R314, R382, R427): the slices whose records do not authenticate are in ERROR, all others BOUND. -/
def becomeReady (badSlices : List Nat) (d : Dev) : Dev :=
  let ms := d.sys.uptime / 1000000
  let d1 : Dev := { d with
    sys := { d.sys with ready := true, stage := 4, bootMs := ms }
    pair := { d.pair with timer := if d.pair.state = .seeking then .ready else d.pair.timer }
    fen := { d.fen with muleProgress := d.sys.uptime } }
  let bad := (d1.slices.map (·.1)).filter (fun n => !(sliceOf d1 n).per.sound || badSlices.contains n)
  resubmit (bad.foldl (fun d n => enterError n 1 d) (raise 0x0002 0xFFFF (sat 0xFFFF ms) d.fen.atStart d1))

/-- `DEVICE_READY` (R97, R328, R427, R429): the units load and test themselves. `selfTestFails` and `loadFail` name a class and a unit of
R346. READY needs the random supply, unless that has failed for good (R252, R427). -/
def execDeviceReady (selfTestFails : List (Nat × Nat)) (loadFail : Option (Nat × Nat)) (badSlices : List Nat) (s : State) : Ans :=
  onUnit (selfTestFails.all (fun u => unitExists s.dev u.1 u.2) && loadFail.all (fun u => unitExists s.dev u.1 u.2)) (fun d =>
    if !alive d || d.sys.stage != 3 || !d.sys.cpUp || !(rngServing d || d.rng.failed) then d else
    let d1 := selfTestFails.foldl failSelfTest d
    let d2 : Dev := { d1 with fen := { d1.fen with atStart := selfTestFails.length } }
    match loadFail with
    | some u => stopStart 6 4 (u.1 + u.2 * 256) d2
    | none => becomeReady badSlices d2) s

/-! ## The CP's restart and activation (R264, R443, R445) -/

/-- The body of `FW_ACTIVATE` (R445). -/
def activateBody (c : Cx) : List Byte :=
  leBytes 4 (fwVersions c.d) ++ [byteOf (c.d.fw.active.getD 0), byteOf (fuseCount c.f.secVersion), 0, 0]

/-- A request that was BUSY when the CP went down: `ST_CP_RESTART` with `ABANDONED`, but for the activation's own, which the new firmware
answers (R264). An SPDM request is gone with its session's state. -/
def answerAbandoned (c : Cx) (m : Nat) (d : Dev) : Dev :=
  let b := mailboxOf d m
  if b.state ≠ .busy then d
  else if 256 ≤ m then modBox m (fun b => { b with state := .idle, cur := none, wait := .none }) d
  else if d.sys.cpActivation && d.fw.mailbox == some m then answer m .ok (activateBody c) [] false (nextSeq d) d
  else
    let d1 := modBox m (fun b => { b with abandoned := true }) d
    if b.cur.isSome then answer m .cpRestart [] [] false (nextSeq d1) d1 else answerRaw m .cpRestart d1

/-- `CP_RESTART_COMPLETE` (R264, R443, R445): a reception ends with code 11, an activation with staging NONE. -/
def execCpRestartComplete (s : State) : Ans :=
  withCx s (
    if !alive s.dev || !s.dev.sys.cpRestart then s.cx else
    let act := s.dev.sys.cpActivation
    let c := s.cx.mod (fun d => { d with sys := { d.sys with cpUp := true, cpRestart := false, watchdogKick := d.sys.uptime } })
    let d1 := (c.d.mg.boxes.map (·.1)).foldl (fun d m => answerAbandoned c m d) c.d
    let d2 : Dev :=
      if act then answerActivate 0 (leBytes 4 (fwVersions d1)) { d1 with fw := { d1.fw with
        staging := .none, package := [], total := 0, staged := none, stagedKind := 0, step := 0, mailbox := none } }
      else if d1.fw.staging = .receiving then raise 0x7005 0xFFFF 4 (newFw d1) (dropStaging 11 d1)
      else { d1 with fw := { d1.fw with mailbox := none } }
    { c with d := { d2 with sys := { d2.sys with cpActivation := false } } })

/-- Items dispatched and not ended. -/
def dispatched (d : Dev) : List Nat :=
  ((itemList d).filter (fun e => match e.2.place with
    | .running _ _ | .preempted _ _ => true
    | _ => false)).map (·.1)

/-- `ACTIVATION_DRAIN_EXPIRY` (R93, R445). -/
def execActivationDrainExpiry (s : State) : Ans := onDev (fun d =>
  let ids := (dispatched d).filter (fun id => (itemOf d id).any (fun i => i.res.isNone && !i.abort))
  if !alive d || d.fw.step != 2 || ids.isEmpty then d
  else raise 0x7006 0xFFFF ids.length 0 (ids.foldl (fun d id => abortItem id d) d)) s

/-- `ACTIVATION_BANK_COMMIT` (R445 step 4): once every dispatched item has ended, the new image is the device's image. -/
def execActivationBankCommit (s : State) : Ans := onDev (fun d =>
  if !alive d || devFault d || !d.sys.ksk || d.fw.step != 2 || !(dispatched d).isEmpty then d
  else { d with fw := { d.fw with active := some (inactiveBank d.fw), step := 4 } }) s

/-- `ACTIVATION_LOAD_COMPLETE` (R445 steps 5 to 8): cores whose load fails are fenced with cause 8; intake reopens, the fuse steps, and the
CP restarts. -/
def execActivationLoadComplete (failedCores : List Nat) (s : State) : Ans :=
  if !failedCores.all (fun n => decide (n < coreCount s.dev)) then .fault .noSuchUnit else
  withCx s (
    if !alive s.dev || devFault s.dev || s.dev.fw.step != 4 then s.cx else
    let d1 := failedCores.foldl (fun d n => fenceCore n 8 d) s.dev
    let d2 := loseCp { d1 with
      fw := { d1.fw with step := 8 }
      sys := { d1.sys with cpUp := false, cpRestart := true, cpActivation := true } }
    { d := d2, f := { s.fuse with secVersion := stepFuse (((activeBank s.dev.fw).map (·.sec)).getD 0) s.fuse.secVersion } })

end Sys2Proof.Machine
end

