-- ==== Sys2Proof/Machine/Bulk.lean ====
section
/-! DEFINITION. The bulk opcodes (R178 to R208): data ciphers, MACs and digests on the engines.
Marks: assumptions 52, 53 (DEDUCED). -/

namespace Sys2Proof.Machine

/-! ## GCM with any IV (R194) -/

/-- The initial counter block of GCM (SP 800-38D). -/
def gcmJ0 (k iv : List Byte) : List Byte :=
  if iv.length = 12 then iv ++ [0, 0, 0, 1]
  else
    let h := BitVec.ofNat 128 (beNat ((aes k).enc (List.replicate 16 0)))
    beBytes 16 (ghash h (pad16 iv ++ List.replicate 8 0 ++ beBytes 8 (8 * iv.length))).toNat

/-- The next counter block, stepping the low 32 bits. -/
def inc32 (j : List Byte) : List Byte := j.take 12 ++ beBytes 4 ((beNat (j.drop 12) + 1) % 2 ^ 32)

/-- GCM's keystream applied to data. -/
def gcmData (k iv m : List Byte) : List Byte := ctrMode (aes k) 32 (inc32 (gcmJ0 k iv)) m

/-- GCM's tag over associated data and ciphertext. -/
def gcmMac (k iv aad ct : List Byte) : List Byte :=
  let c := aes k
  let h := BitVec.ofNat 128 (beNat (c.enc (List.replicate 16 0)))
  xorB (beBytes 16 (ghash h (pad16 aad ++ pad16 ct ++ beBytes 8 (8 * aad.length) ++ beBytes 8 (8 * ct.length))).toNat)
    (c.enc (gcmJ0 k iv))

/-! ## Data ciphers (R185 to R196) -/

def aead (mode : Nat) : Bool := mode == 6 || mode == 7

/-- Format conditions of the parameter block that read only the descriptor (R185 to R188, R194). -/
def dataFormatOk (enc : Bool) (c : Ctx) : Bool :=
  let mode := c.p 0x38 1
  let fl := c.p 0x39 1
  let cb := c.p 0x3A 1
  let il := c.p 0x3B 1
  let tl := c.p 0x3C 1
  let chain := decide (1 ≤ mode) && decide (mode ≤ 5)
  fmtOk c 48 1 true && decide (mode ≤ 7) && decide (fl < 2) && (fl == 0 || (enc && chain))
    && (if mode = 5 then cb == 32 || cb == 64 || cb == 128 else cb == 0)
    && (if enc || !aead mode then il == 0
        else if mode = 6 then decide (1 ≤ il) && decide (il ≤ 16) else decide (7 ≤ il) && decide (il ≤ 13))
    && (if mode = 6 then decide (12 ≤ tl) && decide (tl ≤ 16)
        else if mode = 7 then decide (4 ≤ tl) && decide (tl ≤ 16) && tl % 2 == 0 else tl == 0)
    && c.p 0x3D 3 == 0 && (aead mode || c.p 0x44 4 == 0)
    && (if chain && fl == 0 then true else if aead mode && !enc then zeroFrom (c.pb 0x48 16) il 16 else c.p 0x48 16 == 0)
    && zeroFrom (c.pb 0x58 16) (if aead mode && !enc then tl else 0) 16

/-- Length conditions that read only the descriptor (R184, R186, R194, R206). -/
def dataLengthOk (enc : Bool) (c : Ctx) : Bool :=
  let mode := c.p 0x38 1
  let n := c.p 0x40 4
  let a := c.p 0x44 4
  decide (n ≤ if aead mode then 262144 else 16777216) && decide (a ≤ 65536) && (decide (1 < mode) || n % 8 == 0)
    && (decide (mode ≠ 7) || enc || decide (n < 2 ^ (8 * (15 - c.p 0x3B 1))))
    && inLenOk c 48 (a + n + 20480) && areaOk c (a + n) (a + n + 20480) [dKeyA c.i.desc]
    && outLenOk c (if aead mode && enc then n + c.p 0x3C 1 else n)

/-- What a mode outputs for data, by direction. -/
def runMode (ci : Cipher) (mode cb : Nat) (enc : Bool) (iv m : List Byte) : List Byte :=
  match mode with
  | 0 => if enc then ecbEnc ci m else ecbDec ci m
  | 1 => if enc then cbcEnc ci iv m else cbcDec ci iv m
  | 2 => cfb ci 1 (!enc) iv m
  | 3 => cfb ci ci.size (!enc) iv m
  | 4 => ofb ci iv m
  | _ => ctrMode ci cb iv m

/-- `CHAIN` (R189), from the IV and the ciphertext. -/
def chainValue (ci : Cipher) (mode cb : Nat) (iv ct : List Byte) : List Byte :=
  let blocks := (ct.length + ci.size - 1) / ci.size
  match mode with
  | 1 | 2 | 3 => (iv ++ ct).drop ct.length
  | 4 => (List.range blocks).foldl (fun v _ => ci.enc v) iv
  | 5 =>
    let v := beNat iv
    beBytes ci.size (v / 2 ^ cb * 2 ^ cb + (v % 2 ^ cb + blocks) % 2 ^ cb)
  | _ => []

/-- The nonce the device forms for a GCM or CCM encryption (R192). -/
def deviceNonce (slice slot version count : Nat) : List Byte :=
  beBytes 12 (slice * 2 ^ 84 + slot * 2 ^ 78 + version * 2 ^ 46 + count)

/-- Counts a data command draws (R191). -/
def dataCounts (mode bl n : Nat) : Nat := if aead mode then 1 else if mode = 2 then n else (n + bl - 1) / bl

/-- `DATA_ENCRYPT` and `DATA_DECRYPT` (R183, R185 to R196). -/
def dataCmd (enc : Bool) (c : Ctx) : M Act := do
  let mode := c.p 0x38 1
  let dev := bitAt (c.p 0x39 1) 0
  let cb := c.p 0x3A 1
  let tl := c.p 0x3C 1
  let n := c.p 0x40 4
  let an := c.p 0x44 4
  chk (dataFormatOk enc c) .format
  chk (dataLengthOk enc c) .length
  let inp := c.input 48
  let k ← lookupAt c 0 (dKeyA c.i.desc) inp allKinds (needs (fun a =>
    a.usage == .D0 && symmetric a.alg && (a.mode == .B || a.mode == if enc then .E else .D) && (a.alg == .A || !aead mode)))
  let a := k.key.attr.alg
  let ci := cipherOf a k.key.bytes
  chk (!(enc && aead mode) || k.slot.isSome) .keyUsage
  chk (!(enc && a == .T) || decide (16 < k.key.bytes.length)) .keyStrength
  chk (a == .A || (cb != 128 && c.p 0x50 8 == 0)) .format
  let iv0 := (c.pb 0x48 16).take ci.size
  let blocks := (n + ci.size - 1) / ci.size
  chk ((a == .A || decide (n ≤ 8388608)) && (decide (1 < mode) || n % ci.size == 0)
    && (decide (mode ≠ 5) || decide ((if dev then 0 else beNat iv0 % 2 ^ cb) + blocks ≤ 2 ^ cb))) .length
  let ks ← drawCounts c [(k, dataCounts mode ci.size n)]
  let rnd ← if dev then random ci.size else pure []
  let iv := if dev then (if mode = 5 then beBytes ci.size (beNat rnd / 2 ^ cb * 2 ^ cb) else rnd) else iv0
  let aad := inp.take an
  let m := slice8 inp an n
  if aead mode then
    let nonce := if enc then (match (ks.head?).bind (·.slot) with
        | some (sl, v) => deviceNonce c.i.slice sl v (((ks.head?).map (·.count)).getD 0)
        | none => List.replicate 12 0)
      else c.pb 0x48 (c.p 0x3B 1)
    let kb := k.key.bytes
    let o := if mode = 6 then gcmData kb nonce m else ccmCrypt kb nonce m
    let plain := if enc then m else o
    let ct := if enc then o else m
    let tag := if mode = 6 then (gcmMac kb nonce aad ct).take tl else ccmTag kb nonce aad plain tl
    let fixed := fit nonce 32
    if enc then pure (.engine .cipher (an + n) { status := .ok, out := ct ++ tag, fixed } .nothing)
    else if tag = c.pb 0x58 tl then pure (.engine .cipher (an + n) { status := .ok, out := plain, fixed } .nothing)
    else pure (.engine .cipher (an + n) { status := .tagMismatch } .nothing)
  else
    let o := runMode ci mode cb enc iv m
    let fixed := if mode = 0 then List.replicate 32 0 else fit iv 16 ++ fit (chainValue ci mode cb iv (if enc then o else m)) 16
    pure (.engine .cipher n { status := .ok, out := o, fixed } .nothing)

/-! ## Gather lists and messages (R199 to R201) -/

/-- The entries of a gather list: address, length, reserved word. -/
def gatherEntries (l : List Byte) : List (Nat × Nat × Nat) :=
  (List.range (l.length / 16)).map (fun i => (leAt l (16 * i) 8, leAt l (16 * i + 8) 4, leAt l (16 * i + 12) 4))

/-- Checks of a gather list (R200); its total length. -/
def gatherCheck (l : List Byte) (n : Nat) : Except Status Nat :=
  let es := gatherEntries l
  let total := es.foldl (fun t e => t + e.2.1) 0
  if es.any (fun e => e.2.2 != 0) then .error .format
  else if es.any (fun e => e.2.1 == 0xFFFFFFFF || (e.2.1 != 0 && decide (2 ^ 64 < e.1 + e.2.1))) then .error .length
  else if total < n then .error .length else .ok total

/-- Lengths of a digest-engine command: the data area of R199, or the gather list of R200. -/
def msgLengthOk (c : Ctx) (params n lim : Nat) (gather : Bool) (hs : List Nat) : Bool :=
  decide (n ≤ lim) &&
    (if gather then inLenOk c params 16384 && dInLen c.i.desc % 16 == 0 && decide (16 ≤ dInLen c.i.desc)
      else inLenOk c params (n + 20480) && areaOk c n (n + 20480) hs)

/-- The message of a digest-engine command, with whether its source delivered more than its length (R200, R201). -/
def message (c : Ctx) (params n : Nat) (gather : Bool) : M (List Byte × Bool) := do
  if gather then
    let total ← liftS (gatherCheck (c.input params) n)
    pure (fit (c.r.input.drop (dInLen c.i.desc)) n, decide (n < total))
  else pure ((c.input params).take n, false)

/-! ## Digests and MACs (R197, R198) -/

def hashOk (h : Nat) : Bool := decide (1 ≤ h) && decide (h ≤ 8)

/-- `DIGEST` (R197, R198). -/
def digestCmd (c : Ctx) : M Act := do
  let h := c.p 0x38 1
  let g := bitAt (c.p 0x39 1) 0
  let n := c.p 0x3C 4
  chk (fmtOk c 8 0 false && hashOk h && decide (c.p 0x39 1 < 2) && c.p 0x3A 2 == 0) .format
  chk (msgLengthOk c 8 n 1073741824 g [] && outLenOk c (hashLen h)) .length
  chk (decide (h ≠ 1)) .policy
  let (m, more) ← message c 8 n g
  pure (.engine .digest n { status := .ok, out := digest h m, trunc := more } .nothing)

/-- `DIGEST_VERIFY` (R198). -/
def digestVerify (c : Ctx) : M Act := do
  let h := c.p 0x38 1
  let g := bitAt (c.p 0x39 1) 0
  let n := c.p 0x3C 4
  chk (fmtOk c 72 0 false && hashOk h && decide (c.p 0x39 1 < 2) && c.p 0x3A 2 == 0 && zeroFrom (c.pb 0x40 64) (hashLen h) 64) .format
  chk (msgLengthOk c 72 n 1073741824 g [] && outLenOk c 0) .length
  let (m, more) ← message c 72 n g
  pure (.engine .digest n { status := if digest h m = c.pb 0x40 (hashLen h) then .ok else .digestMismatch, trunc := more } .nothing)

/-- `BULK_MAC_GENERATE` and `BULK_MAC_VERIFY` (R198). -/
def bulkMac (gen : Bool) (c : Ctx) : M Act := do
  let alg := c.p 0x38 1
  let h := c.p 0x39 1
  let ml := c.p 0x3A 1
  let g := bitAt (c.p 0x3B 1) 0
  let n := c.p 0x3C 4
  let hm := alg == 0x20
  chk (fmtOk c 72 1 false && decide (c.p 0x3B 1 < 2)
    && (if hm then hashOk h && decide (8 ≤ ml) && decide (ml ≤ hashLen h) && !(g && hKind (dKeyA c.i.desc) == 1)
        else alg == 0x05 && h == 0 && decide (4 ≤ ml) && decide (ml ≤ 16) && !g)
    && zeroFrom (c.pb 0x40 64) (if gen then 0 else ml) 64) .format
  chk (msgLengthOk c 72 n (if hm then 1073741824 else 16777216) g [dKeyA c.i.desc] && outLenOk c (if gen then ml else 0)) .length
  chk (!(gen && hm && h == 1)) .policy
  let k ← lookupAt c 0 (dKeyA c.i.desc) (c.input 72) allKinds (needs (fun a =>
    (a.mode == .C || a.mode == if gen then .G else .V)
      && (if hm then a.usage == .M7 && a.alg == .H && a.hm == some h else a.usage == .M6 && symmetric a.alg)))
  let a := k.key.attr.alg
  let ci := cipherOf a k.key.bytes
  chk (hm || a == .A || decide (ml ≤ 8)) .format
  let _ ← drawCounts c [(k, if hm then 0 else max 1 ((n + ci.size - 1) / ci.size))]
  let (m, more) ← message c 72 n g
  let v := (if hm then hmac h k.key.bytes m else cmac ci m).take ml
  let pool := if hm then Pool.digest else Pool.cipher
  if gen then pure (.engine pool n { status := .ok, out := v, trunc := more } .nothing)
  else pure (.engine pool n { status := if v = c.pb 0x40 ml then .ok else .macMismatch, trunc := more } .nothing)

/-- `HMAC_DERIVE_KEY` (R202). -/
def hmacDeriveKey (c : Ctx) : M Act := do
  let h := c.p 0x38 1
  let slot := c.p 0x39 1
  let g := bitAt (c.p 0x3C 1) 0
  let n := c.p 0x40 4
  let kb := c.p 0x4A 2
  let ceil := c.p 0x4C 6
  let u ← orFail (usageOf (byteOf (c.p 0x44 1)) (byteOf (c.p 0x45 1))) .format
  let a ← orFail (algOf (byteOf (c.p 0x46 1))) .format
  let md ← orFail (modeOf (byteOf (c.p 0x47 1))) .format
  let ex ← orFail (expoOf (byteOf (c.p 0x48 1))) .format
  chk (fmtOk c 26 1 true && hashOk h && decide (slot < 64) && decide (c.p 0x3A 1 < 2) && decide (c.p 0x3B 1 ≤ 1)
    && decide (c.p 0x3C 1 < 2) && c.p 0x3D 3 == 0 && c.p 0x49 1 == 0 && symmetric a && bitsOk a kb
    && decide (kb ≤ 8 * hashLen h) && !(g && hKind (dKeyA c.i.desc) == 1)) .format
  chk (msgLengthOk c 26 n 1073741824 g [dKeyA c.i.desc] && outLenOk c 0) .length
  slotWritePolicy c 1
  chk (decide (h ≠ 1)) .policy
  let k ← lookupAt c 0 (dKeyA c.i.desc) (c.input 26) allKinds
    (needs (fun x => x.usage == .M7 && x.alg == .H && x.mode == .X && x.hm == some h))
  chk (comboOk u a md) .keyUsage
  chk (decide (ceil < defaultCeiling u a)) .keyBlockFormat
  chk (decide (kb ≤ 8 * k.key.bytes.length)) .keyStrength
  let (m, more) ← message c 26 n g
  chk (!more) .length
  let attr : Attr := { usage := u, alg := a, mode := md, expo := ex, ceil9C := if ceil = 0 then none else some ceil }
  let key : Key := { attr, bytes := (hmac h k.key.bytes m).take (kb / 8) }
  if weakTdes a key.bytes then pure (.engine .digest n { status := .keyDamaged } .nothing)
  else pure (.engine .digest n { status := .ok, fixed := keyResult (c.i.slice * 2 ^ 48 + slot) 0 (kcv (c.p 0x3B 1) key) }
    (.step (.slotWrite slot key (ceilingOf attr) (bitAt (c.p 0x3A 1) 0))))

def execDataEncrypt (r : Run) (s : State) : Ans := runTx 0x0501 r (dataCmd true) s
def execDataDecrypt (r : Run) (s : State) : Ans := runTx 0x0502 r (dataCmd false) s
def execBulkMacGenerate (r : Run) (s : State) : Ans := runTx 0x0503 r (bulkMac true) s
def execBulkMacVerify (r : Run) (s : State) : Ans := runTx 0x0504 r (bulkMac false) s
def execDigest (r : Run) (s : State) : Ans := runTx 0x0505 r digestCmd s
def execDigestVerify (r : Run) (s : State) : Ans := runTx 0x0506 r digestVerify s
def execHmacDeriveKey (r : Run) (s : State) : Ans := runTx 0x0507 r hmacDeriveKey s

end Sys2Proof.Machine
end

