-- ==== Sys2Proof/Machine/Payment.lean ====
section
/-! DEFINITION. The payment opcodes (R137 to R177): PIN blocks, DUKPT, PIN methods, EMV, card check values and MACs.
Marks: assumptions 7 (PRESUMED), 51 (DEDUCED). -/

namespace Sys2Proof.Machine

/-! ## Digits and PAN (R145) -/

/-- The nibbles of bytes, left to right. -/
def nibs (l : List Byte) : List Nat := (l.map (fun b => [b.toNat / 16, b.toNat % 16])).flatten

/-- Nibbles packed into bytes. -/
def pack : List Nat → List Byte
  | a :: b :: l => byteOf (16 * a + b) :: pack l
  | [a] => [byteOf (16 * a)]
  | [] => []

def isDec (n : Nat) : Bool := decide (n ≤ 9)

/-- The `PAN` field for a `PAN_LEN`, needed or not (R145). -/
def panOk (len : Nat) (pan : List Byte) (needed : Bool) : Bool :=
  let n := nibs pan
  (if needed then decide (12 ≤ len) && decide (len ≤ 19) else len == 0)
    && (n.take len).all isDec && (n.drop len).all (· == 15)

/-- The PAN's digits. -/
def panDigits (len : Nat) (pan : List Byte) : List Nat := (nibs pan).take len

/-- The 12 rightmost digits before the check digit, a zero on their left where only 11 exist. -/
def pan12 (pan : List Nat) : List Nat :=
  let b := pan.dropLast
  List.replicate (12 - b.length) 0 ++ b.drop (b.length - 12)

/-- The PAN field of formats 0 and 3, and of format 4 (R145). -/
def panField (fmt : Nat) (pan : List Nat) : List Byte :=
  if fmt = 4 then pack ((pan.length - 12) :: pan ++ List.replicate (31 - pan.length) 0)
  else pack ([0, 0, 0, 0] ++ pan12 pan)

/-! ## PIN blocks (R143, R144) -/

/-- The plain PIN field that a block of a format holds under a key. -/
def openField (fmt : Nat) (k : List Byte) (pan : List Nat) (block : List Byte) : List Byte :=
  if fmt = 4 then (aes k).dec (xorB ((aes k).dec block) (panField 4 pan))
  else if fmt = 1 then (tdes k).dec block
  else xorB ((tdes k).dec block) (panField fmt pan)

/-- The block of a format for a plain PIN field. -/
def sealField (fmt : Nat) (k : List Byte) (pan : List Nat) (field : List Byte) : List Byte :=
  if fmt = 4 then (aes k).enc (xorB ((aes k).enc field) (panField 4 pan))
  else if fmt = 1 then (tdes k).enc field
  else (tdes k).enc (xorB field (panField fmt pan))

/-- The PIN digits of a plain PIN field that meets R144. -/
def pinOf (fmt : Nat) (field : List Byte) : Option (List Nat) :=
  let n := nibs field
  let len := n.getD 1 0
  let pin := (n.drop 2).take len
  let fill := (n.take 16).drop (2 + len)
  let fillOk : Bool := match fmt with
    | 0 => fill.all (· == 15)
    | 3 => fill.all (fun x => decide (10 ≤ x))
    | 4 => fill.all (· == 10)
    | _ => true
  if n.getD 0 0 = fmt ∧ 4 ≤ len ∧ len ≤ 12 ∧ pin.all isDec ∧ fillOk then some pin else none

/-- Random bytes that the fill of a block takes (R143). -/
def fillBytes (fmt : Nat) : Nat := match fmt with
  | 0 => 0
  | 4 => 8
  | _ => 10

/-- The plain PIN field the device writes (R143), its random fill from bytes drawn. -/
def fieldOf (fmt : Nat) (pin : List Nat) (rnd : List Byte) : List Byte :=
  let head := fmt :: pin.length :: pin
  let room := 14 - pin.length
  match fmt with
  | 4 => pack (head ++ List.replicate room 10) ++ rnd
  | 0 => pack (head ++ List.replicate room 15)
  | 1 => pack (head ++ (rnd.map (fun b => b.toNat % 16)).take room)
  | _ => pack (head ++ (rnd.map (fun b => 10 + b.toNat % 6)).take room)

def fmtValid (f : Nat) : Bool := f == 0 || f == 1 || f == 3 || f == 4
/-- Block length of a PIN block format. -/
def fmtLen (f : Nat) : Nat := if f = 4 then 16 else 8
/-- Key algorithm of a PIN block format. -/
def fmtAlg (f : Nat) : Alg := if f = 4 then .A else .T

/-! ## DUKPT (R149 to R151) -/

/-- Set bits of a number below 2^w. -/
def popCount (w n : Nat) : Nat := ((List.range w).filter (bitAt n)).length

/-- The identity and counter checks of R150; `initial` holds the identity block of an initial key. -/
def ksnOk (alg : Alg) (ksn : List Byte) (a : Attr) : Bool :=
  if alg = .T then
    let v := beNat (ksn.take 10)
    let ctr := v % 2 ^ 21
    ctr != 0 && decide (popCount 21 ctr ≤ 10) && (a.usage != .B1 || a.ks == some (ksn.take 5))
  else
    let ctr := beNat (ksn.drop 8)
    ctr != 0 && decide (popCount 32 ctr ≤ 16) && (a.usage != .B1 || a.ik == some (ksn.take 8))

/-- The constant that separates the halves of a TDES DUKPT key (X9.24-1). -/
def dukptMask : List Byte := beBytes 16 0xC0C0C0C000000000C0C0C0C000000000

/-- The initial key a TDES base key derives for a KSN (X9.24-1). -/
def tdesInitial (bdk ksn : List Byte) : List Byte :=
  let id := (beBytes 10 (beNat (ksn.take 10) / 2 ^ 21 * 2 ^ 21)).take 8
  (tdes bdk).enc id ++ (tdes (xorB bdk dukptMask)).enc id

/-- One half of the non-reversible derivation (X9.24-1). -/
def tdesHalf (k reg : List Byte) : List Byte :=
  xorB ((des (k.take 8)).enc (xorB reg (k.drop 8))) (k.drop 8)

/-- The transaction key: one derivation for each set counter bit, most significant first (R151). -/
def tdesTransaction (ik ksn : List Byte) : List Byte :=
  let v := beNat (ksn.take 10)
  ((List.range 21).reverse.foldl (fun (s : List Byte × Nat) i =>
    if bitAt v i then
      let reg := s.2 + 2 ^ i
      let r8 := beBytes 8 (reg % 2 ^ 64)
      (tdesHalf (xorB s.1 dukptMask) r8 ++ tdesHalf s.1 r8, reg)
    else s) (ik, v / 2 ^ 21 * 2 ^ 21)).1

/-- Variants of X9.24-1: PIN, MAC request, MAC response. -/
def tdesVariant : Nat → List Byte
  | 0 => beBytes 16 0x00000000000000FF00000000000000FF
  | 1 => beBytes 16 0x000000000000FF00000000000000FF00
  | _ => beBytes 16 0x00000000FF00000000000000FF000000

/-- Key types of AES DUKPT: algorithm indicator of X9.24-3 and length in bytes, by `DUKPT_WK` (R151). -/
def wkType : Nat → Nat × Nat
  | 0 => (2, 16) | 1 => (3, 24) | 2 => (4, 32) | 3 => (0, 16) | _ => (1, 24)

/-- The type of an AES key by its length. -/
def aesType (n : Nat) : Nat := if n ≤ 16 then 0 else if n ≤ 24 then 1 else 2

/-- A key derived under X9.24-3 for a usage, a type and 8 bytes of context. -/
def aesDukptDerive (k : List Byte) (usage typ : Nat) (ctx : List Byte) : List Byte :=
  let (ind, len) := wkType typ
  (((List.range ((len + 15) / 16)).map (fun i =>
    (aes k).enc ([1, byteOf (i + 1)] ++ beBytes 2 usage ++ beBytes 2 ind ++ beBytes 2 (8 * len) ++ ctx))).flatten).take len

/-- The transaction key of AES DUKPT from a base key or an initial key (R151). -/
def aesTransaction (base : Bool) (k ksn : List Byte) : List Byte :=
  let typ := aesType k.length
  let ik := if base then aesDukptDerive k 0x8001 typ (ksn.take 8) else k
  let ctr := beNat (ksn.drop 8)
  ((List.range 32).reverse.foldl (fun (s : List Byte × Nat) i =>
    if bitAt ctr i then
      let w := s.2 + 2 ^ i
      (aesDukptDerive s.1 0x8000 typ (slice8 ksn 4 4 ++ beBytes 4 w), w)
    else s) (ik, 0)).1

/-- The working key of a DUKPT key: `use` 0 PIN, 1 MAC generation or request, 2 MAC verification or response, 3 MAC both ways. -/
def workingKey (k : Key) (ksn : List Byte) (use typ : Nat) : List Byte :=
  let base := k.attr.usage == .B0
  if k.attr.alg = .T then
    xorB (tdesTransaction (if base then tdesInitial (k.bytes.take 16) ksn else k.bytes.take 16) ksn) (tdesVariant use)
  else
    let u := match use with
      | 0 => 0x1000
      | 1 => 0x2000
      | 2 => 0x2001
      | _ => 0x2002
    aesDukptDerive (aesTransaction base k.bytes ksn) u typ (slice8 ksn 4 8)

/-! ## The PIN source (R148, R149, R153) -/

def pinDukpt (c : Ctx) : Bool := bitAt (c.p 0x3B 1) 0
def pinWk (c : Ctx) : Nat := bits (c.p 0x3B 1) 3 1

/-- The PIN header's own format conditions; `needPan` beyond what the formats need. -/
def pinHeaderOk (c : Ctx) (outFmt needPan : Bool) : Bool :=
  let f := c.p 0x38 1
  let o := c.p 0x39 1
  let need := needPan || f != 1 || (outFmt && o != 1)
  fmtValid f && (if outFmt then fmtValid o else o == 0) && decide (pinWk c ≤ 4) && decide (c.p 0x3B 1 < 16)
    && panOk (c.p 0x3A 1) (c.pb 0x3C 10) need && (pinDukpt c || c.p 0x46 12 == 0)

def pinPan (c : Ctx) : List Nat := panDigits (c.p 0x3A 1) (c.pb 0x3C 10)

/-- Algorithm of the key under which the PIN block stands: the zone key's, or the working key's (R151). -/
def pinAlg (c : Ctx) (a : Attr) : Alg := if pinDukpt c then (if a.alg = .T ∨ 3 ≤ pinWk c then .T else .A) else a.alg

/-- Demands on a PIN source (R143, R149, R151, R153). -/
def pinSource (c : Ctx) : Demand :=
  needs (fun a =>
    (if pinDukpt c then (a.usage == .B0 || a.usage == .B1) && a.mode == .X && symmetric a.alg
      else a.usage == .P0 && (a.mode == .D || a.mode == .B) && symmetric a.alg)
    && pinAlg c a == fmtAlg (c.p 0x38 1))

/-- What R148 and R150 test as soon as key A has passed: `DUKPT_WK`, and the reserved bytes after a TDES KSN. -/
def pinAfterA (c : Ctx) (k : Key) : Bool :=
  (pinWk c == 0 || (pinDukpt c && k.attr.alg == .A)) && (!pinDukpt c || k.attr.alg == .A || c.p 0x50 2 == 0)

/-- Strength of the key that protected the incoming block (R155). -/
def pinStrength (c : Ctx) (d : Dev) (k : Key) : Nat :=
  if !pinDukpt c then strengthOf d c.i.slice k
  else if k.attr.alg = .T then 80
  else match pinWk c with
    | 0 => 128
    | 1 => 192
    | 2 => 256
    | 3 => 80
    | _ => 112

/-- Counts a PIN source draws (R175). -/
def pinCounts (k : Key) : Nat := if k.attr.usage = .P0 ∧ k.attr.alg = .T then 1 else 2

/-- The data-area rule and the output length of a payment opcode (R55, R142). -/
def payLen (c : Ctx) (params d out : Nat) (hs : List Nat) : Bool :=
  inLenOk c params 20480 && areaOk c d 20480 hs && outLenOk c out

/-- Keys of a PIN opcode, its KSN check and its draw, then the recovered PIN: steps 5 to 8 of R141. `forB` gives what key B demands
after its attributes fit, and `countB` what it draws. -/
def pinWork (c : Ctx) (params : Nat) (demB : Demand) (checkB : Dev → Key → Key → Option Status) (countB : Key → Nat) :
    M (List Nat × Key) := do
  let inp := c.input params
  let a ← lookupAt c 0 (dKeyA c.i.desc) inp allKinds (pinSource c)
  chk (pinAfterA c a.key) .format
  let b ← lookupAt c 1 (dKeyB c.i.desc) inp allKinds demB
  let d ← get
  match checkB d a.key b.key with
  | some st => failWith st
  | none => pure ()
  chk (!pinDukpt c || ksnOk a.key.attr.alg (c.pb 0x46 12) a.key.attr) .dukptKsn
  let _ ← drawCounts c [(a, pinCounts a.key), (b, countB b.key)]
  let f := c.p 0x38 1
  let k := if pinDukpt c then workingKey a.key (c.pb 0x46 12) 0 (pinWk c) else a.key.bytes
  let pin ← orFail (pinOf f (openField f k (pinPan c) (inp.take (fmtLen f)))) .pinBlock
  pure (pin, b.key)

def noCheckB : Dev → Key → Key → Option Status := fun _ _ _ => none

/-- `PIN_TRANSLATE` (R153 to R155). -/
def pinTranslate (c : Ctx) : M Act := do
  let f := c.p 0x38 1
  let o := c.p 0x39 1
  chk (fmtOk c 26 2 false && pinHeaderOk c true false) .format
  chk (payLen c 26 (fmtLen f) (fmtLen o) [dKeyA c.i.desc, dKeyB c.i.desc]) .length
  chk (f == 1 || o != 1) .policy
  let dem := needs (fun a => a.usage == .P0 && (a.mode == .E || a.mode == .B) && a.alg == fmtAlg o)
  let (pin, kb) ← pinWork c 26 dem (fun d a b =>
      if strengthOf d c.i.slice b < pinStrength c d a ∧ !bitAt (sliceOf d c.i.slice).per.policy 2 then some .keyStrength else none)
    pinCounts
  let rnd ← random (fillBytes o)
  pure (.done { status := .ok, out := sealField o kb.bytes (pinPan c) (fieldOf o pin rnd) } .nothing)

/-- Demand on key B of a PIN method (R157). -/
def methodKey (u : Usage) (a : Alg) (gen : Bool) : Demand :=
  needs (fun x => x.usage == u && x.alg == a && (x.mode == .C || x.mode == if gen then .G else .V))

/-- `PIN_ISSUE` for the generate opcodes (R138). -/
def pinIssue (c : Ctx) (gen : Bool) : M Unit := do
  let d ← get
  chk (!gen || bitAt (sliceOf d c.i.slice).per.policy 1) .policy

/-- A comparison's outcome, or the generated value. -/
def answerPin (gen ok : Bool) (out : List Byte) : M Act :=
  if gen then pure (.done { status := .ok, out } .nothing)
  else if ok then pure (.done { status := .ok } .nothing) else failWith .pinMismatch

/-- The decimal-table offset of a PIN (R158): the natural PIN from the enciphered validation data. -/
def offsetOf (k val table : List Byte) (pin : List Nat) (n : Nat) : List Nat :=
  let nat := (nibs ((tdes k).enc val)).map (fun x => (nibs table).getD x 0)
  (List.range n).map (fun i => (pin.getD i 0 + 10 - nat.getD i 0) % 10)

/-- `PIN_VERIFY_OFFSET` and `PIN_OFFSET_GENERATE` (R158). -/
def pinOffset (gen : Bool) (c : Ctx) : M Act := do
  let f := c.p 0x38 1
  let n := c.p 0x68 1
  let table := nibs (c.pb 0x52 8)
  let off := nibs (c.pb 0x62 6)
  chk (fmtOk c 49 2 false && pinHeaderOk c false false && table.all isDec && decide (4 ≤ n) && decide (n ≤ 12)
    && (if gen then c.p 0x62 6 == 0 else (off.take n).all isDec && (off.drop n).all (· == 15))) .format
  chk (payLen c 49 (fmtLen f) (if gen then 6 else 0) [dKeyA c.i.desc, dKeyB c.i.desc]) .length
  pinIssue c gen
  chk ((List.range 10).all (fun x => let m := (table.filter (· == x)).length; decide (1 ≤ m) && decide (m ≤ 2))) .policy
  let (pin, kb) ← pinWork c 49 (methodKey .V1 .T gen) noCheckB (fun _ => 1)
  chk (!gen || decide (n ≤ pin.length)) .pinBlock
  let v := offsetOf kb.bytes (c.pb 0x5A 8) (c.pb 0x52 8) pin n
  answerPin gen (decide (n ≤ pin.length) && v == off.take n) (pack (v ++ List.replicate (12 - n) 15))

/-- Scan decimalisation: `n` digits of a cipher result. -/
def scanDecimal (n : Nat) (l : List Nat) : List Nat :=
  (l.filter isDec ++ (l.filter (fun x => decide (10 ≤ x))).map (· - 10)).take n

/-- `PIN_VERIFY_PVV` and `PVV_GENERATE` (R159). -/
def pinPvv (gen : Bool) (c : Ctx) : M Act := do
  let f := c.p 0x38 1
  let pvv := nibs (c.pb 0x53 2)
  chk (fmtOk c 29 2 false && pinHeaderOk c false true && decide (c.p 0x52 1 ≤ 9)
    && (if gen then c.p 0x53 2 == 0 else pvv.all isDec)) .format
  chk (payLen c 29 (fmtLen f) (if gen then 2 else 0) [dKeyA c.i.desc, dKeyB c.i.desc]) .length
  pinIssue c gen
  let (pin, kb) ← pinWork c 29 (methodKey .V2 .T gen)
    (fun _ _ b => if b.bytes.length = 16 then none else some .keyUsage) (fun _ => 1)
  let b := (pinPan c).dropLast
  let tsp := b.drop (b.length - 11) ++ [c.p 0x52 1] ++ pin.take 4
  let v := scanDecimal 4 (nibs ((tdes kb.bytes).enc (pack tsp)))
  answerPin gen (v == pvv) (pack v)

/-- `PIN_VERIFY_REFERENCE` and `PIN_REFERENCE_GENERATE` (R160). -/
def pinReference (gen : Bool) (c : Ctx) : M Act := do
  let f := c.p 0x38 1
  chk (fmtOk c 34 2 false && pinHeaderOk c false true && (!gen || c.p 0x52 8 == 0)) .format
  chk (payLen c 34 (fmtLen f) (if gen then 8 else 0) [dKeyA c.i.desc, dKeyB c.i.desc]) .length
  pinIssue c gen
  let (pin, kb) ← pinWork c 34 (methodKey .V0 .A gen) noCheckB (fun _ => 1)
  let pan := pinPan c
  let block := [pin.length] ++ pin ++ List.replicate (12 - pin.length) 15 ++ List.replicate (19 - pan.length) 0 ++ pan
  let v := ((aes kb.bytes).enc (pack block)).take 8
  answerPin gen (v == c.pb 0x52 8) v

/-! ## EMV (R161 to R168) -/

/-- Demand on an issuer master key (R161). -/
def emvKey (u : Usage) : Demand := needs (fun a => a.usage == u && symmetric a.alg && (a.mode == .X || a.mode == .B))

/-- Counts an issuer master key draws (R175). -/
def emvCounts (k : Key) : Nat := if k.attr.alg = .A ∧ k.bytes.length ≤ 16 then 1 else 2

/-- Odd parity on every byte. -/
def oddParity (l : List Byte) : List Byte :=
  l.map (fun b => if popCount 8 b.toNat % 2 = 1 then b else b ^^^ 1)

/-- The ICC master key (R162): options A and B with TDES, the AES form with AES. -/
def iccKey (k : Key) (pan : List Nat) (psn : List Nat) : List Byte :=
  let all := pan ++ psn
  let inv := fun (l : List Byte) => l.map (fun b => ~~~b)
  if k.attr.alg = .T then
    let y := if pan.length ≤ 16 then pack ((List.replicate 16 0 ++ all).drop all.length)
      else pack (scanDecimal 16 (nibs (digest 1 (pack (List.replicate (all.length % 2) 0 ++ all)))))
    oddParity ((tdes k.bytes).enc y) ++ oddParity ((tdes k.bytes).enc (inv y))
  else
    let y := pack (List.replicate (32 - all.length) 0 ++ all)
    ((aes k.bytes).enc y ++ (aes k.bytes).enc (inv y)).take k.bytes.length

/-- The session key for a diversification value (R163). -/
def sessionKey (a : Alg) (mk div : List Byte) : List Byte :=
  let c := cipherOf a mk
  let r := fit div c.size
  if a = .A ∧ mk.length ≤ 16 then c.enc r
  else (c.enc (patch r 2 [0xF0]) ++ c.enc (patch r 2 [0x0F])).take (if a = .T then 16 else mk.length)

/-- The MAC of R164: 8 bytes. -/
def emvMac (a : Alg) (k m : List Byte) : List Byte :=
  if a = .T then retailMac k (isoPad 8 2 m) else (cmac (aes k) m).take 8

/-- The ARPC (R166). -/
def arpc (c : Ctx) (a : Alg) (mk ack : List Byte) : List Byte :=
  let fl := c.p 0x38 1
  if bitAt fl 1 then (emvMac a ack (c.pb 0x48 8 ++ c.pb 0x52 4 ++ c.pb 0x58 (c.p 0x56 1))).take 4
  else
    let ci := cipherOf a (if bitAt fl 2 then mk else ack)
    (ci.enc (xorB (fit (c.pb 0x48 8) ci.size) (fit (c.pb 0x50 2) ci.size))).take 8

/-- `ARQC_VERIFY` and `ARPC_GENERATE` (R165). -/
def arqcArpc (gen : Bool) (c : Ctx) : M Act := do
  let fl := c.p 0x38 1
  let m2 := bitAt fl 1
  let n := c.p 0x3B 1
  let padl := c.p 0x56 1
  let wants := gen || bitAt fl 0
  chk (fmtOk c 40 1 false && decide (fl < 16) && (!gen || !bitAt fl 0) && (!m2 || !bitAt fl 2)
    && panOk (c.p 0x39 1) (c.pb 0x3C 10) true && (nibs (c.pb 0x3A 1)).all isDec
    && (if gen then n == 0 else decide (1 ≤ n)) && c.p 0x57 1 == 0 && decide (padl ≤ 8)
    && (if m2 then c.p 0x50 2 == 0 && zeroFrom (c.pb 0x58 8) padl 8
        else c.p 0x52 4 == 0 && padl == 0 && c.p 0x58 8 == 0)) .format
  chk (payLen c 40 n (if !wants then 0 else if m2 then 4 else 8) [dKeyA c.i.desc]) .length
  let inp := c.input 40
  let k ← lookupAt c 0 (dKeyA c.i.desc) inp allKinds (emvKey .E0)
  let _ ← drawCounts c [(k, emvCounts k.key)]
  let a := k.key.attr.alg
  let mk := iccKey k.key (panDigits (c.p 0x39 1) (c.pb 0x3C 10)) (nibs (c.pb 0x3A 1))
  let ack := if bitAt fl 3 then mk else sessionKey a mk (c.pb 0x46 2)
  chk (gen || emvMac a ack (inp.take n) == c.pb 0x48 8) .arqcMismatch
  pure (.done { status := .ok, out := if wants then arpc c a mk ack else [] } .nothing)

/-- `EMV_SCRIPT_MAC` (R167). -/
def emvScriptMac (c : Ctx) : M Act := do
  let n := c.p 0x3B 1
  let ml := c.p 0x38 1
  chk (fmtOk c 22 1 false && decide (4 ≤ ml) && decide (ml ≤ 8) && panOk (c.p 0x39 1) (c.pb 0x3C 10) true
    && (nibs (c.pb 0x3A 1)).all isDec && decide (1 ≤ n)) .format
  chk (payLen c 22 n ml [dKeyA c.i.desc]) .length
  let inp := c.input 22
  let k ← lookupAt c 0 (dKeyA c.i.desc) inp allKinds (emvKey .E2)
  let _ ← drawCounts c [(k, emvCounts k.key)]
  let a := k.key.attr.alg
  let mk := iccKey k.key (panDigits (c.p 0x39 1) (c.pb 0x3C 10)) (nibs (c.pb 0x3A 1))
  pure (.done { status := .ok, out := (emvMac a (sessionKey a mk (c.pb 0x46 8)) (inp.take n)).take ml } .nothing)

/-- `EMV_SCRIPT_PIN` (R168). -/
def emvScriptPin (c : Ctx) : M Act := do
  let f := c.p 0x38 1
  chk (fmtOk c 35 2 false && pinHeaderOk c false true && (nibs (c.pb 0x5A 1)).all isDec) .format
  chk (payLen c 35 (fmtLen f) 16 [dKeyA c.i.desc, dKeyB c.i.desc]) .length
  let (pin, kb) ← pinWork c 35 (emvKey .E1) noCheckB emvCounts
  let a := kb.attr.alg
  let sk := sessionKey a (iccKey kb (pinPan c) (nibs (c.pb 0x5A 1))) (c.pb 0x52 8)
  let plain := [0x08] ++ pack ([2, pin.length] ++ pin ++ List.replicate (14 - pin.length) 15)
  let ci := cipherOf a sk
  pure (.done { status := .ok, out := cbcEnc ci (List.replicate ci.size 0) (isoPad 16 2 plain) } .nothing)

/-! ## Card check values (R169) -/

/-- Decimal digits followed by one `F`. -/
def svcOk (n : List Nat) : Bool := (n.take 3).all isDec && n.getD 3 0 == 15

/-- The three digits of R169. -/
def ccvDigits (k : List Byte) (pan exp svc : List Nat) : List Nat :=
  let b := pack (pan ++ exp ++ svc ++ List.replicate (32 - pan.length - exp.length - svc.length) 0)
  scanDecimal 3 (nibs ((tdes k).enc (xorB ((des (k.take 8)).enc (b.take 8)) (b.drop 8))))

/-- `CCV_GENERATE` and `CCV_VERIFY` (R169). -/
def cardCheck (gen : Bool) (c : Ctx) : M Act := do
  let svc := nibs (c.pb 0x46 2)
  let v := nibs (c.pb 0x48 2)
  chk (fmtOk c 18 1 false && panOk (c.p 0x38 1) (c.pb 0x3A 10) true && c.p 0x39 1 == 0 && (nibs (c.pb 0x44 2)).all isDec
    && svcOk svc && (if gen then c.p 0x48 2 == 0 else svcOk v)) .format
  chk (payLen c 18 0 (if gen then 2 else 0) [dKeyA c.i.desc]) .length
  let k ← lookupAt c 0 (dKeyA c.i.desc) (c.input 18) allKinds (methodKey .C0 .T gen)
  chk (k.key.bytes.length == 16) .keyUsage
  let _ ← drawCounts c [(k, 2)]
  let r := ccvDigits k.key.bytes (panDigits (c.p 0x38 1) (c.pb 0x3A 10)) (nibs (c.pb 0x44 2)) (svc.take 3)
  if gen then pure (.done { status := .ok, out := pack (r ++ [15]) } .nothing)
  else if r = v.take 3 then pure (.done { status := .ok } .nothing) else failWith .ccvMismatch

/-! ## MACs (R170 to R173) -/

/-- Usage and algorithms of an algorithm code (R171). -/
def macUsage : Nat → Option (Usage × Bool)
  | 0x01 => some (.M1, true) | 0x03 => some (.M3, false) | 0x05 => some (.M6, true) | 0x10 => some (.M0, false) | _ => none

/-- The MAC of a message (R171). -/
def macOf (code pad : Nat) (a : Alg) (k m : List Byte) : List Byte :=
  let ci := cipherOf a k
  match code with
  | 0x05 => cmac ci m
  | 0x03 => retailMac k (isoPad 8 pad m)
  | _ => cbcMac ci (isoPad ci.size pad m)

/-- Blocks a MAC key draws (R175). -/
def macCounts (code pad : Nat) (k : Key) (n : Nat) : Nat :=
  if k.attr.usage = .B0 ∨ k.attr.usage = .B1 then 2 else
  let bl := if k.attr.alg = .T then 8 else 16
  if code = 0x05 then max 1 ((n + bl - 1) / bl) else if pad = 2 then n / bl + 1 else (n + bl - 1) / bl

/-- `MAC_GENERATE` and `MAC_VERIFY` (R170 to R173). -/
def macCmd (gen : Bool) (c : Ctx) : M Act := do
  let code := c.p 0x38 1
  let pad := c.p 0x39 1
  let ml := c.p 0x3A 1
  let fl := c.p 0x3B 1
  let n := c.p 0x58 4
  let duk := bitAt fl 0
  let use := bits fl 2 1
  let typ := bits fl 5 3
  let (u, anyAlg) ← orFail (macUsage code) .format
  chk (fmtOk c 36 1 false && (if code = 0x05 then pad == 0 else pad == 1 || pad == 2)
    && decide (4 ≤ ml) && decide (ml ≤ if anyAlg then 16 else 8) && decide (fl < 64) && decide (typ ≤ 2)
    && (duk || (fl == 0 && c.p 0x3C 12 == 0)) && zeroFrom (c.pb 0x48 16) (if gen then 0 else ml) 16) .format
  chk (decide (n ≤ 8192) && !(n == 0 && pad == 1) && payLen c 36 n (if gen then ml else 0) [dKeyA c.i.desc]) .length
  let inp := c.input 36
  let k ← lookupAt c 0 (dKeyA c.i.desc) inp allKinds (needs (fun a =>
    if duk then (a.usage == .B0 || a.usage == .B1) && a.mode == .X
      && (if a.alg = .T then code == 0x03 && decide (use ≤ 1)
          else a.alg == .A && code == 0x05 && (use == 2 || use == if gen then 0 else 1))
    else a.usage == u && (a.mode == .C || a.mode == if gen then .G else .V) && (a.alg == .T || (anyAlg && a.alg == .A))))
  chk (duk || decide (code ≠ 0x03) || k.key.bytes.length == 16) .keyUsage
  let a := k.key.attr.alg
  chk ((typ == 0 || (duk && a == .A)) && (a == .A || decide (ml ≤ 8)) && (!duk || a == .A || c.p 0x46 2 == 0)) .format
  chk (!duk || ksnOk a (c.pb 0x3C 12) k.key.attr) .dukptKsn
  let _ ← drawCounts c [(k, macCounts code pad k.key n)]
  let wk := if duk then workingKey k.key (c.pb 0x3C 12) (use + 1) typ else k.key.bytes
  let m := (macOf code pad a wk (inp.take n)).take ml
  if gen then pure (.done { status := .ok, out := m } .nothing)
  else if m = c.pb 0x48 ml then pure (.done { status := .ok } .nothing) else failWith .macMismatch

def execPinTranslate (r : Run) (s : State) : Ans := runTx 0x0201 r pinTranslate s
def execPinVerifyOffset (r : Run) (s : State) : Ans := runTx 0x0202 r (pinOffset false) s
def execPinOffsetGenerate (r : Run) (s : State) : Ans := runTx 0x0203 r (pinOffset true) s
def execPinVerifyPvv (r : Run) (s : State) : Ans := runTx 0x0204 r (pinPvv false) s
def execPvvGenerate (r : Run) (s : State) : Ans := runTx 0x0205 r (pinPvv true) s
def execPinVerifyReference (r : Run) (s : State) : Ans := runTx 0x0206 r (pinReference false) s
def execPinReferenceGenerate (r : Run) (s : State) : Ans := runTx 0x0207 r (pinReference true) s
def execArqcVerify (r : Run) (s : State) : Ans := runTx 0x0301 r (arqcArpc false) s
def execArpcGenerate (r : Run) (s : State) : Ans := runTx 0x0302 r (arqcArpc true) s
def execEmvScriptMac (r : Run) (s : State) : Ans := runTx 0x0303 r emvScriptMac s
def execEmvScriptPin (r : Run) (s : State) : Ans := runTx 0x0304 r emvScriptPin s
def execCcvGenerate (r : Run) (s : State) : Ans := runTx 0x0305 r (cardCheck true) s
def execCcvVerify (r : Run) (s : State) : Ans := runTx 0x0306 r (cardCheck false) s
def execMacGenerate (r : Run) (s : State) : Ans := runTx 0x0401 r (macCmd true) s
def execMacVerify (r : Run) (s : State) : Ans := runTx 0x0402 r (macCmd false) s

end Sys2Proof.Machine
end

