-- ==== Sys2Proof/Machine/Pk.lean ====
section
/-! DEFINITION. The public-key opcodes (R209 to R239).
Marks: assumptions 6, 10 and 54. -/

namespace Sys2Proof.Machine

/-! ## The shared parameter block (R221, R222) -/

def pkAlg (c : Ctx) : Nat := c.p 0x38 1
def pkHash (c : Ctx) : Nat := c.p 0x39 1
def pkFlags (c : Ctx) : Nat := c.p 0x3A 1
def pkDest (c : Ctx) : Nat := c.p 0x3B 1
def pkAux8 (c : Ctx) : Nat := c.p 0x3F 1
def pkBits (c : Ctx) : Nat := c.p 0x40 2
def pubLen (c : Ctx) : Nat := c.p 0x44 4
def auxLen (c : Ctx) : Nat := c.p 0x48 4
def msgLen (c : Ctx) : Nat := c.p 0x4C 4
def infoLen (c : Ctx) : Nat := c.p 0x50 4

/-- Codes of the table of R212. -/
def algCodeOk (a : Nat) : Bool :=
  (decide (1 ≤ a) && decide (a ≤ 8)) || a == 0x10 || a == 0x21 || a == 0x22 || a == 0x31 || a == 0x32
    || (decide (0x80 ≤ a) && decide (a ≤ 0x83))

def isW (a : Nat) : Bool := (decide (1 ≤ a) && decide (a ≤ 5)) || (decide (0x80 ≤ a) && decide (a ≤ 0x83))
def isKem (a : Nat) : Bool := a == 0x21 || a == 0x22
def isDsa (a : Nat) : Bool := a == 0x31 || a == 0x32
def isEd (a : Nat) : Bool := a == 0x07 || a == 0x08

/-- What an opcode takes of the shared block: hash, RSA scheme, `EXT_MU`, delivery of a key, a derived symmetric key. -/
structure PkForm where
  hash : Bool := false
  rsa : Bool := false
  mu : Bool := false
  deliver : Bool := false
  derive : Bool := false

/-- Whether a context of `AUX8` bytes applies (R222). -/
def ctxApplies (c : Ctx) (f : PkForm) : Bool := !f.hash && !f.deliver && !f.rsa && (isDsa (pkAlg c) || pkAlg c == 0x08)

/-- Format conditions of R221 for an opcode. -/
def pkFormatOk (c : Ctx) (keys : Nat) (f : PkForm) : Bool :=
  let a := pkAlg c
  let h := pkHash c
  let fl := pkFlags c
  let dest := pkDest c
  fmtOk c 28 keys f.deliver && algCodeOk a
    && (if f.hash then decide (1 ≤ h) && decide (h ≤ 8) && (!f.derive || decide (h ≠ 2)) else h == 0)
    && (if f.rsa then decide (fl ≤ 2) else if f.mu then fl == 0 || fl == 4 else fl == 0)
    && (if f.deliver then decide (dest ≤ 2) && (if dest = 1 then decide (c.p 0x3C 1 < 64) else c.p 0x3C 1 == 0) && decide (c.p 0x3D 1 < 2)
        else dest == 0 && c.p 0x3C 1 == 0 && c.p 0x3D 1 == 0)
    && (if f.derive then decide (c.p 0x3E 1 ≤ 1) else c.p 0x3E 1 == 0)
    && (if f.rsa && fl == 1 then decide (pkAux8 c ≤ hashLen h) else ctxApplies c f || pkAux8 c == 0)
    && (if f.derive then pkBits c == 128 || pkBits c == 192 || pkBits c == 256
        else if f.deliver && a == 0x10 then decide (2048 ≤ pkBits c) && decide (pkBits c ≤ 8192) && pkBits c % 64 == 0
        else pkBits c == 0)
    && c.p 0x42 2 == 0

/-- Lengths of R222: the four data-area lengths, D and the handle's blocks. -/
def pkLengthOk (c : Ctx) (f : PkForm) (pub aux msg info : Nat → Bool) : Bool :=
  let ctx := if ctxApplies c f then pkAux8 c else 0
  let d := pubLen c + auxLen c + ctx + msgLen c + infoLen c
  pub (pubLen c) && aux (auxLen c) && msg (msgLen c) && info (infoLen c)
    && inLenOk c 28 (d + 20480) && areaOk c d (d + 20480) [dKeyA c.i.desc]

/-- The parts of the data area (R222): public key, signature or ciphertext, context, message, template and information. -/
def pkParts (c : Ctx) (f : PkForm) : List Byte × List Byte × List Byte × List Byte × List Byte :=
  let l := c.input 28
  let ctx := if ctxApplies c f then pkAux8 c else 0
  let o1 := pubLen c
  let o2 := o1 + auxLen c
  let o3 := o2 + ctx
  let o4 := o3 + msgLen c
  (slice8 l 0 o1, slice8 l o1 (auxLen c), slice8 l o2 ctx, slice8 l o3 (msgLen c), slice8 l o4 (infoLen c))

def isN (n : Nat) : Nat → Bool := fun x => x == n
def upTo (lo hi : Nat) : Nat → Bool := fun x => decide (lo ≤ x) && decide (x ≤ hi)
/-- A length that depends on a curve: none where the code names none, and step 5 then reports `ST_PK_CURVE`. -/
def perCurve (w : Option WCurve) (f : WCurve → Nat) : Nat → Bool := fun x => match w with
  | some w => x == f w
  | none => true

/-- Policy of R223 step 3: SHA-1 in a signing or key-delivering opcode; `DEST` 1 without `SLOT_WRITE`. -/
def pkPolicy (c : Ctx) (signs : Bool) (f : PkForm) : M Unit := do
  chk (!(f.hash && (signs || f.deliver) && pkHash c == 1)) .policy
  slotWritePolicy c (if f.deliver then pkDest c else 0)

/-- Key A of a PK opcode (R215, R220, R221): its attributes, its code against `PK_ALG`, and a loaded curve's tag. -/
def pkKey (c : Ctx) (u : Usage) (a : Alg) (m : KMode) : M Key := do
  let k ← lookup c (dKeyA c.i.desc) (c.input 28) allKinds (needs (fun x => x.usage == u && x.alg == a && x.mode == m))
  if a = .R then
    chk (pkAlg c == 0x10) .pkCurve
  else
    chk ((k.key.bytes.getD 0 0).toNat == pkAlg c) .pkCurve
    let d ← get
    match curveOf (sliceOf d c.i.slice).per (pkAlg c) with
    | some w => chk (a != .E || slice8 k.key.bytes 1 8 == w.tag) .pkCurve
    | none => chk (!isW (pkAlg c)) .pkCurve
  pure k.key

/-- The Weierstrass curve of the item's slice that `PK_ALG` names. -/
def pkCurveOf (c : Ctx) (d : Dev) : Option WCurve := curveOf (sliceOf d c.i.slice).per (pkAlg c)

/-- Engine work: a failing check of steps 8 to 10 reports through the engine, a wait does not (R231). -/
def viaEngine (n : Nat) (m : M (Res × After)) : M Act :=
  tryCatch (do
      let (r, a) ← m
      pure (.engine .pk n r a))
    (fun e => match e with
      | .fail r => pure (.engine .pk n r .nothing)
      | .wait w => throw (.wait w))

def pkDone (out : List Byte) : M (Res × After) := pure ({ status := .ok, out }, .nothing)

/-! ## RSA (R225) -/

/-- The parts of an RSA private key (R217). -/
def rsaN (k : Key) : Nat × Nat :=
  let m := (k.bytes.length - 8) * 2 / 7
  (m, beNat (slice8 k.bytes 8 m))

/-- The private operation by the Chinese remainder theorem. -/
def rsaPrivate (k : Key) (x : Nat) : Nat :=
  let m := (rsaN k).1
  let h := m / 2
  let f := fun i => beNat (slice8 k.bytes (8 + m + i * h) h)
  let m1 := powMod (x % f 0) (f 2) (f 0)
  let m2 := powMod (x % f 1) (f 3) (f 1)
  m2 + (m1 + f 0 - m2 % f 0) % f 0 * f 4 % f 0 * f 1

/-- The object identifier's last arcs in DigestInfo, by hash code (RFC 8017). -/
def oidTail : Nat → List Nat
  | 1 => [0x2B, 0x0E, 0x03, 0x02, 0x1A]
  | 2 => [0x60, 0x86, 0x48, 0x01, 0x65, 0x03, 0x04, 0x02, 0x04]
  | 3 => [0x60, 0x86, 0x48, 0x01, 0x65, 0x03, 0x04, 0x02, 0x01]
  | 4 => [0x60, 0x86, 0x48, 0x01, 0x65, 0x03, 0x04, 0x02, 0x02]
  | 5 => [0x60, 0x86, 0x48, 0x01, 0x65, 0x03, 0x04, 0x02, 0x03]
  | 6 => [0x60, 0x86, 0x48, 0x01, 0x65, 0x03, 0x04, 0x02, 0x08]
  | 7 => [0x60, 0x86, 0x48, 0x01, 0x65, 0x03, 0x04, 0x02, 0x09]
  | _ => [0x60, 0x86, 0x48, 0x01, 0x65, 0x03, 0x04, 0x02, 0x0A]

/-- DigestInfo of a digest (RFC 8017). -/
def digestInfo (h : Nat) (d : List Byte) : List Byte :=
  let o := oidTail h
  let n := o.length
  ascii ([0x30, n + 8 + d.length, 0x30, n + 4, 0x06, n] ++ o ++ [0x05, 0x00, 0x04, d.length]) ++ d

/-- The encoded message of PKCS#1 v1.5 signatures. -/
def pkcs1 (k h : Nat) (d : List Byte) : List Byte :=
  let t := digestInfo h d
  [0x00, 0x01] ++ List.replicate (k - t.length - 3) 0xFF ++ [0x00] ++ t

/-- MGF1 (RFC 8017). -/
def mgf1 (h n : Nat) (seed : List Byte) : List Byte :=
  (((List.range ((n + hashLen h - 1) / hashLen h)).map (fun i => digest h (seed ++ beBytes 4 i))).flatten).take n

/-- The encoded message of PSS for a modulus of k bytes. -/
def pssEncode (k h : Nat) (d salt : List Byte) : List Byte :=
  let hh := digest h (List.replicate 8 0 ++ d ++ salt)
  let n := k - hashLen h - 1
  let db := List.replicate (n - salt.length - 1) 0 ++ [0x01] ++ salt
  let masked := xorB db (mgf1 h n hh)
  ((masked.head?.map (· &&& 0x7F)).toList ++ masked.drop 1) ++ hh ++ [0xBC]

/-- PSS verification with the stated salt length. -/
def pssVerify (k h saltLen : Nat) (d em : List Byte) : Bool :=
  let n := k - hashLen h - 1
  let hh := slice8 em n (hashLen h)
  let db := xorB (em.take n) (mgf1 h n hh)
  decide (hashLen h + saltLen + 2 ≤ k) && pssEncode k h d (db.drop (n - saltLen)) == em

/-- OAEP decoding with an empty label (RFC 8017). -/
def oaepDecode (k h : Nat) (em : List Byte) : Option (List Byte) :=
  let hl := hashLen h
  let seed := xorB (slice8 em 1 hl) (mgf1 h hl (em.drop (1 + hl)))
  let db := xorB (em.drop (1 + hl)) (mgf1 h (k - hl - 1) seed)
  let rest := (db.drop hl).dropWhile (· == 0)
  if em.head? = some 0 ∧ db.take hl = digest h [] ∧ rest.head? = some 1 then some (rest.drop 1) else none

/-- `RSA_SIGN` (R225). -/
def rsaSign (c : Ctx) : M Act := do
  let f : PkForm := { hash := true, rsa := true }
  let h := pkHash c
  chk (pkFormatOk c 1 f && decide (pkFlags c ≤ 1)) .format
  chk (pkLengthOk c f (isN 0) (isN 0) (isN (hashLen h)) (isN 0)) .length
  pkPolicy c true f
  chk (pkAlg c == 0x10) .pkCurve
  let k ← pkKey c .S0 .R .S
  let (m, _) := rsaN k
  chk (outLenOk c m) .length
  let (_, _, _, msg, _) := pkParts c f
  needRandom
  let salt ← if pkFlags c = 1 then random (pkAux8 c) else pure []
  viaEngine m (pkDone (beBytes m (rsaPrivate k (beNat (if pkFlags c = 1 then pssEncode m h msg salt else pkcs1 m h msg)))))

/-- `RSA_VERIFY` (R225, R232). -/
def rsaVerify (c : Ctx) : M Act := do
  let f : PkForm := { hash := true, rsa := true }
  let h := pkHash c
  let k := pubLen c - 8
  chk (pkFormatOk c 0 f && decide (pkFlags c ≤ 1)) .format
  chk (pkLengthOk c f (fun x => decide (136 ≤ x) && decide (x ≤ 1032) && x % 8 == 0) (isN k) (isN (hashLen h)) (isN 0)
    && outLenOk c 0) .length
  chk (pkAlg c == 0x10) .pkCurve
  let (pub, sig, _, msg, _) := pkParts c f
  let n := beNat (pub.take k)
  let e := beNat (pub.drop k)
  let s := beNat sig
  viaEngine k (do
    chk (n % 2 == 1 && decide (2 ^ (8 * k - 1) ≤ n) && e % 2 == 1 && decide (3 ≤ e)) .pkRange
    chk (decide (0 < s) && decide (s < n)) .pkRange
    let em := beBytes k (powMod s e n)
    chk (if pkFlags c = 1 then pssVerify k h (pkAux8 c) msg em else em == pkcs1 k h msg) .signature
    pkDone [])

/-- `RSA_DECRYPT` (R222, R225, R232). -/
def rsaDecrypt (c : Ctx) : M Act := do
  let f : PkForm := { hash := true, rsa := true }
  let h := pkHash c
  let k := auxLen c
  chk (pkFormatOk c 1 f && pkFlags c == 2) .format
  chk (pkLengthOk c f (isN 0) (fun x => decide (256 ≤ x) && decide (x ≤ 1024) && x % 8 == 0) (isN 0) (isN 0)
    && outLenOk c (k - 2 * hashLen h - 2)) .length
  chk (pkAlg c == 0x10) .pkCurve
  let key ← pkKey c .D0 .R .D
  let (m, n) := rsaN key
  chk (m == k) .length
  let (_, ct, _, _, _) := pkParts c f
  needRandom
  let s := beNat ct
  viaEngine k (do
    chk (decide (0 < s) && decide (s < n)) .pkRange
    let out ← orFail (oaepDecode k h (beBytes k (rsaPrivate key s))) .decode
    pkDone out)

/-! ## Elliptic curves (R224, R226, R227, R232) -/

/-- A digest's leftmost bits as long as the order (R226). -/
def ecDigest (n : Nat) (d : List Byte) : Nat :=
  let v := beNat d
  if bitLen n < 8 * d.length then v / 2 ^ (8 * d.length - bitLen n) else v

/-- `ECDSA_SIGN` (R226, R236). -/
def ecdsaSign (c : Ctx) : M Act := do
  let f : PkForm := { hash := true }
  let d ← get
  let w := pkCurveOf c d
  let ol := ((w.map orderLen)).getD 0
  chk (pkFormatOk c 1 f) .format
  chk (pkLengthOk c f (isN 0) (isN 0) (isN (hashLen (pkHash c))) (isN 0) && outLenOk c (2 * ol)) .length
  pkPolicy c true f
  let w ← orFail w .pkCurve
  let key ← pkKey c .S0 .E .S
  let (_, _, _, msg, _) := pkParts c f
  let rnd ← random (ol + 8)
  let k := beNat rnd % w.n
  let dd := beNat (key.bytes.drop 9)
  let r := ((ptMul w k (some (w.gx, w.gy))).map (fun p => p.1 % w.n)).getD 0
  let s := invMod k w.n * ((ecDigest w.n msg + r * dd) % w.n) % w.n
  viaEngine w.len (do
    chk (decide (r ≠ 0) && decide (s ≠ 0)) .pkFault
    pkDone (beBytes ol r ++ beBytes ol s))

/-- A Weierstrass point of the data area: structure at step 6, values at step 8 (R219, R232). -/
def pointOf (w : WCurve) (b : List Byte) : Nat × Nat := (beNat (slice8 b 1 w.len), beNat (slice8 b (1 + w.len) w.len))

/-- `ECDSA_VERIFY` (R226, R232). -/
def ecdsaVerify (c : Ctx) : M Act := do
  let f : PkForm := { hash := true }
  let d ← get
  let w := pkCurveOf c d
  chk (pkFormatOk c 0 f) .format
  chk (pkLengthOk c f (perCurve w (fun w => 1 + 2 * w.len)) (perCurve w (fun w => 2 * orderLen w))
    (isN (hashLen (pkHash c))) (isN 0) && outLenOk c 0) .length
  let w ← orFail w .pkCurve
  let (pub, sig, _, msg, _) := pkParts c f
  chk (pub.head? == some 0x04) .format
  let ol := orderLen w
  let (x, y) := pointOf w pub
  let r := beNat (sig.take ol)
  let s := beNat (sig.drop ol)
  viaEngine w.len (do
    chk (onCurve w x y) .pkPoint
    chk (decide (0 < r) && decide (r < w.n) && decide (0 < s) && decide (s < w.n)) .pkRange
    let si := invMod s w.n
    let p := ptAdd w (ptMul w (ecDigest w.n msg * si % w.n) (some (w.gx, w.gy))) (ptMul w (r * si % w.n) (some (x, y)))
    chk (match p with
      | some q => q.1 % w.n == r
      | none => false) .signature
    pkDone [])

/-- The template of a derived key (R224), its demands in the order of its table, and a prototype of the new key. -/
def deriveTemplate (c : Ctx) (info : List Byte) : M (Header × Key) := do
  let h ← template false info info.length
  chk (symmetric h.attr.alg) .keyUsage
  chk (comboOk h.attr.usage h.attr.alg h.attr.mode) .keyUsage
  chk (bitsOk h.attr.alg (pkBits c)) .format
  let d ← get
  let proto : Key := { attr := h.attr, bytes := List.replicate (pkBits c / 8) 0 }
  let per := (sliceOf d c.i.slice).per
  chk (decide (strengthOf d c.i.slice proto ≤ codeStrength (orderOf per) (pkAlg c))) .keyStrength
  pure (h, proto)

/-- The output length of a derived key's delivery, `n` bytes before it (R55, R223 step 6). -/
def deriveOutOk (c : Ctx) (n : Nat) (h : Header) (k : Key) : M Unit := do
  if pkDest c = 0 then
    let (g, _) ← getActiveLmk c
    chk (outLenOk c (n + blockLen false h.attr (some g) k.bytes.length)) .length
  else chk (outLenOk c n) .length

/-- Key delivery of the agreement opcodes (R224): the one-step KDF over Z and the fixed information. -/
def deriveKey (c : Ctx) (h : Header) (proto : Key) (z fixedInfo before : List Byte) : M (Res × After) :=
  let hc := pkHash c
  let n := pkBits c / 8
  let bytes := (((List.range ((n + hashLen hc - 1) / hashLen hc)).map
    (fun i => digest hc (beBytes 4 (i + 1) ++ z ++ fixedInfo))).flatten).take n
  let _ := h
  deliverKey c (pkDest c) (c.p 0x3C 1) (bitAt (c.p 0x3D 1) 0) (c.p 0x3E 1) { proto with bytes } before []

/-- The form of the agreement opcodes. -/
def agreeForm : PkForm := { hash := true, deliver := true, derive := true }

/-- `ECDH_DERIVE` (R224, R232). -/
def ecdhDerive (c : Ctx) : M Act := do
  let f := agreeForm
  let d ← get
  let w := pkCurveOf c d
  let xk := pkAlg c == 0x06
  chk (pkFormatOk c 1 f) .format
  chk (pkLengthOk c f (if xk then isN 32 else perCurve w (fun w => 1 + 2 * w.len)) (isN 0) (isN 0) (upTo 16 512)
    && (pkDest c == 0 || outLenOk c 0)) .length
  pkPolicy c false f
  chk (xk || w.isSome) .pkCurve
  let key ← pkKey c .K3 .E .X
  let (pub, _, _, _, info) := pkParts c f
  chk (xk || pub.head? == some 0x04) .format
  let (h, proto) ← deriveTemplate c info
  deriveOutOk c 0 h proto
  needRandom
  let fi := info.drop h.len
  match w with
  | none =>
    let u := leAt pub 0 32
    viaEngine 32 (do
      chk (u25519Ok u) .pkPoint
      deriveKey c h proto (leBytes 32 (x25519 (clamp (key.bytes.drop 9)) u)) fi [])
  | some w =>
    let (x, y) := pointOf w pub
    viaEngine w.len (do
      chk (onCurve w x y) .pkPoint
      let z := ((ptMul w (beNat (key.bytes.drop 9)) (some (x, y))).map (·.1)).getD 0
      deriveKey c h proto (beBytes w.len z) fi [])

/-- Signature and public-key lengths of an EdDSA algorithm (R219). -/
def edSig (a : Nat) : Nat := if a = 0x08 then 114 else 64
def edPub (a : Nat) : Nat := if a = 0x08 then 57 else 32
/-- Order of the prime-order subgroup of an EdDSA curve (RFC 8032). -/
def edOrder (a : Nat) : Nat :=
  if a = 0x08 then 2 ^ 446 - 13818066809895115352007386748515426880336692474882178609894547503885 else l25519

/-- `EDDSA_SIGN` (R227). -/
def eddsaSign (c : Ctx) : M Act := do
  let f : PkForm := {}
  let a := pkAlg c
  chk (pkFormatOk c 1 f) .format
  chk (pkLengthOk c f (isN 0) (isN 0) (upTo 0 8192) (isN 0) && outLenOk c (edSig a)) .length
  chk (isEd a) .pkCurve
  let key ← pkKey c .S0 .E .S
  let (_, _, ctx, msg, _) := pkParts c f
  needRandom
  viaEngine (edSig a) (pkDone (beBytes (edSig a) (Config.edSign a (key.bytes.drop 9) ctx msg)))

/-- `EDDSA_VERIFY` (R227, R232). -/
def eddsaVerify (c : Ctx) : M Act := do
  let f : PkForm := {}
  let a := pkAlg c
  chk (pkFormatOk c 0 f) .format
  chk (pkLengthOk c f (fun x => !isEd a || x == edPub a) (fun x => !isEd a || x == edSig a) (upTo 0 8192) (isN 0)
    && outLenOk c 0) .length
  chk (isEd a) .pkCurve
  let (pub, sig, ctx, msg, _) := pkParts c f
  viaEngine (edSig a) (do
    chk (Config.edPointOk a pub) .pkPoint
    chk (decide (leAt sig (edPub a) (edPub a) < edOrder a)) .pkRange
    chk (Config.edPointOk a (sig.take (edPub a))) .pkPoint
    chk (Config.edVerify a pub sig ctx msg) .signature
    pkDone [])

/-! ## ML-KEM and ML-DSA (R228, R229) -/

def kemEk (a : Nat) : Nat := if a = 0x22 then 1568 else 1184
def kemCt (a : Nat) : Nat := if a = 0x22 then 1568 else 1088
def dsaPk (a : Nat) : Nat := if a = 0x32 then 2592 else 1952
def dsaSig (a : Nat) : Nat := if a = 0x32 then 4627 else 3309

/-- Every pair of 12-bit coefficients in three bytes is below 3,329. -/
def coefficientsOk : List Byte → Bool
  | a :: b :: c :: l =>
    decide (a.toNat + b.toNat % 16 * 256 < 3329) && decide (b.toNat / 16 + c.toNat * 16 < 3329) && coefficientsOk l
  | _ => true

/-- The FIPS 203 modulus check of an encapsulation key: all its coefficients, its last 32 bytes apart (R232). -/
def kemModulusOk (ek : List Byte) : Bool := coefficientsOk (ek.take (ek.length - 32))

/-- `MLKEM_ENCAPSULATE` (R224, R228). -/
def mlkemEncapsulate (c : Ctx) : M Act := do
  let f := agreeForm
  let a := pkAlg c
  chk (pkFormatOk c 0 f) .format
  chk (pkLengthOk c f (fun x => !isKem a || x == kemEk a) (isN 0) (isN 0) (upTo 16 512)
    && (pkDest c == 0 || outLenOk c (kemCt a))) .length
  pkPolicy c false f
  chk (isKem a) .pkCurve
  let (ek, _, _, _, info) := pkParts c f
  let (h, proto) ← deriveTemplate c info
  deriveOutOk c (kemCt a) h proto
  let rnd ← random 32
  viaEngine (kemEk a) (do
    chk (kemModulusOk ek) .pkRange
    let (ct, z) := Config.kemEncaps a ek rnd
    deriveKey c h proto (beBytes 32 z) (info.drop h.len) (beBytes (kemCt a) ct))

/-- `MLKEM_DECAPSULATE` (R224, R228). -/
def mlkemDecapsulate (c : Ctx) : M Act := do
  let f := agreeForm
  let a := pkAlg c
  chk (pkFormatOk c 1 f) .format
  chk (pkLengthOk c f (isN 0) (fun x => !isKem a || x == kemCt a) (isN 0) (upTo 16 512)
    && (pkDest c == 0 || outLenOk c 0)) .length
  pkPolicy c false f
  chk (isKem a) .pkCurve
  let key ← pkKey c .K3 .K1 .X
  let (_, ct, _, _, info) := pkParts c f
  let (h, proto) ← deriveTemplate c info
  deriveOutOk c 0 h proto
  needRandom
  viaEngine (kemCt a) (deriveKey c h proto (beBytes 32 (Config.kemDecaps a (key.bytes.drop 1) ct)) (info.drop h.len) [])

/-- The message length of an ML-DSA opcode (R222). -/
def dsaMsg (c : Ctx) : Nat → Bool := if pkFlags c = 4 then isN 64 else upTo 0 8192

/-- `MLDSA_SIGN` (R229, R236). -/
def mldsaSign (c : Ctx) : M Act := do
  let f : PkForm := { mu := true }
  let a := pkAlg c
  chk (pkFormatOk c 1 f) .format
  chk (pkLengthOk c f (isN 0) (isN 0) (dsaMsg c) (isN 0) && outLenOk c (dsaSig a)) .length
  chk (isDsa a) .pkCurve
  let key ← pkKey c .S0 .D2 .S
  let (_, _, ctx, msg, _) := pkParts c f
  let rnd ← random 32
  viaEngine (dsaSig a) (do
    chk (!c.r.chance) .pkFault
    pkDone (beBytes (dsaSig a) (Config.dsaSign a (key.bytes.drop 1) rnd ctx (pkFlags c == 4) msg)))

/-- `MLDSA_VERIFY` (R229). -/
def mldsaVerify (c : Ctx) : M Act := do
  let f : PkForm := { mu := true }
  let a := pkAlg c
  chk (pkFormatOk c 0 f) .format
  chk (pkLengthOk c f (fun x => !isDsa a || x == dsaPk a) (fun x => !isDsa a || x == dsaSig a) (dsaMsg c) (isN 0)
    && outLenOk c 0) .length
  chk (isDsa a) .pkCurve
  let (pub, sig, ctx, msg, _) := pkParts c f
  viaEngine (dsaSig a) (do
    chk (Config.dsaVerify a pub sig ctx (pkFlags c == 4) msg) .signature
    pkDone [])

/-! ## Key generation (R230) -/

/-- Random bytes a key pair takes. -/
def genBytes (c : Ctx) (w : Option WCurve) : Nat :=
  match pkAlg c with
  | 0x10 => pkBits c / 8
  | 0x06 | 0x07 | 0x31 | 0x32 => 32
  | 0x08 => 57
  | 0x21 | 0x22 => 64
  | _ => ((w.map orderLen).getD 0) + 8

/-- The private key's encoding and the public key of a generated pair (R217, R219, R230). -/
def genPair (c : Ctx) (w : Option WCurve) (rnd : List Byte) : List Byte × List Byte :=
  let a := pkAlg c
  match w with
  | some w =>
    let d := beNat rnd % (w.n - 1) + 1
    ([byteOf a] ++ w.tag ++ beBytes w.len d, pubPoint w d)
  | none =>
    if a = 0x10 then
      let (p, q) := Config.rsaPrimes (pkBits c) rnd
      let m := pkBits c / 8
      let h := m / 2
      let n := p * q
      -- d with e·d ≡ 1 modulo (p − 1) and (q − 1), each by its own inverse of e (65,537 is prime to both)
      let inv := fun (t : Nat) => (1 + t * ((65537 - powMod t 65535 65537) % 65537)) / 65537
      (beBytes 8 65537 ++ beBytes m n ++ beBytes h p ++ beBytes h q ++ beBytes h (inv (p - 1) % (p - 1))
          ++ beBytes h (inv (q - 1) % (q - 1)) ++ beBytes h (invMod q p),
        beBytes m n ++ beBytes 8 65537)
    else if a = 0x06 then ([byteOf a] ++ List.replicate 8 0 ++ rnd, leBytes 32 (x25519 (clamp rnd) 9))
    else if isEd a then ([byteOf a] ++ List.replicate 8 0 ++ rnd, beBytes (edPub a) (Config.edPublic a rnd))
    else if isKem a then (byteOf a :: rnd, beBytes (kemEk a) (Config.kemPublic a rnd))
    else (byteOf a :: rnd, beBytes (dsaPk a) (Config.dsaPublic a rnd))

/-- Key algorithm and public-key length of a code (R212, R219). -/
def genShape (c : Ctx) (w : Option WCurve) : Alg × Nat × Nat :=
  let a := pkAlg c
  match w with
  | some w => (.E, 9 + w.len, 1 + 2 * w.len)
  | none =>
    if a = 0x10 then (.R, 8 + pkBits c / 8 * 7 / 2, pkBits c / 8 + 8)
    else if a = 0x06 then (.E, 41, 32)
    else if isEd a then (.E, if a = 0x08 then 66 else 41, edPub a)
    else if isKem a then (.K1, 65, kemEk a) else (.D2, 33, dsaPk a)

/-- `PK_KEY_GENERATE` (R230). -/
def pkKeyGenerate (c : Ctx) : M Act := do
  let f : PkForm := { deliver := true }
  let d ← get
  let w := pkCurveOf c d
  chk (pkFormatOk c 0 f) .format
  chk (pkLengthOk c f (isN 0) (isN 0) (isN 0) (upTo 16 128)) .length
  pkPolicy c false f
  chk (w.isSome || !isW (pkAlg c)) .pkCurve
  chk (decide (pkDest c ≠ 1)) .keyUsage
  let (_, _, _, _, info) := pkParts c f
  let h ← template false info info.length
  let (alg, len, pl) := genShape c w
  chk (h.attr.alg == alg && comboOk h.attr.usage alg h.attr.mode) .keyUsage
  let proto : Key := { attr := h.attr, bytes := List.replicate len 0 }
  deriveOutOk c pl h proto
  let rnd ← random (genBytes c w)
  let (priv, pub) := genPair c w rnd
  viaEngine len (deliverKey c (pkDest c) 0 false 0 { proto with bytes := priv } [] pub)

def execRsaSign (r : Run) (s : State) : Ans := runTx 0x0601 r rsaSign s
def execRsaVerify (r : Run) (s : State) : Ans := runTx 0x0602 r rsaVerify s
def execRsaDecrypt (r : Run) (s : State) : Ans := runTx 0x0603 r rsaDecrypt s
def execEcdsaSign (r : Run) (s : State) : Ans := runTx 0x0604 r ecdsaSign s
def execEcdsaVerify (r : Run) (s : State) : Ans := runTx 0x0605 r ecdsaVerify s
def execEcdhDerive (r : Run) (s : State) : Ans := runTx 0x0606 r ecdhDerive s
def execEddsaSign (r : Run) (s : State) : Ans := runTx 0x0607 r eddsaSign s
def execEddsaVerify (r : Run) (s : State) : Ans := runTx 0x0608 r eddsaVerify s
def execMlkemEncapsulate (r : Run) (s : State) : Ans := runTx 0x0609 r mlkemEncapsulate s
def execMlkemDecapsulate (r : Run) (s : State) : Ans := runTx 0x060A r mlkemDecapsulate s
def execMldsaSign (r : Run) (s : State) : Ans := runTx 0x060B r mldsaSign s
def execMldsaVerify (r : Run) (s : State) : Ans := runTx 0x060C r mldsaVerify s
def execPkKeyGenerate (r : Run) (s : State) : Ans := runTx 0x060D r pkKeyGenerate s

end Sys2Proof.Machine
end

