-- ==== Sys2Proof/Machine/Service.lean ====
section
/-! DEFINITION. The service port (15): its frames, packages and their checks, and activation over the port.
Marks: assumptions 12, 101 to 104. -/

namespace Sys2Proof.Machine

/-! ## Frames (R431 to R435) -/

/-- The port answers: power is on and `RESET_n` is high (R424, R435). -/
def portUp (d : Dev) : Bool := d.sys.powered && !d.sys.resetLow

/-- The CP or the boot ROM serves the port (R365, R429, R430). -/
def portServed (d : Dev) : Bool :=
  alive d && !d.sys.cpRestart && (d.sys.cpUp || d.sys.stage == 5 || (d.sys.lc == 2 && d.sys.stage == 6))

/-- `SP_STATUS` and the payload of a response, with the context that answers (R433); `none` where the answer comes later. -/
abbrev PortRes := Cx × Option (Nat × List Byte)

/-- A request frame (R431 to R434): discarded while an earlier one is unanswered; then CRC and `SYNC`, then the length of its payload. -/
def onPort (ty : Nat) (f : SvcFrame) (lenOk : Nat → Bool) (k : Cx → PortRes) (s : State) : Ans :=
  withCx s (
    if !portUp s.dev || s.dev.fw.response.isSome || s.dev.fw.unanswered.isSome then s.cx
    else
      let (c, r) := if !frameOk ty f then (s.cx, some (1, [])) else if !lenOk f.payload.length then (s.cx, some (3, [])) else k s.cx
      match r with
      | some (st, p) => c.mod (portAnswer ty f.seq st p)
      | none => c.mod (fun d => { d with fw := { d.fw with unanswered := some (ty, f.seq) } }))

/-- Why a frame of the CP or the boot ROM is not allowed now (R433, R435). -/
def portState (d : Dev) : Option (Nat × List Byte) :=
  if d.sys.cpRestart then some (5, []) else if !portServed d then some (7, [3]) else none

/-- Why a package frame or `ACTIVATE` is not allowed now. -/
def packageState (d : Dev) : Option (Nat × List Byte) :=
  if d.sys.lc = 2 then some (7, [1])
  else (portState d).orElse (fun _ => if d.fw.staging = .activating ∨ d.fw.staging = .verifying then some (5, []) else none)

/-- A frame behind its refusal. -/
def barred (r : Option (Nat × List Byte)) (c : Cx) (k : PortRes) : PortRes :=
  match r with
  | some x => (c, some x)
  | none => k

/-- The status block (R436): the part of the CP reads zero until one has run. -/
def statusBlock (c : Cx) : List Byte :=
  let d := c.d
  ([devIdent d, d.sys.serial, fwVersions d, (devStatus d).toNat, bootStatus d, d.sys.cause.toNat, d.sys.faultStatus.toNat]
      ++ tamperRegs c).flatMap (leBytes 8)
    ++ (List.range 16).flatMap (alarmBytes d.goose)
    ++ (if d.sys.cpUp || d.sys.cpRestart then fwStatusBody c else List.replicate 120 0) ++ List.replicate 8 0

/-- `STATUS` (R435, R436). -/
def execStatus (f : SvcFrame) (s : State) : Ans := onPort 0x01 f (· == 0) (fun c => (c, some (0, statusBlock c))) s

/-- `LOG_READ` of the service port (R411, R412, R430, R435). -/
def execSvcLogRead (f : SvcFrame) (s : State) : Ans :=
  onPort 0x02 f (· == 16) (fun c => barred (portState c.d) c (
    let n := leAt f.payload 4 4
    if !logReadOk f.payload || decide (126 < n) then (c, some (3, []))
    else
      let (es, body) := readLog c.d.sys.cpUp (leAt f.payload 0 1) n (leAt f.payload 8 8) c.d
      (c, some (0, body ++ es)))) s

/-! ## Packages (R437 to R443) -/

/-- The package's header fields (R437). -/
def pkgField (p : List Byte) (o n : Nat) : Nat := leAt p o n

/-- A package is refused: its code in `LAST_RESULT` and record `0x7003` (R441). -/
def refusePackage (code : Nat) (d : Dev) : Dev := raise 0x7003 0xFFFF code (newFw d) (dropStaging code d)

/-- `PKG_BEGIN` (R435): the inactive bank no longer holds an image (R442, R446). -/
def execPkgBegin (f : SvcFrame) (s : State) : Ans :=
  onPort 0x10 f (· == 8) (fun c => barred (packageState c.d) c (
    let n := leAt f.payload 0 4
    if n = 0 ∨ 16777216 < n ∨ !zeroFrom f.payload 4 8 then (c, some (3, []))
    else if c.d.fw.staging ≠ .none then (c, some (7, [4]))
    else (c.mod (fun d => { d with fw := { setBank (inactiveBank d.fw) none d.fw with
      staging := .receiving, package := [], total := n, staged := none } }), some (0, [])))) s

/-- Steps 1 to 4 of R441, once the header has arrived. -/
def headerFails (c : Cx) (p : List Byte) (total : Nat) : Option Nat :=
  let kind := pkgField p 0x0A 1
  let sec := pkgField p 0x0B 1
  let imageLen := pkgField p 0x70 4
  let deltaLen := pkgField p 0x74 4
  let ownerLen := pkgField p 0x78 4
  if slice8 p 0 8 ≠ ascii [0x50, 0x47, 0x46, 0x57, 0x50, 0x4B, 0x47, 0x31] ∨ pkgField p 8 2 ≠ 1 ∨ 1 < kind ∨ 64 < sec ∨ imageLen = 0
      ∨ 8388608 < imageLen ∨ deltaLen = 0 ∨ (kind = 1 ∧ deltaLen ≠ imageLen)
      ∨ ownerLen ≠ (if c.d.sys.lc = 1 then 7416 else 0) ∨ total ≠ 128 + deltaLen + 4723 + ownerLen then some 1
  else if sec < fuseCount c.f.secVersion then some 3
  else if kind = 0 ∧ (runningBank c.d).map (·.digest) ≠ some (slice8 p 0x10 48) then some 4
  else if kind = 1 ∧ c.d.sys.stage ≠ 5 then some 5
  else none

/-- How far a delta's records have come (R439). -/
inductive Delta where
  | bad
  /-- A record not yet whole. -/
  | part (out : List Byte)
  /-- Every byte so far taken. -/
  | whole (out : List Byte)
deriving DecidableEq, Repr

/-- Runs delta records over the running image; the fuel exceeds the number of records (R439). -/
def runDelta (base : List Byte) (limit : Nat) : Nat → List Byte → List Byte → Delta
  | 0, _, out => .part out
  | fuel + 1, bytes, out =>
    if bytes.isEmpty then .whole out
    else if bytes.length < 12 then .part out
    else
      let n := leAt bytes 4 4
      let src := leAt bytes 8 4
      let pad := (n + 3) / 4 * 4
      let rest := bytes.drop 12
      if n = 0 ∨ limit < out.length + n then .bad
      else match (bytes.getD 0 0).toNat with
      | 1 => if base.length < src + n then .bad else runDelta base limit fuel rest (out ++ slice8 base src n)
      | 2 => if rest.length < pad then .part out else runDelta base limit fuel (rest.drop pad) (out ++ rest.take n)
      | _ => .bad

/-- The delta or image bytes of a package that have arrived. -/
def payloadOf (p : List Byte) : List Byte := (p.drop 128).take (pkgField p 0x74 4)

/-- The running image's bytes. -/
def runningImage (d : Dev) : List Byte := ((runningBank d).map (·.image)).getD []

/-- The image a package rebuilds so far, or `none` where its records fail (R439, R441 step 5). -/
def rebuilt (d : Dev) (p : List Byte) : Option (List Byte) :=
  let x := payloadOf p
  if pkgField p 0x0A 1 = 1 then some x
  else
    let all := decide (pkgField p 0x74 4 ≤ x.length)
    match runDelta (runningImage d) (pkgField p 0x70 4) (x.length + 1) x [] with
    | .bad => none
    | .part out => if all then none else some out
    | .whole out => if all && out.length != pkgField p 0x70 4 then none else some out

/-- What the arrival of package bytes shows: the checks of the header as it completes, then those of the records (R441). -/
def arrivalFails (c : Cx) (old new : List Byte) : Option Nat :=
  if new.length < 128 then none
  else
    (if old.length < 128 then headerFails c new c.d.fw.total else none).orElse
      (fun _ => if (rebuilt c.d new).isNone then some 9 else none)

/-- Bytes appended to the reception; record `0x7001` as the header completes, whose `KIND` it carries (R450). -/
def takeBytes (old new : List Byte) (d : Dev) : Dev :=
  let d1 : Dev := { d with fw := { d.fw with package := new } }
  if old.length < 128 ∧ 128 ≤ new.length then raise 0x7001 0xFFFF d.fw.total (pkgField new 0x0A 1) d1 else d1

/-- `PKG_DATA` (R433, R435, R441). -/
def execPkgData (f : SvcFrame) (s : State) : Ans :=
  onPort 0x11 f (fun n => decide (9 ≤ n) && decide (n ≤ 4096)) (fun c => barred (packageState c.d) c (
    let w := c.d.fw
    let new := w.package ++ f.payload.drop 8
    if w.staging ≠ .receiving then (c, some (7, [4]))
    else if !zeroFrom f.payload 4 8 then (c, some (3, []))
    else if leAt f.payload 0 4 ≠ w.package.length then (c, some (4, leBytes 4 w.package.length))
    else if w.total < new.length then (c, some (3, []))
    else
      let c1 := c.mod (takeBytes w.package new)
      match arrivalFails c w.package new with
      | some code => (c1.mod (refusePackage code), some (6, [byteOf code]))
      | none => (c1, some (0, leBytes 4 new.length)))) s

/-- The section entries of an image: type, offset, length and digest (R440). -/
def imageSections (img : List Byte) : List (Nat × Nat × Nat × List Byte) :=
  (List.range (leAt img 0x0D 1)).map (fun i =>
    let o := 0x10 + 64 * i
    (leAt img o 2, leAt img (o + 4) 4, leAt img (o + 8) 4, slice8 img (o + 0x10) 48))

/-- No two of the sections overlap. -/
def disjoint : List (Nat × Nat × Nat × List Byte) → Bool
  | [] => true
  | (_, o, n, _) :: l => l.all (fun x => decide (o + n ≤ x.2.1) || decide (x.2.1 + x.2.2.1 ≤ o)) && disjoint l

/-- An image is well formed under its statement (R440). -/
def imageOk (img : List Byte) (fw sec : Nat) : Bool :=
  let ss := imageSections img
  decide (16 + 64 * ss.length ≤ img.length) && slice8 img 0 8 == ascii [0x50, 0x47, 0x49, 0x4D, 0x41, 0x47, 0x45, 0x31]
    && decide (5 ≤ ss.length) && zeroFrom img 0x0E 0x10
    && (List.range ss.length).all (fun i => zeroFrom img (0x12 + 64 * i) (0x14 + 64 * i) && zeroFrom img (0x1C + 64 * i) (0x20 + 64 * i))
    && [1, 2, 3, 4, 5].all (fun t => (ss.filter (fun x => x.1 == t)).length == 1)
    && ss.all (fun x => decide (x.2.1 + x.2.2.1 ≤ img.length)) && disjoint ss
    && ss.all (fun x => sha384 (slice8 img x.2.1 x.2.2.1) == x.2.2.2)
    && leAt img 8 4 == fw && leAt img 0x0C 1 == sec

/-- Steps 6 to 9 of R441. A package too short for a header fails step 1. -/
def endFails (c : Cx) (v : PkgVerdict) (img : List Byte) : Option Nat :=
  let p := c.d.fw.package
  if p.length < 128 then some 1
  else if !v.vendorOk then some 6
  else if c.d.sys.lc = 1 ∧ !v.ownerOk then some 7
  else if !v.digestOk || sha384 img != slice8 p 0x40 48 then some 8
  else if !imageOk img (pkgField p 0x0C 4) (pkgField p 0x0B 1) then some 12
  else none

/-- A package has passed: the image is STAGED in the inactive bank; in recovery that bank is committed as active, the fuse steps, and the
start goes on (R430, R441, R443). -/
def stageImage (img : List Byte) (c : Cx) : Cx :=
  let w := c.d.fw
  let b : Bank := { fw := pkgField w.package 0x0C 4, sec := pkgField w.package 0x0B 1, digest := slice8 w.package 0x40 48, image := img
                    owner := c.d.sys.lc == 1 }
  let k := inactiveBank w
  let d1 := raise 0x7002 0xFFFF b.fw b.sec { c.d with fw := { setBank k (some b) w with
    staging := .staged, staged := some b, stagedKind := pkgField w.package 0x0A 1, lastResult := 0 } }
  if c.d.sys.stage ≠ 5 then { c with d := d1 }
  else
    { d := { d1 with
        sys := { d1.sys with stage := 2, haltCause := 0 }
        fw := { d1.fw with staging := .none, staged := none, package := [], total := 0, active := some k } }
      f := { c.f with secVersion := stepFuse b.sec c.f.secVersion } }

/-- `PKG_END` (R430, R435, R441). -/
def execPkgEnd (f : SvcFrame) (v : PkgVerdict) (s : State) : Ans :=
  onPort 0x12 f (· == 0) (fun c => barred (packageState c.d) c (
    let w := c.d.fw
    if w.staging ≠ .receiving ∨ w.package.length ≠ w.total then (c, some (7, [4]))
    else
      let img := (rebuilt c.d w.package).getD []
      match endFails c v img with
      | some code => (c.mod (refusePackage code), some (6, [byteOf code]))
      | none => (stageImage img c, some (0, [0])))) s

/-- A reception ends with record `0x7005` (R443, R450). -/
def endReception (code reason : Nat) (d : Dev) : Dev := raise 0x7005 0xFFFF reason (newFw d) (dropStaging code d)

/-- `PKG_ABORT` (R435, R443). -/
def execPkgAbort (f : SvcFrame) (s : State) : Ans :=
  onPort 0x13 f (· == 0) (fun c => barred (packageState c.d) c (
    if c.d.fw.staging ≠ .receiving then (c, some (7, [4])) else (c.mod (endReception 11 2), some (0, [])))) s

/-- `SVC_RECEPTION_TIMEOUT` (R434, R443). -/
def execSvcReceptionTimeout (s : State) : Ans := onDev (fun d =>
  if alive d && !d.sys.cpRestart && d.fw.staging == .receiving then endReception 10 3 d else d) s

/-! ## Activation and test (R435, R444) -/

/-- `ACTIVATE` (R444, R445): the new Ewenkober writes the response. Under a Lock the image stays as it is. -/
def execActivate (f : SvcFrame) (s : State) : Ans :=
  onPort 0x20 f (· == 4) (fun c => barred (packageState c.d) c (
    if c.d.fw.staging ≠ .staged ∨ leAt f.payload 0 4 ≠ newFw c.d ∨ c.d.goose.lock then (c, some (7, [4]))
    else if primaryHeld c.d then (c, some (7, [2]))
    else (c.mod (beginActivation none), none))) s

/-- `TEST` (R435): refused outside OPEN; in OPEN the manual does not give what a manufacturing command does. -/
def execTest (f : SvcFrame) (s : State) : Ans :=
  if s.dev.sys.lc = 0 ∧ portUp s.dev ∧ portServed s.dev ∧ frameOk 0x30 f ∧ s.dev.fw.response.isNone ∧ s.dev.fw.unanswered.isNone then
    .refused .vendorTest
  else onPort 0x30 f (fun _ => true) (fun c => (c, (if c.d.sys.lc ≠ 0 then some (7, [1]) else portState c.d))) s

/-! ## Reading the port (R431, R434) -/

/-- `SVC_RESPONSE_READ`: the response frame is driven and `SVC_IRQ_n` released (R431). -/
def execSvcResponseRead (s : State) : Ans := onDev (fun d =>
  match d.fw.response with
  | some r => if portUp d then emit (.service r) { d with fw := { d.fw with response := none } } else d
  | none => d) s

/-- `SVC_BOOT_STATUS_READ` (R431). -/
def execSvcBootStatusRead (s : State) : Ans := onDev (fun d => if portUp d then emit (.service (leBytes 8 (bootStatus d))) d else d) s

/-- `SVC_RESPONSE_TIMEOUT` (R434): an unread response is discarded. -/
def execSvcResponseTimeout (s : State) : Ans := onDev (fun d => { d with fw := { d.fw with response := none } }) s

/-- `SVC_TRANSACTION_TIMEOUT` (R434): the transaction is discarded whole, so nothing of it reaches the device. -/
def execSvcTransactionTimeout (s : State) : Ans := .next s

end Sys2Proof.Machine
end

