-- ==== Sys2Proof/Machine/Dispatch.lean ====
section
/-! DEFINITION. The meaning of each command, one arm for each row of the command table. -/

namespace Sys2Proof.Machine

def exec (i : Instr) (s : State) : Host.Outcome State Fault Refusal :=
  match i with
  | .resetNAssert heldNs => Sys2Proof.Machine.execResetNAssert heldNs s
  | .resetNRelease p => Sys2Proof.Machine.execResetNRelease p s
  | .powerLoss => Sys2Proof.Machine.execPowerLoss s
  | .perstNAssert => Sys2Proof.Machine.execPerstNAssert s
  | .perstNRelease p => Sys2Proof.Machine.execPerstNRelease p s
  | .hotReset p => Sys2Proof.Machine.execHotReset p s
  | .linkDown p => Sys2Proof.Machine.execLinkDown p s
  | .linkRetrain speed width => Sys2Proof.Machine.execLinkRetrain speed width s
  | .configurationRequest op => Sys2Proof.Machine.execConfigurationRequest op s
  | .unsupportedRequest k => Sys2Proof.Machine.execUnsupportedRequest k s
  | .barAccessRejected a => Sys2Proof.Machine.execBarAccessRejected a s
  | .registerWrite a => Sys2Proof.Machine.execRegisterWrite a s
  | .sqTailWrite a => Sys2Proof.Machine.execSqTailWrite a s
  | .cqHeadWrite a => Sys2Proof.Machine.execCqHeadWrite a s
  | .interruptMessageStoreWrite a => Sys2Proof.Machine.execInterruptMessageStoreWrite a s
  | .descriptorFetch => Sys2Proof.Machine.execDescriptorFetch s
  | .descriptorArrival slice ring desc => Sys2Proof.Machine.execDescriptorArrival slice ring desc s
  | .dmaReadFault r f addr => Sys2Proof.Machine.execDmaReadFault r f addr s
  | .pcieCompletionTimeout r addr => Sys2Proof.Machine.execPcieCompletionTimeout r addr s
  | .ideCheckFail stream reads => Sys2Proof.Machine.execIdeCheckFail stream reads s
  | .doeDiscovery r => Sys2Proof.Machine.execDoeDiscovery r s
  | .getVersion r => Sys2Proof.Machine.execGetVersion r s
  | .getCapabilities r => Sys2Proof.Machine.execGetCapabilities r s
  | .negotiateAlgorithms r => Sys2Proof.Machine.execNegotiateAlgorithms r s
  | .getDigests r => Sys2Proof.Machine.execGetDigests r s
  | .getCertificate r => Sys2Proof.Machine.execGetCertificate r s
  | .challenge r => Sys2Proof.Machine.execChallenge r s
  | .getMeasurements r => Sys2Proof.Machine.execGetMeasurements r s
  | .keyExchange r => Sys2Proof.Machine.execKeyExchange r s
  | .finish r => Sys2Proof.Machine.execFinish r s
  | .heartbeatSpdm r => Sys2Proof.Machine.execHeartbeatSpdm r s
  | .keyUpdate r => Sys2Proof.Machine.execKeyUpdate r s
  | .endSession r => Sys2Proof.Machine.execEndSession r s
  | .ideKm r => Sys2Proof.Machine.execIdeKm r s
  | .itemDispatch => Sys2Proof.Machine.execItemDispatch s
  | .preemptSave core thread => Sys2Proof.Machine.execPreemptSave core thread s
  | .itemFinish core thread => Sys2Proof.Machine.execItemFinish core thread s
  | .drainCeilingExpiry slice => Sys2Proof.Machine.execDrainCeilingExpiry slice s
  | .coreFence core cause => Sys2Proof.Machine.execCoreFence core cause s
  | .engineFence cipher n cause => Sys2Proof.Machine.execEngineFence cipher n cause s
  | .pkEngineFence n cause => Sys2Proof.Machine.execPkEngineFence n cause s
  | .keyCacheBankFence bank cause reader => Sys2Proof.Machine.execKeyCacheBankFence bank cause reader s
  | .sliceError slice cause => Sys2Proof.Machine.execSliceError slice cause s
  | .deviceFaultStop block => Sys2Proof.Machine.execDeviceFaultStop block s
  | .cpLockstepMismatch => Sys2Proof.Machine.execCpLockstepMismatch s
  | .cpWatchdogKick => Sys2Proof.Machine.execCpWatchdogKick s
  | .cpWatchdogExpiry => Sys2Proof.Machine.execCpWatchdogExpiry s
  | .cpRestartComplete => Sys2Proof.Machine.execCpRestartComplete s
  | .gateViolation a => Sys2Proof.Machine.execGateViolation a s
  | .engineRequestStart pool => Sys2Proof.Machine.execEngineRequestStart pool s
  | .engineRequestComplete pool n => Sys2Proof.Machine.execEngineRequestComplete pool n s
  | .engineAbortComplete pool n => Sys2Proof.Machine.execEngineAbortComplete pool n s
  | .pkAbortComplete n => Sys2Proof.Machine.execPkAbortComplete n s
  | .keyImport r => Sys2Proof.Machine.execKeyImport r s
  | .keyExport r => Sys2Proof.Machine.execKeyExport r s
  | .keyGenerate r => Sys2Proof.Machine.execKeyGenerate r s
  | .keyCheckValue r => Sys2Proof.Machine.execKeyCheckValue r s
  | .keyStore r => Sys2Proof.Machine.execKeyStore r s
  | .keyDelete r => Sys2Proof.Machine.execKeyDelete r s
  | .keyDerive r => Sys2Proof.Machine.execKeyDerive r s
  | .keyTranslate r => Sys2Proof.Machine.execKeyTranslate r s
  | .keyLoadEphemeral r => Sys2Proof.Machine.execKeyLoadEphemeral r s
  | .keyRelease r => Sys2Proof.Machine.execKeyRelease r s
  | .keySlotInfo r => Sys2Proof.Machine.execKeySlotInfo r s
  | .reservationCommit slice slot => Sys2Proof.Machine.execReservationCommit slice slot s
  | .pinTranslate r => Sys2Proof.Machine.execPinTranslate r s
  | .pinVerifyOffset r => Sys2Proof.Machine.execPinVerifyOffset r s
  | .pinOffsetGenerate r => Sys2Proof.Machine.execPinOffsetGenerate r s
  | .pinVerifyPvv r => Sys2Proof.Machine.execPinVerifyPvv r s
  | .pvvGenerate r => Sys2Proof.Machine.execPvvGenerate r s
  | .pinVerifyReference r => Sys2Proof.Machine.execPinVerifyReference r s
  | .pinReferenceGenerate r => Sys2Proof.Machine.execPinReferenceGenerate r s
  | .arqcVerify r => Sys2Proof.Machine.execArqcVerify r s
  | .arpcGenerate r => Sys2Proof.Machine.execArpcGenerate r s
  | .emvScriptMac r => Sys2Proof.Machine.execEmvScriptMac r s
  | .emvScriptPin r => Sys2Proof.Machine.execEmvScriptPin r s
  | .ccvGenerate r => Sys2Proof.Machine.execCcvGenerate r s
  | .ccvVerify r => Sys2Proof.Machine.execCcvVerify r s
  | .macGenerate r => Sys2Proof.Machine.execMacGenerate r s
  | .macVerify r => Sys2Proof.Machine.execMacVerify r s
  | .dataEncrypt r => Sys2Proof.Machine.execDataEncrypt r s
  | .dataDecrypt r => Sys2Proof.Machine.execDataDecrypt r s
  | .bulkMacGenerate r => Sys2Proof.Machine.execBulkMacGenerate r s
  | .bulkMacVerify r => Sys2Proof.Machine.execBulkMacVerify r s
  | .digest r => Sys2Proof.Machine.execDigest r s
  | .digestVerify r => Sys2Proof.Machine.execDigestVerify r s
  | .hmacDeriveKey r => Sys2Proof.Machine.execHmacDeriveKey r s
  | .rsaSign r => Sys2Proof.Machine.execRsaSign r s
  | .rsaVerify r => Sys2Proof.Machine.execRsaVerify r s
  | .rsaDecrypt r => Sys2Proof.Machine.execRsaDecrypt r s
  | .ecdsaSign r => Sys2Proof.Machine.execEcdsaSign r s
  | .ecdsaVerify r => Sys2Proof.Machine.execEcdsaVerify r s
  | .ecdhDerive r => Sys2Proof.Machine.execEcdhDerive r s
  | .eddsaSign r => Sys2Proof.Machine.execEddsaSign r s
  | .eddsaVerify r => Sys2Proof.Machine.execEddsaVerify r s
  | .mlkemEncapsulate r => Sys2Proof.Machine.execMlkemEncapsulate r s
  | .mlkemDecapsulate r => Sys2Proof.Machine.execMlkemDecapsulate r s
  | .mldsaSign r => Sys2Proof.Machine.execMldsaSign r s
  | .mldsaVerify r => Sys2Proof.Machine.execMldsaVerify r s
  | .pkKeyGenerate r => Sys2Proof.Machine.execPkKeyGenerate r s
  | .randomGenerate r => Sys2Proof.Machine.execRandomGenerate r s
  | .rngStatus r => Sys2Proof.Machine.execRngStatus r s
  | .conditionedBlock => Sys2Proof.Machine.execConditionedBlock s
  | .aptWindowClose => Sys2Proof.Machine.execAptWindowClose s
  | .healthTestFailure test => Sys2Proof.Machine.execHealthTestFailure test s
  | .sourceStartupPass => Sys2Proof.Machine.execSourceStartupPass s
  | .sourceStartupTimeout => Sys2Proof.Machine.execSourceStartupTimeout s
  | .instanceInstantiate => Sys2Proof.Machine.execInstanceInstantiate s
  | .drbgGenerate n => Sys2Proof.Machine.execDrbgGenerate n s
  | .reseedDue n => Sys2Proof.Machine.execReseedDue n s
  | .reseedComplete => Sys2Proof.Machine.execReseedComplete s
  | .conditionerMismatch => Sys2Proof.Machine.execConditionerMismatch s
  | .drbgInstanceFence n cause reader => Sys2Proof.Machine.execDrbgInstanceFence n cause reader s
  | .rawSampleRunEnd healthFails => Sys2Proof.Machine.execRawSampleRunEnd healthFails s
  | .mbAck mailbox => Sys2Proof.Machine.execMbAck mailbox s
  | .executionLimitExpiry mailbox => Sys2Proof.Machine.execExecutionLimitExpiry mailbox s
  | .devInfo r => Sys2Proof.Machine.execDevInfo r s
  | .devReset r => Sys2Proof.Machine.execDevReset r s
  | .devResetStart p => Sys2Proof.Machine.execDevResetStart p s
  | .timeSet r => Sys2Proof.Machine.execTimeSet r s
  | .nonceGet r => Sys2Proof.Machine.execNonceGet r s
  | .sessionOpen r pointOk encapOk => Sys2Proof.Machine.execSessionOpen r pointOk encapOk s
  | .sessionClose r => Sys2Proof.Machine.execSessionClose r s
  | .sessionIdleExpiry session => Sys2Proof.Machine.execSessionIdleExpiry session s
  | .hifPolicySet r => Sys2Proof.Machine.execHifPolicySet r s
  | .rngSelfTest r fails => Sys2Proof.Machine.execRngSelfTest r fails s
  | .rngRawSample r => Sys2Proof.Machine.execRngRawSample r s
  | .sliceCreate r => Sys2Proof.Machine.execSliceCreate r s
  | .sliceBind r => Sys2Proof.Machine.execSliceBind r s
  | .sliceRingSetup r => Sys2Proof.Machine.execSliceRingSetup r s
  | .sliceActivate r => Sys2Proof.Machine.execSliceActivate r s
  | .sliceQuiesce r => Sys2Proof.Machine.execSliceQuiesce r s
  | .sliceFreeze r => Sys2Proof.Machine.execSliceFreeze r s
  | .sliceResume r => Sys2Proof.Machine.execSliceResume r s
  | .sliceReset r => Sys2Proof.Machine.execSliceReset r s
  | .sliceRemove r => Sys2Proof.Machine.execSliceRemove r s
  | .sliceSave r => Sys2Proof.Machine.execSliceSave r s
  | .sliceRestore r body imageTagOk => Sys2Proof.Machine.execSliceRestore r body imageTagOk s
  | .slicePolicySet r => Sys2Proof.Machine.execSlicePolicySet r s
  | .sliceStatus r => Sys2Proof.Machine.execSliceStatus r s
  | .migrationKeyOffer r => Sys2Proof.Machine.execMigrationKeyOffer r s
  | .migrationKeyAccept r v => Sys2Proof.Machine.execMigrationKeyAccept r v s
  | .migrationKeyComplete r v => Sys2Proof.Machine.execMigrationKeyComplete r v s
  | .migrationKeyExpiry entry => Sys2Proof.Machine.execMigrationKeyExpiry entry s
  | .tenantPolicySet r => Sys2Proof.Machine.execTenantPolicySet r s
  | .officerEnroll r v => Sys2Proof.Machine.execOfficerEnroll r v s
  | .officerRemove r => Sys2Proof.Machine.execOfficerRemove r s
  | .quorumSet r => Sys2Proof.Machine.execQuorumSet r s
  | .officerList r => Sys2Proof.Machine.execOfficerList r s
  | .lmkComponentLoad r => Sys2Proof.Machine.execLmkComponentLoad r s
  | .lmkCommit r => Sys2Proof.Machine.execLmkCommit r s
  | .lmkTr34Load r v => Sys2Proof.Machine.execLmkTr34Load r v s
  | .lmkActivate r => Sys2Proof.Machine.execLmkActivate r s
  | .lmkRemove r => Sys2Proof.Machine.execLmkRemove r s
  | .lmkInfo r => Sys2Proof.Machine.execLmkInfo r s
  | .tr34KrdInit r pub => Sys2Proof.Machine.execTr34KrdInit r pub s
  | .tr34AnchorSet r parses => Sys2Proof.Machine.execTr34AnchorSet r parses s
  | .curveLoad r v => Sys2Proof.Machine.execCurveLoad r v s
  | .curveClear r => Sys2Proof.Machine.execCurveClear r s
  | .slotImport r => Sys2Proof.Machine.execSlotImport r s
  | .slotDelete r => Sys2Proof.Machine.execSlotDelete r s
  | .logRead r => Sys2Proof.Machine.execLogRead r s
  | .logClear r => Sys2Proof.Machine.execLogClear r s
  | .logRateSet r => Sys2Proof.Machine.execLogRateSet r s
  | .ctrSelect r => Sys2Proof.Machine.execCtrSelect r s
  | .ctrRead r => Sys2Proof.Machine.execCtrRead r s
  | .ctrDumpSet r => Sys2Proof.Machine.execCtrDumpSet r s
  | .bwmonSet r => Sys2Proof.Machine.execBwmonSet r s
  | .ctrGrant r => Sys2Proof.Machine.execCtrGrant r s
  | .ctrRevoke r => Sys2Proof.Machine.execCtrRevoke r s
  | .tamperStatus r => Sys2Proof.Machine.execTamperStatus r s
  | .tamperUnlock r => Sys2Proof.Machine.execTamperUnlock r s
  | .tamperConfig r => Sys2Proof.Machine.execTamperConfig r s
  | .tamperFuseDisable r => Sys2Proof.Machine.execTamperFuseDisable r s
  | .lcClose r => Sys2Proof.Machine.execLcClose r s
  | .lcScrap r => Sys2Proof.Machine.execLcScrap r s
  | .lcScrapStart => Sys2Proof.Machine.execLcScrapStart s
  | .debugChallenge r => Sys2Proof.Machine.execDebugChallenge r s
  | .debugChallengeExpiry => Sys2Proof.Machine.execDebugChallengeExpiry s
  | .debugReopen r sigsOk => Sys2Proof.Machine.execDebugReopen r sigsOk s
  | .debugReopenStart => Sys2Proof.Machine.execDebugReopenStart s
  | .fwStatus r => Sys2Proof.Machine.execFwStatus r s
  | .fwActivate r => Sys2Proof.Machine.execFwActivate r s
  | .fwDiscard r => Sys2Proof.Machine.execFwDiscard r s
  | .pairFound r => Sys2Proof.Machine.execPairFound r s
  | .pairJoin r => Sys2Proof.Machine.execPairJoin r s
  | .pairAdmit r => Sys2Proof.Machine.execPairAdmit r s
  | .pairResolve r => Sys2Proof.Machine.execPairResolve r s
  | .unpair r => Sys2Proof.Machine.execUnpair r s
  | .pairStatus r => Sys2Proof.Machine.execPairStatus r s
  | .pairTimeoutSet r => Sys2Proof.Machine.execPairTimeoutSet r s
  | .pairSwap r => Sys2Proof.Machine.execPairSwap r s
  | .pairTakeOver r => Sys2Proof.Machine.execPairTakeOver r s
  | .tamperAlarm mask temps => Sys2Proof.Machine.execTamperAlarm mask temps s
  | .eraseVolatileComplete => Sys2Proof.Machine.execEraseVolatileComplete s
  | .eraseShareComplete => Sys2Proof.Machine.execEraseShareComplete s
  | .tamperSourceClear n => Sys2Proof.Machine.execTamperSourceClear n s
  | .extTamperEdge lineB phaseUs => Sys2Proof.Machine.execExtTamperEdge lineB phaseUs s
  | .extTamperPhaseTimeout lineB => Sys2Proof.Machine.execExtTamperPhaseTimeout lineB s
  | .extTamperPowerupCheck => Sys2Proof.Machine.execExtTamperPowerupCheck s
  | .fuseResense ok => Sys2Proof.Machine.execFuseResense ok s
  | .shieldPatternRenew ok => Sys2Proof.Machine.execShieldPatternRenew ok s
  | .jtagInstructionLoad ir => Sys2Proof.Machine.execJtagInstructionLoad ir s
  | .muleCheckerTest c pass => Sys2Proof.Machine.execMuleCheckerTest c pass s
  | .muleProgress => Sys2Proof.Machine.execMuleProgress s
  | .muleProgressTimeout => Sys2Proof.Machine.execMuleProgressTimeout s
  | .scrubPass a found word => Sys2Proof.Machine.execScrubPass a found word s
  | .skerryScrub r ok => Sys2Proof.Machine.execSkerryScrub r ok s
  | .skerryCommit => Sys2Proof.Machine.execSkerryCommit s
  | .straitTrainingStart => Sys2Proof.Machine.execStraitTrainingStart s
  | .straitTrainingComplete lanes => Sys2Proof.Machine.execStraitTrainingComplete lanes s
  | .straitTrainingRetry => Sys2Proof.Machine.execStraitTrainingRetry s
  | .heartbeatSend => Sys2Proof.Machine.execHeartbeatSend s
  | .hello auth m => Sys2Proof.Machine.execHello auth m s
  | .heartbeat auth m => Sys2Proof.Machine.execHeartbeat auth m s
  | .journalReq auth step => Sys2Proof.Machine.execJournalReq auth step s
  | .journal auth e => Sys2Proof.Machine.execJournal auth e s
  | .journalAck auth seq => Sys2Proof.Machine.execJournalAck auth seq s
  | .resync auth m => Sys2Proof.Machine.execResync auth m s
  | .resyncComplete => Sys2Proof.Machine.execResyncComplete s
  | .relinquish auth seq => Sys2Proof.Machine.execRelinquish auth seq s
  | .control auth m => Sys2Proof.Machine.execControl auth m s
  | .heartbeatLoss => Sys2Proof.Machine.execHeartbeatLoss s
  | .journalAckTimeout => Sys2Proof.Machine.execJournalAckTimeout s
  | .pairTimeoutExpiry => Sys2Proof.Machine.execPairTimeoutExpiry s
  | .eventRecordWrite => Sys2Proof.Machine.execEventRecordWrite s
  | .tokenAdd code => Sys2Proof.Machine.execTokenAdd code s
  | .suppressionSummary => Sys2Proof.Machine.execSuppressionSummary s
  | .bwmonWindowEnd m bytes => Sys2Proof.Machine.execBwmonWindowEnd m bytes s
  | .dumpPeriodEnd late => Sys2Proof.Machine.execDumpPeriodEnd late s
  | .pufReread ok => Sys2Proof.Machine.execPufReread ok s
  | .bootImageVerify v => Sys2Proof.Machine.execBootImageVerify v s
  | .deviceReady selfTestFails loadFail badSlices => Sys2Proof.Machine.execDeviceReady selfTestFails loadFail badSlices s
  | .status f => Sys2Proof.Machine.execStatus f s
  | .svcLogRead f => Sys2Proof.Machine.execSvcLogRead f s
  | .pkgBegin f => Sys2Proof.Machine.execPkgBegin f s
  | .pkgData f => Sys2Proof.Machine.execPkgData f s
  | .pkgEnd f v => Sys2Proof.Machine.execPkgEnd f v s
  | .pkgAbort f => Sys2Proof.Machine.execPkgAbort f s
  | .activate f => Sys2Proof.Machine.execActivate f s
  | .test f => Sys2Proof.Machine.execTest f s
  | .svcResponseRead => Sys2Proof.Machine.execSvcResponseRead s
  | .svcBootStatusRead => Sys2Proof.Machine.execSvcBootStatusRead s
  | .svcResponseTimeout => Sys2Proof.Machine.execSvcResponseTimeout s
  | .svcTransactionTimeout => Sys2Proof.Machine.execSvcTransactionTimeout s
  | .svcReceptionTimeout => Sys2Proof.Machine.execSvcReceptionTimeout s
  | .activationDrainExpiry => Sys2Proof.Machine.execActivationDrainExpiry s
  | .activationBankCommit => Sys2Proof.Machine.execActivationBankCommit s
  | .activationLoadComplete failedCores => Sys2Proof.Machine.execActivationLoadComplete failedCores s

end Sys2Proof.Machine
end

