-- ==== Sys2Proof/Safety.lean ====
section
/-! DEFINITION. The terms in which claims are made: what a command does to the device, a transaction command at work on a thread and how
it ends, a management request that has passed its checks and how it is answered, and what a reset keeps. -/

namespace Sys2Proof.Machine

/-! ## What a command does -/

/-- The command completes: the device becomes `d`, vector 8 signalled where `DEV_STATUS` changes; queue and fuses stay. -/
def Does (i : Instr) (s : State) (d : Dev) : Prop := exec i s = .next { s with dev := watch (fun _ => d) s.dev }

/-- The command completes: device and fuses become those of `c`. -/
def DoesAll (i : Instr) (s : State) (c : Cx) : Prop :=
  exec i s = .next { s with dev := watch (fun _ => c.d) s.dev, fuse := c.f }

/-- The command completes and starts or ends a reset: nothing signals the change of the status word. -/
def Resets (i : Instr) (s : State) (c : Cx) : Prop := exec i s = .next { s with dev := c.d, fuse := c.f }

/-! ## Transaction commands -/

/-- Operands are read: `m` answers `a` and leaves the device as `d1`. -/
def Reads {α : Type} (m : M α) (d : Dev) (a : α) (d1 : Dev) : Prop := m.run.run d = (.ok a, d1)

/-- The command of an opcode is at work: its item runs on the thread without a result and waits for nothing that has not come. -/
def AtWork (s : State) (r : Run) (op : Nat) (c : Ctx) : Prop :=
  serving s.dev = true ∧ r.core < coreCount s.dev ∧ r.thread < 4 ∧
    ∃ i, runningOn s.dev r.core r.thread = some (c.id, i) ∧ dOpcode i.desc = op ∧ i.res = none ∧ i.abort = false ∧ i.queued = none ∧
      (i.wait = .none ∨ (i.wait = .rng ∧ (rngForItems s.dev ∨ s.dev.rng.failed))) ∧
      c.i = { i with wait := .none } ∧ c.r = i.run.getD r

/-- The device as the command begins: its item waits no more. -/
def begun (s : State) (c : Ctx) : Dev := modItem c.id (fun i => { i with wait := .none }) s.dev

/-- How a command ends: a failing result, a result and its delivery, or a request to an engine pool. -/
def ends (c : Ctx) (o : Except Res Act) (d : Dev) : Dev :=
  match o with
  | .error r => setRes c.id r d
  | .ok (.done r a) => deliver c.id c.i.slice r a d
  | .ok (.engine p n r a) => postEngine c p n r a d

/-- The command completes as `o` from the device `d` its operands left, what it drew charged to the instance of its core (R246). -/
def TxDoes (i : Instr) (s : State) (c : Ctx) (o : Except Res Act) (d : Dev) : Prop :=
  Does i s (ends c o (charge (c.r.core % 15) (d.rng.drawn - s.dev.rng.drawn) d))

/-- A status alone. -/
def fails (st : Status) : Except Res Act := .error { status := st }

/-- A result delivered at once. -/
def gives (r : Res) (a : After := .nothing) : Except Res Act := .ok (.done r a)

/-- A result through an engine of a pool. -/
def posts (p : Pool) (n : Nat) (r : Res) (a : After := .nothing) : Except Res Act := .ok (.engine p n r a)

/-- Key A is found: the lookup of R112 answers `k` and leaves the device as `d1`. -/
def KeyA (c : Ctx) (params : Nat) (kinds : List Nat) (dem : Demand) (d : Dev) (k : Copy) (d1 : Dev) : Prop :=
  Reads (lookupAt c 0 (dKeyA c.i.desc) (c.input params) kinds dem) d k d1

/-- Key B is found likewise. -/
def KeyB (c : Ctx) (i h : Nat) (params : Nat) (dem : Demand) (d : Dev) (k : Copy) (d1 : Dev) : Prop :=
  Reads (lookupAt c i h (c.input params) allKinds dem) d k d1

/-- Policy bits of the item's slice (R289). -/
def policyBit (s : State) (c : Ctx) (n : Nat) : Bool := bitAt (sliceOf s.dev c.i.slice).per.policy n

/-- A new key goes to its destination (R133): an LMK block for `DEST` 0, a slot step for 1, a kind 2 handle for 2; `out` says whether an
engine delivers it. -/
def Delivers (i : Instr) (s : State) (c : Ctx) (out : Res → After → Except Res Act) (dest slot : Nat) (ow : Bool) (meth : Nat) (k : Key)
    (before after : List Byte) (d : Dev) : Prop :=
  weakTdes k.attr.alg k.bytes = false →
    (dest = 0 → ∀ g lmk pad d1, activeLmk (sliceOf d c.i.slice).per = some (g, lmk) →
      Reads (random (padLen false k.bytes.length)) d pad d1 →
      outLenOk c (before ++ writeBlock false lmk (some g) k pad ++ after).length = true →
      TxDoes i s c (out { status := .ok, out := before ++ writeBlock false lmk (some g) k pad ++ after
                          fixed := keyResult 0 0 (kcv meth k) } .nothing) d1) ∧
    (dest = 1 → outLenOk c (before ++ after).length = true →
      TxDoes i s c (out { status := .ok, out := before ++ after, fixed := keyResult (c.i.slice * 2 ^ 48 + slot) 0 (kcv meth k) }
        (.step (.slotWrite slot k (ceilingOf k.attr) ow))) d) ∧
    (2 ≤ dest → outLenOk c (before ++ after).length = true →
      TxDoes i s c (out { status := .ok, out := before ++ after, fixed := keyResult 0 0 (kcv meth k) } (.handle k)) d)

/-! ## Management requests -/

/-- The device with a request in service on its mailbox, its session not yet checked. -/
def taken (op : MOp) (q : MbReq) (c : Cx) : Cx :=
  c.mod (modBox q.mailbox (fun b => { b with
    cur := some (op, { q with session := 0, tagOk := q.tagOk && decide (q.quorumLen + 16 ≤ q.bodyLen + q.inLen) }), wait := .none }))

/-- A request as its body meets it, before its session is known. -/
def reqOf (q : MbReq) : Req :=
  { m := q.mailbox, q := { q with tagOk := q.tagOk && decide (q.quorumLen + 16 ≤ q.bodyLen + q.inLen) }, inp := fit q.input (plainLen q) }

/-- A request taken up from `c0` passes steps 1 to 7 of R268 and meets its body as `r` in `c`. -/
def Passes (op : MOp) (q : MbReq) (c0 : Cx) (r : Req) (c : Cx) : Prop :=
  earlyCheck op (reqOf q).q c0 = none ∧ (q.inLen = 0 ∨ q.dmaFail = none) ∧
    (authorise op (reqOf q) (taken op q c0)).2.1 = none ∧
    c = (authorise op (reqOf q) (taken op q c0)).1 ∧
    r = { reqOf q with officer := (authorise op (reqOf q) (taken op q c0)).2.2 }

/-- A request reaches its body: written to an IDLE mailbox, left in one by a `GO` write, or sent in a secured SPDM session. -/
def Admits (op : MOp) (q : MbReq) (s : State) (r : Req) (c : Cx) : Prop :=
  barsOpen s.dev = true ∧ boxesServe s.dev = true ∧
    match q.spdm with
    | none =>
      q.mailbox < 8 ∧ (s.dev.hif.ideRequired = false ∨ q.ide = true) ∧
        (((mailboxOf s.dev q.mailbox).state = .idle ∧ Passes op q (s.cx.mod (submitBox op q)) r c) ∨
          ((mailboxOf s.dev q.mailbox).state = .busy ∧ (mailboxOf s.dev q.mailbox).wait = .submitted ∧
            windowOpcode (mailboxOf s.dev q.mailbox) = opCode op ∧ Passes op (fromWindow (mailboxOf s.dev q.mailbox) q) s.cx r c))
    | some k => ∃ x, Tab.find s.dev.hif.spdm k = some x ∧ x.finished = true ∧ (mailboxOf s.dev (spdmBox k)).state = .idle ∧
        spdmHeader q = none ∧ stateCheck s.cx op = none ∧ q.session = 0 ∧
        (let r0 : Req := { m := spdmBox k, q, inp := fit q.input (q.bodyLen - q.quorumLen), officer := (x.bound.map (·.2)).getD 0 }
         let c0 := s.cx.mod (fun d => modBox (spdmBox k) (fun b => { b with cur := some (op, q) }) (goBox (spdmBox k) q.reqId d))
         spdmAuthorise op k x r0 c0 = (c, none) ∧ r = r0)

/-- The request is answered with a status from the context its effect left. -/
def Answers (i : Instr) (s : State) (r : Req) (st : Status) (body out : List Byte) (c : Cx) : Prop :=
  DoesAll i s (c.mod (answer r.m st body out false (nextSeq s.dev)))

/-- The request stays in service and waits. -/
def Waits (i : Instr) (s : State) (r : Req) (w : MbWait) (c : Cx) : Prop :=
  DoesAll i s (c.mod (fun d => modBox r.m (fun b =>
    if b.state = .busy ∧ b.cur.isSome then { b with wait := w, lastRec := lastRecord r.m (nextSeq s.dev) d } else b) d))

/-- A mirrored request passes and its step enters the commit path (R282). -/
def Enters (i : Instr) (s : State) (r : Req) (op : MOp) (data : List Byte) (c : Cx) : Prop :=
  Waits i s r .step (c.mod (submit { slice := r.q.scope, kind := .mgmt op r.q.scope r.inp data } (.mailbox r.m) { status := .ok }))

/-- The oldest step under way commits here, the device belonging to no pair. -/
def Commits (s : State) (p : Pend) (rest : List Pend) : Prop :=
  alive s.dev = true ∧ s.dev.sys.ksk = true ∧ devFault s.dev = false ∧ s.dev.pair.state = .unpaired ∧ s.dev.pair.steps = p :: rest ∧
    p.phase = .committing ∧ p.mirrored = false ∧ p.foreign = false

/-- The context in which such a step takes effect. -/
def committed (s : State) (rest : List Pend) : Cx :=
  s.cx.mod (fun d => count 0x9001 1 none (some 0x301) false none (modPair (fun y => { y with steps := rest }) d))

/-- A mirrored command (R134, R282, R384). Where `good` holds of its scope, its input and the key it carries, its request enters the commit
path as one step; and when that step commits, `post` takes effect and the mailbox is answered, unmirrored, with `body` and `out`. -/
def Mirrors (row : MbReq → Instr) (op : MOp) (good : Nat → List Byte → List Byte → Cx → Prop) (post : Nat → List Byte → List Byte → Cx → Cx)
    (body : Nat → List Byte → List Byte → Cx → List Byte) (out : Nat → List Byte → List Byte → Cx → List Byte) : Prop :=
  (∀ q s r c, Admits op q s r c → good r.q.scope r.inp (dataOf op r c) c →
    (out r.q.scope r.inp (dataOf op r c) c).length ≤ r.q.outCap →
    (drawOf op r = 0 → Enters (row q) s r op (dataOf op r c) c) ∧
    (drawOf op r ≠ 0 → c.d.rng.failed = false → rngServing c.d = true →
      Enters (row q) s r op (dataOf op r c) (c.mod (cpDraw (drawOf op r))))) ∧
  (∀ s p rest m scope inp dat, Commits s p rest → p.origin = .mailbox m → p.step.kind = .mgmt op scope inp dat →
    good scope inp dat (committed s rest) →
    DoesAll .skerryCommit s ((post scope inp dat (committed s rest)).mod
      (answer m .ok (body scope inp dat (committed s rest)) (out scope inp dat (committed s rest)) true (nextSeq (committed s rest).d))))

/-- No body and no output. -/
def noBytes (_ : Nat) (_ _ : List Byte) (_ : Cx) : List Byte := []

/-- A slice in one of the states in which mirrored commands other than those of R298 are served. -/
def thawed (n : Nat) (c : Cx) : Prop := n < 4096 ∧ (sliceOf c.d n).state ≠ .free ∧ (sliceOf c.d n).state ≠ .frozen

/-- The authority of an Officer command: the device, or a slice that serves it. -/
def authOk (n : Nat) (c : Cx) : Prop := n = 0xFFFF ∨ thawed n c

/-- A request is turned away as `t`: its mailbox is DONE with a response of the status alone; fuses, slices, Officers, the journal and the
firmware stay. -/
def TurnsAway (i : Instr) (s : State) (m : Nat) (st : Status) (t : State) : Prop :=
  exec i s = .next t ∧ t.fuse = s.fuse ∧ t.dev.slices = s.dev.slices ∧ t.dev.mg.officers = s.dev.mg.officers ∧
    t.dev.store = s.dev.store ∧ t.dev.fw = s.dev.fw ∧ (mailboxOf t.dev m).state = .done ∧ (mailboxOf t.dev m).cur = none ∧
    ∃ rest, (mailboxOf t.dev m).response = Mem.writeAll [] 0 (leBytes 2 st.code ++ rest)

/-- The row of the command table that carries an operation. -/
def rowOf (op : MOp) (q : MbReq) : Instr :=
  match op with
  | .devInfo => .devInfo q
  | .devReset => .devReset q
  | .timeSet => .timeSet q
  | .nonceGet => .nonceGet q
  | .sessionOpen p e => .sessionOpen q p e
  | .sessionClose => .sessionClose q
  | .hifPolicySet => .hifPolicySet q
  | .rngSelfTest f => .rngSelfTest q f
  | .rngRawSample => .rngRawSample q
  | .sliceCreate => .sliceCreate q
  | .sliceBind => .sliceBind q
  | .sliceRingSetup => .sliceRingSetup q
  | .sliceActivate => .sliceActivate q
  | .sliceQuiesce => .sliceQuiesce q
  | .sliceFreeze => .sliceFreeze q
  | .sliceResume => .sliceResume q
  | .sliceReset => .sliceReset q
  | .sliceRemove => .sliceRemove q
  | .sliceSave => .sliceSave q
  | .sliceRestore b t => .sliceRestore q b t
  | .slicePolicySet => .slicePolicySet q
  | .sliceStatus => .sliceStatus q
  | .migOffer => .migrationKeyOffer q
  | .migAccept v => .migrationKeyAccept q v
  | .migComplete v => .migrationKeyComplete q v
  | .tenantPolicySet => .tenantPolicySet q
  | .officerEnroll v => .officerEnroll q v
  | .officerRemove => .officerRemove q
  | .quorumSet => .quorumSet q
  | .officerList => .officerList q
  | .lmkComponentLoad => .lmkComponentLoad q
  | .lmkCommit => .lmkCommit q
  | .lmkTr34Load v => .lmkTr34Load q v
  | .lmkActivate => .lmkActivate q
  | .lmkRemove => .lmkRemove q
  | .lmkInfo => .lmkInfo q
  | .krdInit p => .tr34KrdInit q p
  | .anchorSet p => .tr34AnchorSet q p
  | .curveLoad v => .curveLoad q v
  | .curveClear => .curveClear q
  | .slotImport => .slotImport q
  | .slotDelete => .slotDelete q
  | .logRead => .logRead q
  | .logClear => .logClear q
  | .logRateSet => .logRateSet q
  | .ctrSelect => .ctrSelect q
  | .ctrRead => .ctrRead q
  | .ctrDumpSet => .ctrDumpSet q
  | .bwmonSet => .bwmonSet q
  | .ctrGrant => .ctrGrant q
  | .ctrRevoke => .ctrRevoke q
  | .tamperStatus => .tamperStatus q
  | .tamperUnlock => .tamperUnlock q
  | .tamperConfig => .tamperConfig q
  | .tamperFuseDisable => .tamperFuseDisable q
  | .lcClose => .lcClose q
  | .lcScrap => .lcScrap q
  | .debugChallenge => .debugChallenge q
  | .debugReopen s => .debugReopen q s
  | .fwStatus => .fwStatus q
  | .fwActivate => .fwActivate q
  | .fwDiscard => .fwDiscard q
  | .pairFound => .pairFound q
  | .pairJoin => .pairJoin q
  | .pairAdmit => .pairAdmit q
  | .pairResolve => .pairResolve q
  | .unpair => .unpair q
  | .pairStatus => .pairStatus q
  | .pairTimeoutSet => .pairTimeoutSet q
  | .pairSwap => .pairSwap q
  | .pairTakeOver => .pairTakeOver q

/-! ## Resets and fuses -/

/-- What Skerry holds is as before: journal and partner, Officers, banks, the event areas and their marks, rates and policy. -/
def KeepsSkerry (a b : Dev) : Prop :=
  b.store = a.store ∧ b.mg.officers = a.mg.officers ∧ b.fw.bank0 = a.fw.bank0 ∧ b.fw.bank1 = a.fw.bank1 ∧ b.fw.active = a.fw.active ∧
    b.log.circ = a.log.circ ∧ b.log.perm = a.log.perm ∧ b.log.resEnd = a.log.resEnd ∧ b.log.clearMark = a.log.clearMark ∧
    b.log.rates = a.log.rates ∧ b.hif.ideRequired = a.hif.ideRequired ∧ b.sys.share = a.sys.share

/-- Every volatile thing is gone: no item, key, engine request, instance, session or mailbox request. -/
def LosesVolatile (d : Dev) : Prop :=
  d.sched = {} ∧ d.keys = {} ∧ d.eng = {} ∧ d.rng.inst = [] ∧ d.mg.boxes = [] ∧ d.mg.sessions = [] ∧ d.mg.migration = [] ∧ d.fen = {}

/-- No blown bit of a fuse word is unblown. -/
def KeepsBits {w : Nat} (a b : BitVec w) : Prop := a &&& b = a

/-- Every fuse blown in `a` is blown in `b`, and what manufacture fixed is the same. -/
def KeepsFuses (a b : Fuses) : Prop :=
  b.part = a.part ∧ b.serial = a.serial ∧ KeepsBits a.lc0 b.lc0 ∧ KeepsBits a.lc1 b.lc1 ∧ KeepsBits a.lc2 b.lc2 ∧
    KeepsBits a.disable0 b.disable0 ∧ KeepsBits a.disable1 b.disable1 ∧ KeepsBits a.raise0 b.raise0 ∧ KeepsBits a.raise1 b.raise1 ∧
    KeepsBits a.eraseCount b.eraseCount ∧ KeepsBits a.debugReopen b.debugReopen ∧ KeepsBits a.reopenLogged b.reopenLogged ∧
    KeepsBits a.ownerRoot b.ownerRoot ∧ KeepsBits a.secVersion b.secVersion ∧ KeepsBits a.pg0 b.pg0 ∧ KeepsBits a.pg1 b.pg1 ∧
    KeepsBits a.pg2 b.pg2 ∧ KeepsBits a.pg3 b.pg3 ∧ KeepsBits a.pgRevoke b.pgRevoke ∧ (a.secretsBlown = true → b.secretsBlown = true)

end Sys2Proof.Machine
end

