-- ==== Sys2Proof/Certificates/Slice0/Obligations.lean ====
section
/-! DEFINITION. What is to be proved of the model: statements from the numbered rules of the manual. -/

open Sys2Proof Sys2Proof.Machine

/-! ## The machine as a whole -/

/-- A step takes the command at the front of the queue and answers what the command does with the rest of the queue in place (the model's
own queue, assumption 1). With nothing waiting, a step is one OCLK cycle of 20 ns of the time base (R25; that an empty queue counts time is the
model's choice, assumption 2): a device held in reset or without power counts nothing, and a secondary ahead of its primary counts at half
rate (R386). -/
def Obligations.StepTakesTheFrontCommand : Prop :=
  (∀ (c : Instr) (s : State), step { s with pending := c :: s.pending } = exec c s) ∧
  ∀ s : State, s.pending = [] →
    ((s.dev.sys.powered = false ∨ s.dev.sys.inReset = true) → step s = .next s) ∧
    (s.dev.sys.powered = true → s.dev.sys.inReset = false →
      ¬ (s.dev.pair.state = .paired ∧ s.dev.pair.role = .secondary ∧ 0 < s.dev.pair.ahead) →
      step s = .next { s with dev := { s.dev with sys := { s.dev.sys with
        time := (s.dev.sys.time + 20) % 2 ^ 63, uptime := s.dev.sys.uptime + 20 } } }) ∧
    (s.dev.sys.powered = true → s.dev.sys.inReset = false →
      s.dev.pair.state = .paired → s.dev.pair.role = .secondary → 0 < s.dev.pair.ahead →
      step s = .next { s with dev := { s.dev with
        sys := { s.dev.sys with time := (s.dev.sys.time + 10) % 2 ^ 63, uptime := s.dev.sys.uptime + 20 }
        pair := { s.dev.pair with ahead := s.dev.pair.ahead - 10 } } })

/-- No command changes what still waits: a step takes one command and leaves the others in their order. -/
def Obligations.CommandsLeaveTheQueue : Prop :=
  ∀ (c : Instr) (s t : State), exec c s = .next t → t.pending = s.pending

/-- Invariant: a blown fuse stays blown and what manufacture fixed stays, whatever command runs or time passes (R363, R424). -/
def Obligations.FusesStayBlown : Prop :=
  ∀ (f : Fuses) (s t : State), KeepsFuses f s.fuse → step s = .next t → KeepsFuses f t.fuse

/-- What reset leaves (R40, R101, R114, R346, R379, R426): not READY, stage 0, cause `RESET_n`, no fault, no slice in use, no KSK, Goose
armed, the device in no pair, no request or item anywhere, blank fuses, and nothing waiting. -/
def Obligations.ResetState : Prop :=
  State.reset.pending = [] ∧ State.reset.dev.sys.ready = false ∧ State.reset.dev.sys.stage = 0 ∧ State.reset.dev.sys.cause = 1 ∧
    State.reset.dev.sys.faultStatus = 0 ∧ State.reset.dev.sys.ksk = false ∧ State.reset.dev.sys.share = .blank ∧
    devStatus State.reset.dev = 0 ∧ State.reset.dev.hif.err = 0 ∧ State.reset.dev.slices = [] ∧ State.reset.dev.goose.armed = true ∧
    State.reset.dev.pair.state = .unpaired ∧ State.reset.dev.pair.lanes = 0 ∧ State.reset.dev.store.seq = 0 ∧
    State.reset.dev.fw.staging = .none ∧ LosesVolatile State.reset.dev ∧ KeepsFuses State.reset.fuse {}

/-- A command that is no reset and changes `DEV_STATUS` signals MSI-X vector 8: a message leaves last, or the vector is pending while it is
masked or MSI-X is disabled (R40, R63, R379). The eight commands that begin or end a reset signal nothing (assumption 3). -/
def Obligations.StatusChangeSignalsVector8 : Prop :=
  ∀ (c : Instr) (s t : State), (match c with
      | .resetNAssert _ | .resetNRelease _ | .powerLoss | .perstNAssert | .perstNRelease _ | .hotReset _ | .linkDown _
      | .devResetStart _ => False
      | _ => True) →
    exec c s = .next t → devStatus t.dev ≠ devStatus s.dev →
    (t.dev.hif.msixEnable = true ∧ (Tab.getD t.dev.hif.msix 8 {}).masked = false ∧ t.dev.out.head? = some (.msix 8)) ∨
      ((t.dev.hif.msixEnable = false ∨ (Tab.getD t.dev.hif.msix 8 {}).masked = true) ∧ 8 ∈ t.dev.hif.pba)

/-! ## Resets and start-up -/

/-- A reset by `RESET_n`, by the loss of power or by `PERST_n` falling holds the device: Skerry and fuses stay, everything volatile goes,
the status word reads 0, and each slice in use is BOUND with its persistent record (R313, R424, R425, R461). A low pulse of `RESET_n` shorter than 20 ns never resets;
one of 20 to 100 ns resets completely or not at all, and which is free. -/
def Obligations.ResetsHoldTheDevice : Prop :=
  (∀ s : State, s.dev.pair.steps = [] →
    let held := fun (t : State) => t.pending = s.pending ∧ t.fuse = s.fuse ∧ t.dev.sys.inReset = true ∧ KeepsSkerry s.dev t.dev ∧
      LosesVolatile t.dev ∧ devStatus t.dev = 0 ∧ t.dev.sys.ksk = false ∧ t.dev.fw.staging = .none ∧ t.dev.out = s.dev.out ∧
      ∀ n, (sliceOf t.dev n).state = (if (sliceOf s.dev n).state = .free then .free else .bound) ∧
        ((sliceOf s.dev n).state ≠ .free → { (sliceOf t.dev n).per with slots := [] } = { (sliceOf s.dev n).per with slots := [] })
    (∀ ns, s.dev.sys.powered = true → s.dev.sys.resetLow = false → 100 ≤ ns → ∃ t, exec (.resetNAssert ns) s = .next t ∧ held t ∧
      t.dev.sys.resetLow = true ∧ t.dev.sys.powered = true ∧ t.dev.fw.response = none) ∧
    (s.dev.sys.powered = true → ∃ t, exec .powerLoss s = .next t ∧ held t ∧ t.dev.sys.powered = false ∧ t.dev.fw.response = none) ∧
    (alive s.dev = true → s.dev.sys.perstHigh = true → straitKeyed s.dev = false → ∃ t, exec .perstNAssert s = .next t ∧ held t ∧
      t.dev.sys.perstHigh = false ∧ t.dev.sys.resetLow = s.dev.sys.resetLow ∧ t.dev.fw.response = s.dev.fw.response)) ∧
  (∀ (s : State) (ns : Nat), s.dev.sys.powered = true → s.dev.sys.resetLow = false → s.dev.pair.steps = [] →
    (ns < 20 → exec (.resetNAssert ns) s = .next s) ∧
    (20 ≤ ns → ns < 100 → ∃ t, exec (.resetNAssert ns) s = .next t ∧ t.dev.sys.pulses = s.dev.sys.pulses + 1 ∧
      ((Config.shortPulse s.dev.sys.pulses = true ∧ t.dev.sys.inReset = true ∧ t.dev.sys.resetLow = true ∧ KeepsSkerry s.dev t.dev ∧
          LosesVolatile t.dev) ∨
        (Config.shortPulse s.dev.sys.pulses = false ∧
          t = { s with dev := { s.dev with sys := { s.dev.sys with pulses := s.dev.sys.pulses + 1 } } }))))

/-- The release of a reset starts the device: straps and fuses are sensed, the cause is recorded, Goose is armed, nothing is READY, no key
exists before the external lines are checked, and a life cycle that senses as invalid halts the start with cause 2 (R347, R351, R362, R365,
R377, R426, R427, R459). -/
def Obligations.ReleasesStartTheDevice : Prop :=
  ∀ (s : State) (p : Pins), p.katFails = 0 → s.dev.sys.ready = false → s.dev.sys.stage = 0 →
    let started := fun (cause : Nat) (t : State) => t.pending = s.pending ∧ t.dev.sys.powered = true ∧ t.dev.sys.inReset = false ∧
      t.dev.sys.resetLow = false ∧ t.dev.sys.pairEn = p.pairEn ∧ t.dev.sys.preferPrimary = p.preferPrimary ∧
      t.dev.sys.lc = sensedLc s.fuse ∧ t.dev.sys.pg40 = (s.fuse.part == .pg40) ∧ t.dev.sys.serial = s.fuse.serial.toNat ∧
      t.dev.sys.cause = BitVec.ofNat 6 (2 ^ cause) ∧ t.dev.sys.pufReads = 1 ∧ t.dev.sys.pufOk = (p.pufOk && !s.fuse.secretsBlown) ∧
      t.dev.goose = { armed := true } ∧ t.dev.sys.ready = false ∧ t.dev.rng.kat = true ∧
      t.dev.pair = { state := if groupId s.fuse = 0 then .unpaired else .seeking } ∧
      (sensedLc s.fuse = 2 → t.dev.sys.stage = 6 ∧ t.dev.sys.haltCause = 2 ∧ t.fuse = s.fuse) ∧
      (sensedLc s.fuse ≠ 2 → t.dev.sys.ksk = false ∧ t.dev.sys.stage = s.dev.sys.stage)
    (s.dev.sys.resetLow = true → s.dev.sys.ksk = false → ∃ t, exec (.resetNRelease p) s = .next t ∧ started 0 t) ∧
    (s.dev.sys.inReset = true → s.dev.sys.resetLow = false → s.dev.sys.powered = true → s.dev.sys.ksk = false →
      ∃ t, exec (.perstNRelease p) s = .next t ∧ started 1 t ∧ t.dev.sys.perstHigh = true)

/-- A hot reset, a link-down and the reset that `DEV_RESET` and `LC_CLOSE` schedule reset the device and start it again, since `PERST_n`
is high: what Skerry holds stays, everything volatile goes, and the cause names the source (R34, R285, R367, R424, R426). -/
def Obligations.HostResetsRestartTheDevice : Prop :=
  ∀ (s : State) (p : Pins), p.katFails = 0 → s.dev.pair.steps = [] → alive s.dev = true → s.dev.sys.perstHigh = true →
    straitKeyed s.dev = false → s.dev.sys.share ≠ .erased → sensedLc s.fuse ≠ 2 →
    let again := fun (cause : Nat) (t : State) => t.pending = s.pending ∧ t.dev.sys.inReset = false ∧ t.dev.sys.ready = false ∧
      t.dev.sys.cause = BitVec.ofNat 6 (2 ^ cause) ∧ t.dev.sys.scheduled = none ∧ t.dev.sched = {} ∧ t.dev.keys = {} ∧ t.dev.eng = {} ∧
      t.dev.fen = {} ∧ t.dev.mg.sessions = [] ∧ t.dev.mg.boxes = [] ∧ t.dev.rng.inst = [] ∧ t.dev.store = s.dev.store ∧
      t.dev.mg.officers = s.dev.mg.officers ∧ t.dev.fw.bank0 = s.dev.fw.bank0 ∧ t.dev.fw.bank1 = s.dev.fw.bank1 ∧
      t.dev.fw.active = s.dev.fw.active ∧ t.dev.fw.response = s.dev.fw.response ∧ t.dev.fw.staging = .none ∧
      t.dev.log.circ = s.dev.log.circ ∧ t.dev.log.perm = s.dev.log.perm ∧ t.dev.hif.ideRequired = s.dev.hif.ideRequired
    (∃ t, exec (.hotReset p) s = .next t ∧ again 2 t) ∧
    (∃ t, exec (.linkDown p) s = .next t ∧ again 3 t) ∧
    (s.dev.sys.scheduled = some .devReset → ∃ t, exec (.devResetStart p) s = .next t ∧ again 4 t) ∧
    (s.dev.sys.scheduled = some .lcClose → ∃ t, exec (.devResetStart p) s = .next t ∧ again 5 t)
/-! ## The host interface -/

/-- Until the device is ready, halts or enters recovery, every configuration request is answered with Configuration Request Retry Status
and changes nothing; after that a request takes effect on the capability it addresses. Features the device does not have answer Unsupported
Request. A retrain of the link changes the negotiated speed and width alone (R31 to R35, R64, R65, R425). -/
def Obligations.ConfigurationRequests : Prop :=
  ∀ s : State, alive s.dev = true → s.dev.sys.perstHigh = true →
    (∀ op, s.dev.sys.stage < 4 → Does (.configurationRequest op) s (emit (.configAnswer true) s.dev)) ∧
    (4 ≤ s.dev.sys.stage →
      Does (.configurationRequest .read) s (emit (.configAnswer false) s.dev) ∧
      Does (.configurationRequest .otherWrite) s (emit (.configAnswer false) s.dev) ∧
      (∀ on, Does (.configurationRequest (.relaxedOrdering on)) s
        (emit (.configAnswer false) { s.dev with hif := { s.dev.hif with relaxedOrdering := on } })) ∧
      (∀ en tc, Does (.configurationRequest (.virtualChannel en tc)) s
        (emit (.configAnswer false) { s.dev with hif := { s.dev.hif with vc1Enable := en, tc7Alone := tc } })) ∧
      (∀ v, Does (.configurationRequest (.completionTimeout v)) s
        (emit (.configAnswer false) { s.dev with hif := { s.dev.hif with cplTimeout := v } })) ∧
      Does (.configurationRequest (.msixEnable false)) s
        (emit (.configAnswer false) { s.dev with hif := { s.dev.hif with msixEnable := false } }) ∧
      (∃ t, exec (.configurationRequest (.msixEnable true)) s = .next t ∧ t.dev.hif.msixEnable = true ∧
        t.dev.out.head? = some (.configAnswer false) ∧ ∀ v ∈ t.dev.hif.pba, (Tab.getD s.dev.hif.msix v {}).masked = true)) ∧
    (∀ k, Does (.unsupportedRequest k) s
      (emit (.barAnswer .unsupportedRequest 0) { s.dev with hif := { s.dev.hif with aerUnsupported := true } })) ∧
    (∀ speed width, speed ∈ [64, 32, 16, 8, 5, 2] → width ∈ [16, 8, 4, 2, 1] →
      exec (.linkRetrain speed width) s =
        .next { s with dev := { s.dev with sys := { s.dev.sys with linkSpeed := speed, linkWidth := width } } })

/-- A BAR access that breaks a rule of R36 changes nothing but the error registers: `BAD_ACCESS` is set, and the answer is Unsupported
Request, Completer Abort or none, the PASID rules before size and alignment. An access that breaks none is read as the register stands. -/
def Obligations.RejectedAccesses : Prop :=
  ∀ (s : State) (a : BarAccess), barsOpen s.dev = true → s.dev.hif.ideRequired = false → barExists a = true →
    let turned := fun (r : BarAnswer) => ∃ d, Does (.barAccessRejected a) s d ∧ d.hif.err.getLsbD 0 = true ∧
      d.out.head? = some (.barAnswer r 0) ∧ d.slices = s.dev.slices ∧ d.sys = s.dev.sys ∧ d.mg = s.dev.mg ∧ d.sched = s.dev.sched
    (a.bar ≠ 2 → a.pasid ≠ none → a.write = false → turned .unsupportedRequest) ∧
    (a.bar ≠ 2 → a.pasid ≠ none → a.write = true → turned .discarded) ∧
    (a.bar ≠ 2 → a.pasid = none → accessSizeOk a = false → a.write = false → turned .completerAbort) ∧
    (a.bar ≠ 2 → a.pasid = none → accessSizeOk a = false → a.write = true → turned .discarded) ∧
    (a.bar = 2 → a.write = false →
      ((sliceOf s.dev (a.off / 0x1000)).state = .free ∨ a.pasid ≠ some (sliceOf s.dev (a.off / 0x1000)).per.pasid) →
      turned .unsupportedRequest) ∧
    (a.bar = 2 → a.write = false → (sliceOf s.dev (a.off / 0x1000)).state ≠ .free →
      a.pasid = some (sliceOf s.dev (a.off / 0x1000)).per.pasid → sizeOk a = false → turned .completerAbort) ∧
    (a.bar ≠ 2 → a.pasid = none → accessSizeOk a = true → a.write = false →
      Does (.barAccessRejected a) s (emit (.barAnswer .accepted (barRead s.cx a)) s.dev))

/-- A register write acts on the register it addresses (R10, R35, R41, R44, R259, R346): ones clear the bits of `HIF_ERR_STATUS`,
`FAULT_STATUS` and a slice's sticky bits, zeros leave them; a request window takes the bytes unless its mailbox is BUSY; an MSI-X entry
takes its fields; and a write to a reserved offset changes nothing. A write to an interrupt message store entry stores its fields; in mode 1 a
vector below 16 sets `BAD_VECTOR`; and an entry left unmasked sends the message it owes (R61 to R63). -/
def Obligations.RegisterWrites : Prop :=
  (∀ (s : State) (v : Nat), barsOpen s.dev = true → s.dev.hif.ideRequired = false →
    exec (.registerWrite { bar := 0, off := 0x20, size := 4, value := v }) s =
      .next { s with dev := { s.dev with hif := { s.dev.hif with err := s.dev.hif.err &&& ~~~(BitVec.ofNat 32 (v % 32)) } } } ∧
    Does (.registerWrite { bar := 0, off := 0x400, size := 4, value := v }) s
      { s.dev with sys := { s.dev.sys with faultStatus := s.dev.sys.faultStatus &&& ~~~(BitVec.ofNat 32 (v % 32)) } } ∧
    (∀ n, n < 4096 → (sliceOf s.dev n).state ≠ .free →
      exec (.registerWrite { bar := 2, off := 0x1000 * n + 0x40, size := 8, value := v, pasid := some (sliceOf s.dev n).per.pasid }) s =
        .next { s with dev := modSlice n (fun x => { x with
          spoof := x.spoof && !bitAt v 4, dbErr := x.dbErr && !bitAt v 5, dmaErr := x.dmaErr && !bitAt v 6 }) s.dev }) ∧
    (∀ m x, m < 8 → x < 0x800 → x % 8 = 0 →
      exec (.registerWrite { bar := 0, off := 0x1000 + 0x1000 * m + x, size := 8, value := v }) s =
        .next { s with dev := modBox m (fun b =>
          if b.state = .busy then b else { b with window := Mem.writeAll b.window x (leBytes 8 v), ide := false }) s.dev }) ∧
    (∀ n, n < 2048 → s.dev.hif.pba = [] →
      exec (.registerWrite { bar := 4, off := 16 * n, size := 8, value := v }) s =
        .next { s with dev := { s.dev with hif := { s.dev.hif with
          msix := Tab.put s.dev.hif.msix n { Tab.getD s.dev.hif.msix n {} with
            addr := v % 2 ^ 64, data := (Tab.getD s.dev.hif.msix n {}).data % 2 ^ 32 } } } }) ∧
    exec (.registerWrite { bar := 0, off := 0xA0000, size := 8, value := v }) s = .next s) ∧
  (∀ (s : State) (n v : Nat), barsOpen s.dev = true → s.dev.hif.ideRequired = false → n < 4096 →
    let e := (sliceOf s.dev n).irq
    let w := fun (o : Nat) => ({ bar := 0, off := 0x80000 + 16 * n + o, size := 4, value := v } : BarAccess)
    (e.pending = false → e.data < 2 ^ 32 → e.addr < 2 ^ 64 → e.vector < 2048 → (e.msixMode = true → 16 ≤ e.vector) →
      exec (.interruptMessageStoreWrite (w 8)) s =
        .next { s with dev := modSlice n (fun x => { x with irq := { e with data := v % 2 ^ 32 } }) s.dev } ∧
      ((bitAt v 2 = true → 16 ≤ bits v 26 16) → exec (.interruptMessageStoreWrite (w 12)) s =
        .next { s with dev := modSlice n (fun x => { x with irq := { e with
          masked := bitAt v 0, msixMode := bitAt v 2, vector := bits v 26 16 } }) s.dev }) ∧
      (bitAt v 2 = true → bits v 26 16 < 16 → Does (.interruptMessageStoreWrite (w 12)) s
        (hifError 4 n (w 12).off (modSlice n (fun x => { x with irq := { e with
          masked := bitAt v 0, msixMode := true, vector := bits v 26 16 } }) s.dev)))) ∧
    (e.pending = true → e.msixMode = false → e.data < 2 ^ 32 → e.addr < 2 ^ 64 → e.vector < 2048 → bitAt v 0 = false → bitAt v 2 = false →
      exec (.interruptMessageStoreWrite (w 12)) s =
        .next { s with dev := emit (.message e.addr e.data) (modSlice n (fun x => { x with irq := { e with
          masked := false, pending := false, vector := bits v 26 16 } }) s.dev) }))

/-- A doorbell write that passes the checks of R46 moves its index, and nothing else but the counters; a write on VC1, to a FREE slice, from
another PASID, of another size, to a ring that does not serve or with an index R47 rejects has the effect of the first check it fails. -/
def Obligations.Doorbells : Prop :=
  ∀ (s : State) (n ring v : Nat), barsOpen s.dev = true → s.dev.hif.ideRequired = false → n < 4096 → ring < 8 →
    let sl := sliceOf s.dev n
    let r := ringOf sl ring
    let size := ringSize sl ring
    let sq : BarAccess := { bar := 2, off := 0x1000 * n + 4 * ring, size := 4, value := v, pasid := some sl.per.pasid }
    let cq : BarAccess := { sq with off := 0x1000 * n + 0x20 + 4 * ring }
    let open_ := (sl.state = .active ∨ sl.state = .quiesced ∨ sl.state = .frozen) ∧ r.enabled = true ∧ r.halted = false
    (open_ → v < 65536 → v < size → (r.tail + size - r.head) % size ≤ (v + size - r.head) % size →
      Does (.sqTailWrite sq) s (count 0x6000 1 (some n) none false none (modRing n ring (fun x => { x with tail := v }) s.dev))) ∧
    (open_ → v < 65536 → v < size → (v + size - r.cHead) % size ≤ (r.write + size - r.cHead) % size →
      Does (.cqHeadWrite cq) s (count 0x6000 1 (some n) none false none (modRing n ring (fun x => { x with cHead := v }) s.dev))) ∧
    Does (.sqTailWrite { sq with vc1 := true }) s (hifError 3 n sq.off s.dev) ∧
    (sl.state = .free → Does (.sqTailWrite sq) s s.dev) ∧
    (∀ p, sl.state ≠ .free → p ≠ some sl.per.pasid →
      Does (.sqTailWrite { sq with pasid := p }) s (spoofEvent 0x9002 n (p.getD 0xFFFFFFFF) ring s.dev)) ∧
    (sl.state ≠ .free → ¬ open_ → Does (.sqTailWrite sq) s (dbError n s.dev)) ∧
    (open_ → v < 65536 → (size ≤ v ∨ (v + size - r.head) % size < (r.tail + size - r.head) % size) →
      Does (.sqTailWrite sq) s (dbError n s.dev)) ∧
    (open_ → v < 65536 → (size ≤ v ∨ (r.write + size - r.cHead) % size < (v + size - r.cHead) % size) →
      Does (.cqHeadWrite cq) s (dbError n s.dev))
/-- The host interface fetches from the ring pair the round-robin comes to, which meets every condition of R49, and then the pair counts
one descriptor more in flight; with no pair that may be fetched, nothing is issued (R49, R59). -/
def Obligations.DescriptorFetches : Prop :=
  ∀ s : State, serving s.dev = true → readAllowed s.dev = true →
    (∀ n ring, nextFetch s.dev = some (n, ring) →
      let sl := sliceOf s.dev n
      let r := ringOf sl ring
      let i := (r.head + r.fetches.length) % ringSize sl ring
      sl.state = .active ∧ sl.intake = true ∧ intakeHeld s.dev = false ∧ r.enabled = true ∧ r.halted = false ∧ i ≠ r.tail ∧
        owed (ringSize sl ring) r < ringSize sl ring - 1 ∧ inflight sl < sl.per.inflight ∧
        (let d := modSlice n (fun x => { x with rrRing := ring })
           (modRing n ring (fun x => { x with fetches := x.fetches ++ [i], inflight := x.inflight + 1 }) s.dev)
         let d' := { d with hif := { d.hif with rrSlice := n } }
         exec .descriptorFetch s =
           .next { s with dev := emit (.fetch n ring i sl.per.pasid ((ringCfg sl ring).sqBase + 128 * i)) d' })) ∧
    (nextFetch s.dev = none → exec .descriptorFetch s = .next s)

/-- A fetched descriptor is checked in the order of R53 and then reaches Sheepdog: another slice's number is a spoof drop without a
record, a bad format and an unlicensed urgent priority complete directly, and a descriptor that passes becomes the next item of its flow,
under a flow sequence one above the last (R53, R60, R71, R72, R73). -/
def Obligations.ArrivalsAreChecked : Prop :=
  ∀ (s : State) (n ring i : Nat) (rest : List Nat) (raw : List Byte), n < 4096 → ring < 8 → devFault s.dev = false →
    (ringOf (sliceOf s.dev n) ring).fetches = i :: rest →
    let desc := fit raw 128
    let sl := sliceOf s.dev n
    let size := ringSize sl ring
    let d1 := modRing n ring (fun r => { r with fetches := rest, head := (i + 1) % size }) s.dev
    let direct := fun (st : Status) (d : Dev) => checkDrained n (complete n ring (dTag desc) st (dOpcode desc) 0xFFFFFFFF 0 0 [] (dIrq desc) d)
    (dSlice desc % 4096 ≠ n → Does (.descriptorArrival n ring raw) s
      (checkDrained n (haltRecord n ring (spoofEvent 0x9001 n sl.per.pasid (ring + i * 65536)
        (modRing n ring (fun r => { r with inflight := r.inflight - 1 }) d1))))) ∧
    (dSlice desc % 4096 = n → (dSlice desc / 4096 ≠ 0 ∨ dFlags desc / 256 ≠ 0 ∨ dFlowType desc = 3) →
      Does (.descriptorArrival n ring raw) s (direct .format d1)) ∧
    (dSlice desc = n → dFlags desc / 256 = 0 → dFlowType desc ≠ 3 →
      (dPriority desc = 7 → sl.per.urgentOk = false → Does (.descriptorArrival n ring raw) s (direct .policy d1)) ∧
      ((dPriority desc ≠ 7 ∨ sl.per.urgentOk = true) →
        let d2 := count 0x1000 1 (some n) none false none d1
        let kind := flowType { slice := n, ring, desc }
        (∀ f, Tab.find s.dev.sched.flows (flowKey n (dFlow desc)) = some f →
          (f.kind ≠ kind → Does (.descriptorArrival n ring raw) s (direct .format d2)) ∧
          (f.kind = kind → s.dev.goose.lock = false → ∃ t, exec (.descriptorArrival n ring raw) s = .next t ∧
            itemOf t.dev s.dev.sched.nextItem = some { slice := n, ring, desc, seq := some f.nextSeq } ∧
            t.dev.sched.nextItem = s.dev.sched.nextItem + 1 ∧
            Tab.find t.dev.sched.flows (flowKey n (dFlow desc)) = some { f with nextSeq := (f.nextSeq + 1) % 2 ^ 32 } ∧
            t.fuse = s.fuse ∧ t.dev.keys = s.dev.keys ∧ t.dev.mg = s.dev.mg)) ∧
        (Tab.find s.dev.sched.flows (flowKey n (dFlow desc)) = none →
          (sl.per.flowQuota ≤ flowsOf s.dev n → Does (.descriptorArrival n ring raw) s (direct .flowLimit d2)) ∧
          (flowsOf s.dev n < sl.per.flowQuota → s.dev.goose.lock = false → ∃ t, exec (.descriptorArrival n ring raw) s = .next t ∧
            itemOf t.dev s.dev.sched.nextItem = some { slice := n, ring, desc, seq := some 0 } ∧
            Tab.find t.dev.sched.flows (flowKey n (dFlow desc)) = some { kind := kind, nextSeq := 1 }))))

/-- A device-issued read that fails sets `DMA_ERR` and `DMA_FAULT`, reports its AER error and writes record `0x9010`: an item that reads
completes with `ST_DMA_FAULT`, and a ring whose descriptor fetch fails halts. A failed IDE check makes its stream insecure, sets `IDE_FAIL`,
writes record `0x9011`, and fails the stream's outstanding reads (R65, R66, R67). -/
def Obligations.FailedReads : Prop :=
  ∀ s : State, serving s.dev = true →
    let reads := fun (i : Instr) (r : ReadFor) (f : ReadFail) (addr : Nat) =>
      let note := fun (n ring what : Nat) (d : Dev) => raise 0x9010 n addr (ring + what * 256 + f.code * 65536)
        (hifError 1 n addr (modSlice n (fun x => { x with dmaErr := true }) d))
      match r with
      | .input c t => ∀ id i', runningOn s.dev c t = some (id, i') → i'.res = none → i'.wait = .none → i'.abort = false →
          threadExists s.dev c t = true → Does i s (setRes id { status := .dmaFault } (note i'.slice i'.ring 1 (aerRead f s.dev)))
      | .keyBlock c t => ∀ id i', runningOn s.dev c t = some (id, i') → i'.res = none → i'.wait = .none → i'.abort = false →
          threadExists s.dev c t = true → Does i s (setRes id { status := .dmaFault } (note i'.slice i'.ring 2 (aerRead f s.dev)))
      | .descriptor n ring => n < 4096 → ring < 8 → (ringOf (sliceOf s.dev n) ring).fetches ≠ [] →
          Does i s (checkDrained n (haltRecord n ring (note n ring 3 (modRing n ring (fun x => { x with
            halted := true, haltOwed := true, fetches := x.fetches.tail, inflight := x.inflight - 1 }) (aerRead f s.dev)))))
    (∀ r f addr, reads (.dmaReadFault r f addr) r f addr) ∧
    (∀ r addr, reads (.pcieCompletionTimeout r addr) r .timeout addr) ∧
    (∀ stream rs, stream < 9 → rs.all (readUnit s.dev) = true → barsOpen s.dev = true →
      (Tab.getD s.dev.hif.ide stream {}).keyed = true → (Tab.getD s.dev.hif.ide stream {}).insecure = false →
      Does (.ideCheckFail stream rs) s (rs.foldl (fun d r => readFailed r .ide 0 d)
        (raise 0x9011 0xFFFF stream 0 (hifError 2 0 0 { s.dev with hif := { s.dev.hif with
          aerIde := true, ide := Tab.put s.dev.hif.ide stream { keyed := true, insecure := true } } }))))

/-- Over DOE the device answers as SPDM 1.3 responder: discovery, version 1.3, capabilities and algorithms in that order, then digests and
certificates of the chains it holds, challenges and measurements; an object over 4,096 bytes is discarded with an error (R68, R69). -/
def Obligations.SpdmNegotiation : Prop :=
  ∀ (s : State) (r : DoeReq), barsOpen s.dev = true →
    (4096 < r.len → Does (.getVersion r) s (emit (.doe 0x84 2 []) s.dev)) ∧
    (r.len ≤ 4096 →
      Does (.doeDiscovery r) s (emit (.doe 0 0 [0, 1, 2]) s.dev) ∧
      Does (.getVersion r) s (emit (.doe 0x84 0 [0x00, 0x13]) { s.dev with hif := { s.dev.hif with spdmPhase := 1 } }) ∧
      (1 ≤ s.dev.hif.spdmPhase →
        Does (.getCapabilities r) s (emit (.doe 0xE1 0 []) { s.dev with hif := { s.dev.hif with spdmPhase := 2 } })) ∧
      (2 ≤ s.dev.hif.spdmPhase →
        Does (.negotiateAlgorithms r) s (emit (.doe 0xE3 0 []) { s.dev with hif := { s.dev.hif with spdmPhase := 3 } })) ∧
      (s.dev.hif.spdmPhase < 2 → Does (.negotiateAlgorithms r) s (emit (.doe 0xE3 1 []) s.dev)) ∧
      (3 ≤ s.dev.hif.spdmPhase →
        (s.dev.sys.lc = 0 → Does (.getDigests r) s (emit (.doe 0x81 0 (sha384 (slotChain 0))) s.dev)) ∧
        (s.dev.sys.lc = 1 → Does (.getDigests r) s
          (emit (.doe 0x81 0 (sha384 (slotChain 0) ++ sha384 (slotChain 1))) s.dev)) ∧
        (s.dev.sys.lc = 2 → Does (.getDigests r) s (emit (.doe 0x81 1 []) s.dev)) ∧
        ((r.a = 0 ∧ s.dev.sys.lc ≠ 2) ∨ (r.a = 1 ∧ s.dev.sys.lc = 1) →
          Does (.getCertificate r) s (emit (.doe 0x82 0 (slotChain r.a)) s.dev) ∧
          Does (.challenge r) s (emit (.doe 0x83 0
            (sha384 (slotChain r.a) ++ beBytes 96 (Config.deviceSign r.a (leBytes 8 s.dev.sys.serial)))) s.dev)) ∧
        (1 ≤ r.a → r.a ≤ 7 →
          (r.b = 0 → Does (.getMeasurements r) s (emit (.doe 0xE0 0 (measurement s.cx r.a)) s.dev)) ∧
          (r.b ≠ 0 → s.dev.sys.lc ≠ 2 → Does (.getMeasurements r) s (emit (.doe 0xE0 0
            (measurement s.cx r.a ++ beBytes 96 (Config.deviceSign 0 (measurement s.cx r.a)))) s.dev))) ∧
        (r.a = 0xFF → r.b = 0 → Does (.getMeasurements r) s (emit (.doe 0xE0 0
          ([1, 2, 3, 4, 5, 6, 7].flatMap (measurement s.cx))) s.dev))))

/-- At most four SPDM sessions exist: a key exchange opens one, a fifth is answered with an error, `FINISH` makes it secured, and inside a
secured session heartbeats are answered, keys are updated, IDE streams are keyed or stopped, and the session ends (R67, R68). -/
def Obligations.SpdmSessions : Prop :=
  ∀ (s : State) (r : DoeReq), barsOpen s.dev = true → r.len ≤ 4096 →
    let h := s.dev.hif
    (3 ≤ h.spdmPhase → r.ok = true → certSlot s.dev r.a = true →
      (h.spdm.length < 4 → Does (.keyExchange r) s
        (emit (.doe 0xE4 0 (leBytes 4 h.spdmNext ++ beBytes 96 (Config.ephemeral 0 h.spdmNext)))
          { s.dev with hif := { h with spdm := Tab.put h.spdm h.spdmNext {}, spdmNext := h.spdmNext + 1 } })) ∧
      (4 ≤ h.spdm.length → Does (.keyExchange r) s (emit (.doe 0xE4 1 []) s.dev))) ∧
    (∀ k x, r.session = some k → Tab.find h.spdm k = some x →
      (x.finished = false → r.ok = true → Does (.finish r) s
        (emit (.doe 0xE5 0 []) { s.dev with hif := { h with spdm := Tab.put h.spdm k { x with finished := true } } })) ∧
      (x.finished = false → r.ok = false → Does (.finish r) s
        (emit (.doe 0xE5 1 []) { s.dev with hif := { h with spdm := Tab.del h.spdm k } })) ∧
      (x.finished = true → r.ok = true →
        Does (.heartbeatSpdm r) s (emit (.doe 0xE8 0 []) s.dev) ∧
        Does (.keyUpdate r) s
          (emit (.doe 0xE9 0 []) { s.dev with hif := { h with spdm := Tab.put h.spdm k { x with updates := x.updates + 1 } } }) ∧
        Does (.endSession r) s (emit (.doe 0xEC 0 []) { s.dev with hif := { h with spdm := Tab.del h.spdm k } }) ∧
        (r.b < 9 → r.a = 1 → Does (.ideKm r) s
          (emit (.doe 0xFE 0 []) { s.dev with hif := { h with ide := Tab.put h.ide r.b { keyed := true } } })) ∧
        (r.b < 9 → r.a = 2 → Does (.ideKm r) s
          (emit (.doe 0xFE 0 []) { s.dev with hif := { h with ide := Tab.del h.ide r.b } })) ∧
        (r.b < 9 → r.a = 0 → Does (.ideKm r) s (emit (.doe 0xFE 0 []) s.dev)))) ∧
    (r.session = none → Does (.heartbeatSpdm r) s (emit (.doe 0xE8 1 []) s.dev) ∧ Does (.finish r) s (emit (.doe 0xE5 1 []) s.dev))
/-- Sheepdog gives the ready item of highest priority an idle thread of an unfenced core, whose rules become the item's slice's; a Lock lets
nothing be dispatched; and an item saved at a preemption point frees its thread for the best candidate (R82, R84, R86, R352). -/
def Obligations.ItemsAreDispatched : Prop :=
  ∀ s : State, serving s.dev = true → (∀ e ∈ itemList s.dev, e.2.queued = none) →
    (s.dev.goose.lock = true → exec .itemDispatch s = .next s) ∧
    (∀ id i k, s.dev.goose.lock = false → s.dev.fw.step < 2 → resumable s.dev = [] →
      leastBy (fun e => candRank s.dev e.2) (readyHeads s.dev) = some (id, i) → chooseThread s.dev i = some k →
      itemOf s.dev id = some i →
      (∀ e ∈ readyHeads s.dev, priority e.2 ≤ priority i) ∧ coreUp s.dev (k / 4) = true ∧ (threadOf s.dev k).item = none ∧
        ∃ t i', exec .itemDispatch s = .next t ∧ (threadOf t.dev k).item = some id ∧ (threadOf t.dev k).last = some i.slice ∧
          ((threadOf s.dev k).last ≠ some i.slice → (threadOf t.dev k).active = .slice i.slice) ∧
          itemOf t.dev id = some i' ∧ i'.place = .running (k / 4) (k % 4) ∧ i'.desc = i.desc ∧ i'.seq = i.seq ∧ i'.retried = i.retried ∧
          t.fuse = s.fuse ∧ t.dev.keys = s.dev.keys ∧ t.dev.mg = s.dev.mg ∧ t.dev.store = s.dev.store) ∧
    (∀ core thread id i k, core < coreCount s.dev → thread < 4 → runningOn s.dev core thread = some (id, i) → i.preempt = true →
      i.abort = false → engineBusy s.dev id = false → freeSlot s.dev core = some k →
      let saved := modItem id (fun i => { i with place := .preempted core k, preempt := false }) (freeThread i.place s.dev)
      ∃ t, exec (.preemptSave core thread) s = .next t ∧
        (s.dev.goose.lock = true → (threadOf t.dev (4 * core + thread)).item = none ∧
          itemOf t.dev id = some { i with place := .preempted core k, preempt := false }) ∧
        (s.dev.goose.lock = false → coreUp s.dev core = true → (threadOf t.dev (4 * core + thread)).item =
          (leastBy (fun e => candRank saved e.2) (candidates saved core)).map (·.1)))

/-- An item of an unordered or atomic flow that has its result leaves the device: its completion record is written to the slot its ring
comes to, with its status, and the item is gone. An item of no known opcode ends with `ST_OPCODE`, one ordered aborted with `ST_ABORTED`.
When a drain reaches its ceiling, every item the slice still holds is ordered aborted (R50, R53, R57, R75, R93). -/
def Obligations.ItemsAreReleased : Prop :=
  ∀ s : State, devFault s.dev = false →
    (∀ core thread id i, core < coreCount s.dev → thread < 4 →
      runningOn s.dev core thread = some (id, i) → engineBusy s.dev id = false → flowType i ≠ .ordered →
      (i.abort = true ∨ i.res.isSome = true ∨ opcodeDefined (dOpcode i.desc) = false) →
      let r : Res := if i.abort then { status := .aborted } else i.res.getD { status := .opcode }
      let sl := sliceOf s.dev i.slice
      let ring := ringOf sl i.ring
      let out := if r.status = .ok then r.out else []
      ∃ t, exec (.itemFinish core thread) s = .next t ∧ itemOf t.dev id = none ∧
        .completion sl.per.pasid ((ringCfg sl i.ring).cqBase + 64 * ring.write)
          (recordBytes i.slice ring.phase ring.head (dTag i.desc) r.status.code (dOpcode i.desc) (i.seq.getD 0xFFFFFFFF) out.length
            (resultFlags i r) (if r.status = .ok ∧ dInlineOut i.desc = true then out else r.fixed)) ∈ t.dev.out) ∧
    (∀ core thread id i, core < coreCount s.dev → thread < 4 → runningOn s.dev core thread = some (id, i) → engineBusy s.dev id = false →
      i.abort = false → i.res = none → opcodeDefined (dOpcode i.desc) = true → (∀ e ∈ itemList s.dev, e.2.queued = none) →
      exec (.itemFinish core thread) s = .next s) ∧
    (∀ n, n < 4096 → (sliceOf s.dev n).drain.isSome = true → Does (.drainCeilingExpiry n) s (abortSlice n s.dev)) ∧
    (∀ n, n < 4096 → (sliceOf s.dev n).drain = none → exec (.drainCeilingExpiry n) s = .next s)

/-- A fence zeroises its unit and takes it out of use until the next reset: `FENCED` is set, the fence is reported, and what the unit held is
retried once: items of a core go back to the head of their flows, an engine's item goes on from its key lookup, keys of a bank are lost
with their kind 2 handles damaged, and a DRBG instance is uninstantiated (R89, R121, R128, R204, R210, R235, R253, R327, R345, R346). -/
def Obligations.FencesRetryOnce : Prop :=
  ∀ (s : State) (n cause : Nat),
    (n < coreCount s.dev → s.dev.fen.tc.getLsbD n = false →
      (∀ e ∈ itemList s.dev, onCore n e.2 = true → e.2.retried = false ∧ e.2.abort = false) →
      ∃ t, exec (.coreFence n cause) s = .next t ∧ t.dev.fen = { s.dev.fen with tc := s.dev.fen.tc ||| BitVec.ofNat 64 (2 ^ n) } ∧
        t.dev.sys.faultStatus = s.dev.sys.faultStatus ||| 1 ∧ t.dev.sys.lastFence = BitVec.ofNat 32 (1 + n * 256 + cause * 65536) ∧
        ∀ id i, itemOf s.dev id = some i → itemOf t.dev id = some (if onCore n i then { i with
          place := .ready, front := true, retried := true, res := none, wait := .none, preempt := false, run := none, copies := []
          queued := none } else i)) ∧
    (∀ p : Pool, n < poolSize s.dev p → poolFenced s.dev p n = false →
      (∃ k, k < poolSize s.dev p ∧ k ≠ n ∧ poolFenced s.dev p k = false) →
      let row := match p with
        | .cipher => Instr.engineFence true n cause
        | .digest => Instr.engineFence false n cause
        | .pk => Instr.pkEngineFence n cause
      let cls := match p with
        | .cipher => 2
        | .digest => 3
        | .pk => 4
      let f := match p with
        | .cipher => { s.dev.fen with ce := s.dev.fen.ce ||| BitVec.ofNat 16 (2 ^ n) }
        | .digest => { s.dev.fen with de := s.dev.fen.de ||| BitVec.ofNat 8 (2 ^ n) }
        | .pk => { s.dev.fen with pk := s.dev.fen.pk ||| BitVec.ofNat 24 (2 ^ n) }
      let d1 := fenceReport cls n cause (setEngine p n {} { s.dev with fen := f })
      ((engineOf s.dev p n).cur = none → Does row s d1) ∧
      (∀ q i, (engineOf s.dev p n).cur = some q → (engineOf s.dev p n).aborting = false → itemOf s.dev q.item = some i → i.abort = false →
        (i.retried = false → Does row s
          (modItem q.item (fun i => { i with retried := true, wait := .none, copies := [], queued := none }) d1)) ∧
        (i.retried = true → (∃ c t, i.place = .running c t) → Does row s (setRes q.item { status := .fault } d1)))) ∧
    (n < 16 → s.dev.fen.bank.getLsbD n = false →
      ∃ t, exec (.keyCacheBankFence n cause none) s = .next t ∧
        t.dev.fen = { s.dev.fen with bank := s.dev.fen.bank ||| BitVec.ofNat 16 (2 ^ n) } ∧
        t.dev.sys.lastFence = BitVec.ofNat 32 (5 + n * 256 + cause * 65536) ∧
        ∀ id e, Tab.find s.dev.keys.cache id = some e → Tab.find t.dev.keys.cache id = (if e.bank = n then
          (match e.src with
            | .eph _ => some { e with damaged := true, key := {} }
            | _ => none) else some e)) ∧
    (n < 16 → s.dev.fen.drbg.getLsbD n = false → (∃ k, k < 16 ∧ k ≠ n ∧ s.dev.fen.drbg.getLsbD k = false) →
      Does (.drbgInstanceFence n cause none) s
        (modRng (fun r => { r with inst := Tab.del r.inst n, due := r.due.filter (· != n) })
          (fenceReport 6 n cause { s.dev with fen := { s.dev.fen with drbg := s.dev.fen.drbg ||| BitVec.ofNat 16 (2 ^ n) } })))

/-- Detected errors stay where they happen: a slice in use enters ERROR with its intake closed; a fault of an unspared block stops the whole
device, which is READY no longer; Mule notes each test of a checker, and a failed test is `LATENT` and has its consequence; a scrub counts
what it corrects and fences what it cannot; and a record that fails its authentication is damaged (R103, R310, R324, R326, R329, R331,
R333, R346). -/
def Obligations.ErrorsAreContained : Prop :=
  ∀ s : State,
    (∀ n cause, n < 4096 → (cause = 1 ∨ cause = 2) →
      ((sliceOf s.dev n).state = .free ∨ (sliceOf s.dev n).state = .error → exec (.sliceError n cause) s = .next s) ∧
      ((sliceOf s.dev n).state ≠ .free → (sliceOf s.dev n).state ≠ .error → ∃ t, exec (.sliceError n cause) s = .next t ∧
        (sliceOf t.dev n).state = .error ∧ (sliceOf t.dev n).intake = false ∧ (sliceOf t.dev n).per = (sliceOf s.dev n).per)) ∧
    (∀ block, alive s.dev = true → devFault s.dev = false →
      Does (.deviceFaultStop block) s (setFault 5 (if block = 0x303 then s.dev else raise 0x5009 0xFFFF block 0 s.dev)) ∧
      ∃ t, exec (.deviceFaultStop block) s = .next t ∧ devFault t.dev = true ∧ (devStatus t.dev).getLsbD 0 = false ∧ serving t.dev = false) ∧
    (∀ k, alive s.dev = true → checkerExists s.dev k = true →
      let d := { s.dev with fen := { s.dev.fen with tested := (k, s.dev.sys.uptime) :: s.dev.fen.tested.filter (fun e => e.1 != k) } }
      (k ≠ .goose → Does (.muleCheckerTest k true) s (count 0x5002 1 none none false none d)) ∧
      (k = .goose → Does (.muleCheckerTest k true) s (modGoose (fun g => { g with
        asserted := g.asserted &&& ~~~(0x800#12), uncleared := g.uncleared &&& ~~~(0x800#12) }) (count 0x5002 1 none none false none d))) ∧
      DoesAll (.muleCheckerTest k false) s
        (checkerFails k ⟨setFault 4 (raise 0x5030 (checkerId k).2 (checkerId k).1 (checkerId k).2 d), s.fuse⟩)) ∧
    (alive s.dev = true → Does .muleProgress s { s.dev with fen := { s.dev.fen with muleProgress := s.dev.sys.uptime } }) ∧
    (s.dev.sys.cpUp = true → devFault s.dev = false → Does .muleProgressTimeout s (setFault 5 (raise 0x5009 0xFFFF 0x302 0 s.dev))) ∧
    (∀ a word, alive s.dev = true → arrExists s.dev a = true →
      exec (.scrubPass a .clean word) s = .next s ∧
      Does (.scrubPass a .corrected word) s (count 0x5000 1 none none false none (raise 0x5010 0xFFFF (arrId a) word
        (setFault 3 { s.dev with sys := { s.dev.sys with corrCount := sat 0xFFFFFFFF (s.dev.sys.corrCount + 1) } }))) ∧
      Does (.scrubPass a .uncorrectable word) s (arrayFault a 3 s.dev)) ∧
    (∀ g k, 1 ≤ g → g ≤ 9 → exec (.skerryScrub ⟨g, k⟩ true) s = .next s) ∧
    (alive s.dev = true → s.dev.sys.ksk = true → ∀ k,
      (∀ g, g = 1 ∨ g = 2 ∨ g = 3 ∨ g = 8 → Does (.skerryScrub ⟨g, k⟩ false) s (raise 0x5020 0xFFFF g k s.dev)) ∧
      ((slotOf (sliceOf s.dev (k / 64)) (k % 64)).st ≠ .empty → Does (.skerryScrub ⟨4, k⟩ false) s
        (raise 0x5020 (k / 64) 4 k (modSlot (k / 64) (k % 64) (fun x => { x with st := .damaged }) s.dev))) ∧
      ((slotOf (sliceOf s.dev (k / 64)) (k % 64)).st = .empty → exec (.skerryScrub ⟨4, k⟩ false) s = .next s) ∧
      Does (.skerryScrub ⟨5, k⟩ false) s (raise 0x5020 (k / 4) 5 k (modSlice (k / 4) (fun x => { x with per := { x.per with
        lmk := x.per.lmk.modify (k % 4) (fun l => { l with damaged := true }) } }) s.dev)) ∧
      Does (.skerryScrub ⟨6, k⟩ false) s (raise 0x5020 0xFFFF 6 k { s.dev with log := { s.dev.log with
        perm := s.dev.log.perm.map (fun (j, e) => (j, if j = k then { e with damaged := true } else e)) } }) ∧
      exec (.skerryScrub ⟨7, k⟩ false) s = .next { s with dev := { s.dev with log := { s.dev.log with
        circ := s.dev.log.circ.map (fun (j, e) => (j, if j = k then { e with damaged := true } else e)) } } } ∧
      (4096 ≤ k → Does (.skerryScrub ⟨9, k⟩ false) s (raise 0x5020 0xFFFF 9 k s.dev)) ∧
      (k < 4096 → Does (.skerryScrub ⟨9, k⟩ false) s (enterError k 1 (raise 0x5020 0xFFFF 9 k s.dev))))

/-- The control processor is reset alone by a lockstep mismatch or its watchdog: sessions, nonces, migration keys, staged components and the
raw-sample run go, the items stay, and a third reset within 1 s stops the device. Once it runs again every BUSY mailbox answers
`ST_CP_RESTART` with `ABANDONED`, and a package half received is lost (R264, R330, R443). -/
def Obligations.ControlProcessorResets : Prop :=
  ∀ s : State,
    (s.dev.sys.cpUp = true → devFault s.dev = false →
      let recent := (s.dev.sys.cpResets.filter (fun t => decide (s.dev.sys.uptime < t + 1000000000))).length
      let down := fun (t : State) => t.fuse = s.fuse ∧ t.dev.sys.cpUp = false ∧ t.dev.sys.cpRestart = true ∧
        t.dev.sys.faultStatus = s.dev.sys.faultStatus ||| 2 ∧ t.dev.mg.sessions = [] ∧ t.dev.mg.migration = [] ∧ t.dev.rng.raw = none ∧
        t.dev.sched = s.dev.sched ∧ t.dev.keys = s.dev.keys ∧ t.dev.mg.officers = s.dev.mg.officers ∧ t.dev.pair.state = s.dev.pair.state ∧
        (∀ m, (mailboxOf t.dev m).qseq = 0 ∧ (mailboxOf t.dev m).nonce = none ∧
          (mailboxOf t.dev m).state = (mailboxOf s.dev m).state) ∧
        ∀ n, (sliceOf t.dev n).staged = [] ∧ (sliceOf t.dev n).per = (sliceOf s.dev n).per
      (recent < 2 → (∃ t, exec .cpLockstepMismatch s = .next t ∧ down t) ∧ ∃ t, exec .cpWatchdogExpiry s = .next t ∧ down t) ∧
      (2 ≤ recent → Does .cpLockstepMismatch s (setFault 5 (raise 0x5009 0xFFFF 0 0 s.dev)) ∧
        Does .cpWatchdogExpiry s (setFault 5 (raise 0x5009 0xFFFF 0 0 s.dev)))) ∧
    (s.dev.sys.cpUp = true → exec .cpWatchdogKick s =
      .next { s with dev := { s.dev with sys := { s.dev.sys with watchdogKick := s.dev.sys.uptime } } }) ∧
    (alive s.dev = true → s.dev.sys.cpRestart = true → s.dev.sys.cpActivation = false → s.dev.log.held = [] →
      ∃ t, exec .cpRestartComplete s = .next t ∧ t.fuse = s.fuse ∧ t.dev.sys.cpUp = true ∧ t.dev.sys.cpRestart = false ∧
        t.dev.sys.watchdogKick = s.dev.sys.uptime ∧ t.dev.sched = s.dev.sched ∧
        (∀ m, m < 8 → (mailboxOf s.dev m).state = .busy → (mailboxOf t.dev m).state = .done ∧ (mailboxOf t.dev m).abandoned = true ∧
          ∃ rest, (mailboxOf t.dev m).response = Mem.writeAll [] 0 (leBytes 2 0x0606 ++ rest)) ∧
        (s.dev.fw.staging = .receiving → t.dev.fw.staging = .none ∧ t.dev.fw.lastResult = 11 ∧ t.dev.fw.package = []) ∧
        (s.dev.fw.staging ≠ .receiving → t.dev.fw.staging = s.dev.fw.staging))

/-- A target gate that denies an access sets `GATE_VIOL` and counts it, keeps the first violation's report until it is cleared, and takes the
master out: a core or engine is fenced, the CP is reset, any other master stops the device; an allowed access changes only the counters,
and a probe by Mule changes nothing (R340, R344, R346). -/
def Obligations.TargetGates : Prop :=
  ∀ (s : State) (a : GateAccess) (tag : RuleTag) (rules : List Rule), activeSet s.dev a.master = some (tag, rules) →
    (gateKind s.dev a = none → Does (.gateViolation a) s
      (count 0x4000 1 (tagSlice tag) (some a.master) (tag == .cpWork) (some (a.target, a.addr)) s.dev)) ∧
    (∀ k, gateKind s.dev a = some k → a.master = 0x302 → a.probe = true → exec (.gateViolation a) s = .next s) ∧
    (∀ k, gateKind s.dev a = some k → (a.master ≠ 0x302 ∨ a.probe = false) → ∃ t, exec (.gateViolation a) s = .next t ∧ t.fuse = s.fuse ∧
      t.dev.sys.faultStatus.getLsbD 2 = true ∧ t.dev.sys.gateViolCount = sat 0xFFFFFFFF (s.dev.sys.gateViolCount + 1) ∧
      (s.dev.sys.faultStatus.getLsbD 2 = false → t.dev.sys.gateViolInfo = BitVec.ofNat 64 (gateInfo tag a k) ∧
        t.dev.sys.gateViolAddr = BitVec.ofNat 64 a.addr) ∧
      (s.dev.sys.faultStatus.getLsbD 2 = true → t.dev.sys.gateViolInfo = s.dev.sys.gateViolInfo ∧
        t.dev.sys.gateViolAddr = s.dev.sys.gateViolAddr) ∧
      (0x100 ≤ a.master → a.master < 0x200 → t.dev.fen.tc.getLsbD ((a.master - 0x100) / 4) = true) ∧
      (0x200 ≤ a.master → a.master < 0x210 → t.dev.fen.ce.getLsbD (a.master - 0x200) = true) ∧
      (0x210 ≤ a.master → a.master < 0x220 → t.dev.fen.de.getLsbD (a.master - 0x210) = true) ∧
      (0x220 ≤ a.master → a.master < 0x300 → t.dev.fen.pk.getLsbD (a.master - 0x220) = true) ∧
      (a.master = 0 → t.dev.sys.cpUp = false ∨ devFault t.dev = true) ∧
      (0x300 ≤ a.master → devFault t.dev = true))

/-- An engine pool serves its requests by item priority and then in order of arrival, each on the lowest idle engine that is not fenced,
under the rules of the item's slice; a request done reports its result to its item, and an aborted one leaves its engine free (R93,
R180, R205, R211, R237, R342). -/
def Obligations.EnginesServe : Prop :=
  ∀ (s : State) (p : Pool) (n : Nat),
    (∀ q, devFault s.dev = false → nextRequest s.dev p = some q → idleEngine s.dev p = some n →
      (q ∈ s.dev.eng.queue ∧ q.pool = p ∧ (∀ r ∈ s.dev.eng.queue, r.pool = p → q.prio ≤ 7 → r.prio ≤ 7 → r.arrival < 2 ^ 64 →
          q.arrival < 2 ^ 64 → r.prio ≤ q.prio ∧ (r.prio = q.prio → q.arrival ≤ r.arrival))) ∧
        (engineOf s.dev p n).cur = none ∧ poolFenced s.dev p n = false ∧
        Does (.engineRequestStart p) s (count (engEvent p) 1 (itemSlice s.dev q.item) (some (engMaster p n)) false none
          (setEngine p n { cur := some q, rules := ((itemSlice s.dev q.item).map RuleTag.slice).getD .none }
            { s.dev with eng := { s.dev.eng with queue := s.dev.eng.queue.filter (fun r => r.arrival != q.arrival) } }))) ∧
    ((nextRequest s.dev p = none ∨ idleEngine s.dev p = none) → exec (.engineRequestStart p) s = .next s) ∧
    (n < poolSize s.dev p → ∀ q i, (engineOf s.dev p n).cur = some q → itemOf s.dev q.item = some i →
      ((engineOf s.dev p n).aborting = false → devFault s.dev = false →
        let d1 := setEngine p n {} (if p = .pk then s.dev
          else count (engEvent p + 1) q.bytes (some i.slice) (some (engMaster p n)) false none s.dev)
        ((∃ c t, i.place = .running c t) → Does (.engineRequestComplete p n) s
          (deliver q.item i.slice q.res q.after (modItem q.item (fun i => { i with wait := .none }) d1))) ∧
        ((∀ c t, i.place ≠ .running c t) → Does (.engineRequestComplete p n) s
          (modItem q.item (fun i => { i with wait := .none, queued := some (q.res, q.after) }) d1))) ∧
      ((engineOf s.dev p n).aborting = true →
        let row := if p = .pk then Instr.pkAbortComplete n else .engineAbortComplete p n
        ((i.abort = false ∨ i.wait ≠ .engine) → Does row s (setEngine p n {} s.dev)) ∧
        (i.abort = true → i.wait = .engine → devFault s.dev = false → Does row s (abortNow q.item (setEngine p n {} s.dev)))))
/-! ## Key management -/

/-- Keys under a KEK: `KEY_IMPORT` unwraps an exchange block and delivers its key, `KEY_EXPORT` wraps an exportable key, `KEY_TRANSLATE`
wraps a key again under the active LMK, and `KEY_CHECK_VALUE` answers the check value; strength, usage and the ceiling of the KEK are checked
first (R112, R117, R131 to R135). -/
def Obligations.KeysMoveUnderWrap : Prop :=
  ∀ (s : State) (r : Run) (c : Ctx),
    (∀ kek text b cs k d1 d2, AtWork s r 0x0101 c → (fmtOk c 12 1 true && destOk c 2) = true → c.p 0x39 1 < 64 →
      (inLenOk c 12 20480 && (c.p 0x38 1 == 0 || outLenOk c 0)) = true → (c.p 0x38 1 = 1 → policyBit s c 0 = true) →
      KeyA c 12 allKinds (kekDemand false) (begun s c) kek d1 → blockExtent (c.input 12) (c.p 0x3C 4) = .ok text →
      text.length = c.p 0x40 4 → parseBlock text = .ok b → kek.key.attr.alg = (if b.hdr.tdesForm then .T else .A) →
      (c.p 0x38 1 = 1 → asymmetric b.hdr.attr.alg = false) → (asymmetric b.hdr.attr.alg && kek.key.attr.alg == .T) = false →
      (c.p 0x38 1 = 0 → (activeLmk (sliceOf d1 c.i.slice).per).isSome = true) →
      Reads (drawCounts c [(kek, wrapCounts b.hdr.tdesForm b.hdr.len b.data.length)]) d1 cs d2 → unwrapBlock kek.key.bytes b = .ok k →
      wrapAllowed d2 c.i.slice k kek.key = true → (c.p 0x38 1 = 1 → slotFits k = true) →
      Delivers (.keyImport r) s c (fun x a => gives x a) (c.p 0x38 1) (c.p 0x39 1) (bitAt (c.p 0x3A 1) 0) (c.p 0x3B 1) k [] [] d2) ∧
    (∀ k kek cs pad d1 d2 d3 d4, AtWork s r 0x0102 c → fmtOk c 0 2 false = true → (inLenOk c 0 20480 && !dInlineOut c.i.desc) = true →
      KeyA c 0 allKinds (fun a => if a.expo = .E then none else some .keyExport) (begun s c) k d1 →
      KeyB c 1 (dKeyB c.i.desc) 0 (kekDemand true) d1 kek d2 → wrapAllowed d2 c.i.slice k.key kek.key = true →
      Reads (drawCounts c [({ k with slot := none }, 0), (kek, exchangeCounts kek.key k.key)]) d2 cs d3 →
      Reads (random (padLen (kek.key.attr.alg == .T) k.key.bytes.length)) d3 pad d4 →
      outLenOk c (exchangeBlock kek.key k.key pad).length = true →
      TxDoes (.keyExport r) s c (gives { status := .ok, out := exchangeBlock kek.key k.key pad }) d4) ∧
    (∀ k g lmk pad d1 d2, AtWork s r 0x0108 c → (fmtOk c 12 1 false && c.p 0x38 4 == 0 && c.p 0x3C 4 == hIndex (dKeyA c.i.desc)) = true →
      (inLenOk c 12 20480 && !dInlineOut c.i.desc) = true → hKind (dKeyA c.i.desc) = 1 → hSlice (dKeyA c.i.desc) = c.i.slice →
      (∃ text, blockExtent (c.input 12) (c.p 0x3C 4) = .ok text ∧ text.length = c.p 0x40 4) →
      Reads (lookup c (dKeyA c.i.desc) (c.input 12) [1] anyKey) (begun s c) k d1 →
      activeLmk (sliceOf d1 c.i.slice).per = some (g, lmk) → Reads (random (padLen false k.key.bytes.length)) d1 pad d2 →
      outLenOk c (writeBlock false lmk (some g) k.key pad).length = true →
      TxDoes (.keyTranslate r) s c (gives { status := .ok, out := writeBlock false lmk (some g) k.key pad }) d2) ∧
    (∀ k d1, AtWork s r 0x0104 c → (fmtOk c 4 1 true && c.p 0x38 3 == 0 && decide (c.p 0x3B 1 ≤ 1)) = true →
      (inLenOk c 4 20480 && outLenOk c 0) = true →
      Reads (lookup c (dKeyA c.i.desc) (c.input 4) allKinds (needs (fun a => symmetric a.alg))) (begun s c) k d1 →
      TxDoes (.keyCheckValue r) s c (gives { status := .ok, fixed := keyResult 0 0 (kcv (c.p 0x3B 1) k.key) }) d1)

/-- Keys are made and kept: `KEY_GENERATE` and `KEY_DERIVE` make a key of a template and deliver it, `KEY_STORE` and `KEY_DELETE` change a
slot through a step, `KEY_LOAD_EPHEMERAL` and `KEY_RELEASE` make and end a kind 2 handle, and `KEY_SLOT_INFO` reports a slot without its
key (R113, R115, R127, R129, R132 to R134). -/
def Obligations.KeysAreMadeAndKept : Prop :=
  ∀ (s : State) (r : Run) (c : Ctx),
    (let dest := c.p 0x38 1
     let n := c.p 0x3C 2
     AtWork s r 0x0103 c → c.p 0x39 1 < 64 → (inLenOk c 6 20480 && (dest == 0 || outLenOk c 0)) = true →
      (dest = 1 → policyBit s c 0 = true) →
      (∀ h bytes d1 d2, (fmtOk c 6 2 true && dKeyA c.i.desc == 0 && dKeyB c.i.desc == 0 && destOk c 2) = true →
        Reads (template true (c.input 6) (c.input 6).length) (begun s c) h d1 → asymmetric h.attr.alg = false → bitsOk h.attr.alg n = true →
        (dest = 1 → slotFits { attr := h.attr, bytes := List.replicate (n / 8) 0 } = true) →
        (dest = 0 → (activeLmk (sliceOf d1 c.i.slice).per).isSome = true) → Reads (random (n / 8)) d1 bytes d2 →
        Delivers (.keyGenerate r) s c (fun x a => gives x a) dest (c.p 0x39 1) (bitAt (c.p 0x3A 1) 0) (c.p 0x3B 1) { attr := h.attr, bytes } [] [] d2) ∧
      (∀ kek h cs bytes pad d1 d2 d3 d4 d5, (fmtOk c 6 2 true && dKeyA c.i.desc == 0 && destOk c 4) = true → dest = 0 →
        bitAt (c.p 0x3A 1) 1 = true → KeyB c 0 (dKeyB c.i.desc) 6 (kekDemand true) (begun s c) kek d1 →
        Reads (template true (c.input 6) (c.input 6).length) d1 h d2 → asymmetric h.attr.alg = false → bitsOk h.attr.alg n = true →
        h.attr.expo = .E →
        (let proto : Key := { attr := h.attr, bytes := List.replicate (n / 8) 0 }
         wrapAllowed d2 c.i.slice proto kek.key = true → (activeLmk (sliceOf d2 c.i.slice).per).isSome = true →
         Reads (drawCounts c [(kek, exchangeCounts kek.key proto)]) d2 cs d3 → Reads (random (n / 8)) d3 bytes d4 →
         Reads (random (padLen (kek.key.attr.alg == .T) bytes.length)) d4 pad d5 →
         Delivers (.keyGenerate r) s c (fun x a => gives x a) 0 (c.p 0x39 1) (bitAt (c.p 0x3A 1) 0) (c.p 0x3B 1) { attr := h.attr, bytes } []
           (exchangeBlock kek.key { attr := h.attr, bytes } pad) d5))) ∧
    (let dest := c.p 0x38 1
     let ll := c.p 0x3C 2
     let cl := c.p 0x3E 2
     let n := c.p 0x40 2
     ∀ base h cs d1 d2 d3, AtWork s r 0x0107 c → (fmtOk c 10 1 true && destOk c 2 && decide (ll ≤ 64) && decide (cl ≤ 256)) = true →
      c.p 0x39 1 < 64 → (inLenOk c 10 20480 && (dest == 0 || outLenOk c 0)) = true → (dest = 1 → policyBit s c 0 = true) →
      KeyA c 10 allKinds (needs (fun a => a.mode == .X && a.alg == .A)) (begun s c) base d1 →
      Reads (template true (c.input 10) (c.input 10).length) d1 h d2 → h.len + ll + cl ≤ (c.input 10).length →
      asymmetric h.attr.alg = false → bitsOk h.attr.alg n = true →
      (dest = 1 → slotFits { attr := h.attr, bytes := List.replicate (n / 8) 0 } = true) →
      strengthOf d2 c.i.slice { attr := h.attr, bytes := List.replicate (n / 8) 0 } ≤ strengthOf d2 c.i.slice base.key →
      (dest = 0 → (activeLmk (sliceOf d2 c.i.slice).per).isSome = true) → Reads (drawCounts c [(base, kdfCounts ll cl n)]) d2 cs d3 →
      Delivers (.keyDerive r) s c (fun x a => gives x a) dest (c.p 0x39 1) (bitAt (c.p 0x3A 1) 0) (c.p 0x3B 1)
        { attr := h.attr, bytes := cmacKdf base.key.bytes (slice8 (c.input 10) h.len ll) (slice8 (c.input 10) (h.len + ll) cl) (n / 8) }
        [] [] d3) ∧
    (∀ k d1, AtWork s r 0x0105 c → (fmtOk c 4 1 true && c.p 0x38 1 == 0 && decide (c.p 0x3A 1 < 2) && decide (c.p 0x3B 1 ≤ 1)) = true →
      c.p 0x39 1 < 64 → (inLenOk c 4 20480 && outLenOk c 0) = true → policyBit s c 0 = true →
      Reads (lookup c (dKeyA c.i.desc) (c.input 4) [1, 2] (needs (fun a => !asymmetric a.alg))) (begun s c) k d1 → slotFits k.key = true →
      TxDoes (.keyStore r) s c (gives { status := .ok, fixed := keyResult 0 0 (kcv (c.p 0x3B 1) k.key) }
        (.step (.slotWrite (c.p 0x39 1) k.key (ceilingOf k.key.attr) (bitAt (c.p 0x3A 1) 0)))) d1) ∧
    (∀ k d1, AtWork s r 0x0109 c → fmtOk c 0 1 true = true → (inLenOk c 0 20480 && outLenOk c 0) = true →
      Reads (lookup c (dKeyA c.i.desc) (c.input 0) [1] anyKey) (begun s c) k d1 →
      TxDoes (.keyLoadEphemeral r) s c (gives { status := .ok, fixed := List.replicate 32 0 } (.handle k.key)) d1) ∧
    (∀ id e, AtWork s r 0x010A c → fmtOk c 0 1 false = true → (inLenOk c 0 128 && outLenOk c 0) = true → hKind (dKeyA c.i.desc) = 2 →
      hSlice (dKeyA c.i.desc) = c.i.slice → cached s.dev c.i.slice (fun x => x == .eph (hIndex (dKeyA c.i.desc))) = some (id, e) →
      TxDoes (.keyRelease r) s c (gives { status := .ok }) (dropEntry id (begun s c))) ∧
    ((fmtOk c 2 0 true && c.p 0x38 1 == 0) = true → c.p 0x39 1 < 64 → (inLenOk c 2 128 && outLenOk c 0) = true →
      (AtWork s r 0x010B c → TxDoes (.keySlotInfo r) s c
        (gives { status := .ok, fixed := slotInfo (slotOf (sliceOf s.dev c.i.slice) (c.p 0x39 1)) }) (begun s c)) ∧
      (AtWork s r 0x0106 c → policyBit s c 0 = true → TxDoes (.keyDelete r) s c
        (gives { status := .ok, fixed := List.replicate 32 0 } (.step (.slotDelete (c.p 0x39 1)))) (begun s c)))

/-- Steps take effect in their order on a device without a partner: a slot write makes the slot live at the next version with its first
reservation, a delete leaves the version alone, an exhaustion stays, and a committed reservation gives the counts to this device and wakes
the items that wait for them; the originator completes (R114, R118 to R121, R127, R134). -/
def Obligations.StepsTakeEffect : Prop :=
  ∀ (s : State) (p : Pend) (rest : List Pend), Commits s p rest →
    (∀ k, k < 64 → blocked s.dev p.step = false →
      let sl := slotOf (sliceOf s.dev p.step.slice) k
      sl.version ≠ 0xFFFFFFFF →
      (∀ key ceiling ow, p.step.kind = .slotWrite k key ceiling ow → (sl.st = .empty ∨ ow = true) → (∀ m, p.origin ≠ .mailbox m) →
        ∃ t, exec .skerryCommit s = .next t ∧ t.fuse = s.fuse ∧ t.dev.pair.steps = rest ∧
          (let up := if ceiling = 0 then 0 else min ceiling (max 1 (ceiling / 1024))
           slotOf (sliceOf t.dev p.step.slice) k = { st := .live, version := sl.version + 1, key, ceiling, resEnd := up
                                                     ranges := if up = 0 then [] else [(0, up)] }) ∧
          ∀ id i, p.origin = .item id → itemOf s.dev id = some i → ∃ i', itemOf t.dev id = some i' ∧
            i'.res = some (withVersion p.draft (sl.version + 1)) ∧ i'.wait = .none) ∧
      (p.step.kind = .slotDelete k → sl.st ≠ .empty → (∀ m, p.origin ≠ .mailbox m) →
        ∃ t, exec .skerryCommit s = .next t ∧ t.dev.pair.steps = rest ∧
          slotOf (sliceOf t.dev p.step.slice) k = { version := sl.version + 1 } ∧
          (∀ e ∈ t.dev.keys.cache, e.2.slice = p.step.slice → ∀ v, e.2.src ≠ .slot k v) ∧
          ∀ id i, p.origin = .item id → itemOf s.dev id = some i → ∃ i', itemOf t.dev id = some i' ∧
            i'.res = some (withVersion p.draft (sl.version + 1)) ∧ i'.wait = .none) ∧
      (p.step.kind = .exhaust k sl.version → sl.st = .live →
        ∃ t, exec .skerryCommit s = .next t ∧ t.dev.pair.steps = rest ∧
          slotOf (sliceOf t.dev p.step.slice) k = { sl with st := .exhausted })) ∧
    (∀ k v a b, k < 64 → p.step.slice < 4096 → p.step.kind = .reserve k v a b →
      let sl := slotOf (sliceOf s.dev p.step.slice) k
      sl.version = v → sl.void = false → sl.resEnd < sl.ceiling →
      let w := max 1 (sl.ceiling / 1024)
      let up := min sl.ceiling (sl.resEnd + w)
      (∀ q ∈ rest, ∀ n, q.phase ≠ .sequenced n) →
      ∃ t, exec (.reservationCommit p.step.slice k) s = .next t ∧ t.dev.pair.steps = rest ∧
        slotOf (sliceOf t.dev p.step.slice) k = { sl with resEnd := up, ranges := sl.ranges ++ [(sl.resEnd, up)], asked := false } ∧
        ∀ id i, itemOf s.dev id = some i → i.slice = p.step.slice → i.wait = .reservation k →
          ∃ i', itemOf t.dev id = some i' ∧ i'.wait = .none ∧ i'.unmirrored = true)
/-! ## Payment -/

/-- PIN commands recover the PIN of the incoming block and translate it, compare it with an offset, a PVV or a reference, or make one of
these where the slice may issue PINs (R138, R141 to R160, R168). -/
def Obligations.PinCommands : Prop :=
  ∀ (s : State) (r : Run) (c : Ctx) (pin : List Nat) (kb : Key) (d1 : Dev),
    let f := c.p 0x38 1
    let o := c.p 0x39 1
    let hs := [dKeyA c.i.desc, dKeyB c.i.desc]
    let issue := fun (gen : Bool) => gen = true → policyBit s c 1 = true
    let answers := fun (i : Instr) (gen ok : Bool) (v : List Byte) =>
      TxDoes i s c (if gen then gives { status := .ok, out := v } else if ok then gives { status := .ok } else fails .pinMismatch) d1
    (∀ rnd d2, AtWork s r 0x0201 c → (fmtOk c 26 2 false && pinHeaderOk c true false) = true → payLen c 26 (fmtLen f) (fmtLen o) hs = true →
      (f = 1 ∨ o ≠ 1) →
      Reads (pinWork c 26 (needs (fun a => a.usage == .P0 && (a.mode == .E || a.mode == .B) && a.alg == fmtAlg o))
        (fun d a b => if strengthOf d c.i.slice b < pinStrength c d a ∧ !bitAt (sliceOf d c.i.slice).per.policy 2
          then some .keyStrength else none) pinCounts) (begun s c) (pin, kb) d1 → Reads (random (fillBytes o)) d1 rnd d2 →
      TxDoes (.pinTranslate r) s c (gives { status := .ok, out := sealField o kb.bytes (pinPan c) (fieldOf o pin rnd) }) d2) ∧
    (∀ gen : Bool, AtWork s r (if gen then 0x0203 else 0x0202) c → issue gen →
      let n := c.p 0x68 1
      let table := nibs (c.pb 0x52 8)
      let off := nibs (c.pb 0x62 6)
      let v := offsetOf kb.bytes (c.pb 0x5A 8) (c.pb 0x52 8) pin n
      (fmtOk c 49 2 false && pinHeaderOk c false false && table.all isDec && decide (4 ≤ n) && decide (n ≤ 12)
        && (if gen then c.p 0x62 6 == 0 else (off.take n).all isDec && (off.drop n).all (· == 15))) = true →
      payLen c 49 (fmtLen f) (if gen then 6 else 0) hs = true →
      (∀ x, x < 10 → 1 ≤ (table.filter (· == x)).length ∧ (table.filter (· == x)).length ≤ 2) →
      Reads (pinWork c 49 (methodKey .V1 .T gen) noCheckB (fun _ => 1)) (begun s c) (pin, kb) d1 → (gen = true → n ≤ pin.length) →
      answers (if gen then .pinOffsetGenerate r else .pinVerifyOffset r) gen (decide (n ≤ pin.length) && v == off.take n)
        (pack (v ++ List.replicate (12 - n) 15))) ∧
    (∀ gen : Bool, AtWork s r (if gen then 0x0205 else 0x0204) c → issue gen →
      let pvv := nibs (c.pb 0x53 2)
      let b := (pinPan c).dropLast
      let v := scanDecimal 4 (nibs ((tdes kb.bytes).enc (pack (b.drop (b.length - 11) ++ [c.p 0x52 1] ++ pin.take 4))))
      (fmtOk c 29 2 false && pinHeaderOk c false true && decide (c.p 0x52 1 ≤ 9)
        && (if gen then c.p 0x53 2 == 0 else pvv.all isDec)) = true → payLen c 29 (fmtLen f) (if gen then 2 else 0) hs = true →
      Reads (pinWork c 29 (methodKey .V2 .T gen) (fun _ _ b => if b.bytes.length = 16 then none else some .keyUsage) (fun _ => 1))
        (begun s c) (pin, kb) d1 →
      answers (if gen then .pvvGenerate r else .pinVerifyPvv r) gen (v == pvv) (pack v)) ∧
    (∀ gen : Bool, AtWork s r (if gen then 0x0207 else 0x0206) c → issue gen →
      let pan := pinPan c
      let v := ((aes kb.bytes).enc (pack ([pin.length] ++ pin ++ List.replicate (12 - pin.length) 15
        ++ List.replicate (19 - pan.length) 0 ++ pan))).take 8
      (fmtOk c 34 2 false && pinHeaderOk c false true && (!gen || c.p 0x52 8 == 0)) = true →
      payLen c 34 (fmtLen f) (if gen then 8 else 0) hs = true →
      Reads (pinWork c 34 (methodKey .V0 .A gen) noCheckB (fun _ => 1)) (begun s c) (pin, kb) d1 →
      answers (if gen then .pinReferenceGenerate r else .pinVerifyReference r) gen (v == c.pb 0x52 8) v) ∧
    (AtWork s r 0x0304 c → (fmtOk c 35 2 false && pinHeaderOk c false true && (nibs (c.pb 0x5A 1)).all isDec) = true →
      payLen c 35 (fmtLen f) 16 hs = true → Reads (pinWork c 35 (emvKey .E1) noCheckB emvCounts) (begun s c) (pin, kb) d1 →
      let ci := cipherOf kb.attr.alg (sessionKey kb.attr.alg (iccKey kb (pinPan c) (nibs (c.pb 0x5A 1))) (c.pb 0x52 8))
      let plain := isoPad 16 2 ([0x08] ++ pack ([2, pin.length] ++ pin ++ List.replicate (14 - pin.length) 15))
      TxDoes (.emvScriptPin r) s c (gives { status := .ok, out := cbcEnc ci (List.replicate ci.size 0) plain }) d1)

/-- EMV, card check values and MACs: `ARQC_VERIFY` compares the cryptogram and answers the ARPC where it is asked for, `ARPC_GENERATE` makes
one, a script MAC and a CCV are made or compared, and a MAC is made or compared under the key or its DUKPT working key (R161 to R173). -/
def Obligations.CryptogramsAndMacs : Prop :=
  ∀ (s : State) (r : Run) (c : Ctx) (k : Copy) (cs : List Copy) (d1 d2 : Dev),
    let a := k.key.attr.alg
    (∀ gen : Bool, AtWork s r (if gen then 0x0302 else 0x0301) c →
      let fl := c.p 0x38 1
      let n := c.p 0x3B 1
      let padl := c.p 0x56 1
      let wants := gen || bitAt fl 0
      let mk := iccKey k.key (panDigits (c.p 0x39 1) (c.pb 0x3C 10)) (nibs (c.pb 0x3A 1))
      let ack := if bitAt fl 3 then mk else sessionKey a mk (c.pb 0x46 2)
      (fmtOk c 40 1 false && decide (fl < 16) && (!gen || !bitAt fl 0) && (!bitAt fl 1 || !bitAt fl 2)
        && panOk (c.p 0x39 1) (c.pb 0x3C 10) true && (nibs (c.pb 0x3A 1)).all isDec
        && (if gen then n == 0 else decide (1 ≤ n)) && c.p 0x57 1 == 0 && decide (padl ≤ 8)
        && (if bitAt fl 1 then c.p 0x50 2 == 0 && zeroFrom (c.pb 0x58 8) padl 8
            else c.p 0x52 4 == 0 && padl == 0 && c.p 0x58 8 == 0)) = true →
      payLen c 40 n (if !wants then 0 else if bitAt fl 1 then 4 else 8) [dKeyA c.i.desc] = true →
      KeyA c 40 allKinds (emvKey .E0) (begun s c) k d1 → Reads (drawCounts c [(k, emvCounts k.key)]) d1 cs d2 →
      TxDoes (if gen then .arpcGenerate r else .arqcVerify r) s c
        (if gen = true ∨ emvMac a ack ((c.input 40).take n) = c.pb 0x48 8
         then gives { status := .ok, out := if wants then arpc c a mk ack else [] } else fails .arqcMismatch) d2) ∧
    (AtWork s r 0x0303 c →
      let n := c.p 0x3B 1
      let ml := c.p 0x38 1
      (fmtOk c 22 1 false && decide (4 ≤ ml) && decide (ml ≤ 8) && panOk (c.p 0x39 1) (c.pb 0x3C 10) true
        && (nibs (c.pb 0x3A 1)).all isDec && decide (1 ≤ n)) = true → payLen c 22 n ml [dKeyA c.i.desc] = true →
      KeyA c 22 allKinds (emvKey .E2) (begun s c) k d1 → Reads (drawCounts c [(k, emvCounts k.key)]) d1 cs d2 →
      let mk := iccKey k.key (panDigits (c.p 0x39 1) (c.pb 0x3C 10)) (nibs (c.pb 0x3A 1))
      let m := emvMac a (sessionKey a mk (c.pb 0x46 8)) ((c.input 22).take n)
      TxDoes (.emvScriptMac r) s c (gives { status := .ok, out := m.take ml }) d2) ∧
    (∀ gen : Bool, AtWork s r (if gen then 0x0305 else 0x0306) c →
      let svc := nibs (c.pb 0x46 2)
      let v := nibs (c.pb 0x48 2)
      let x := ccvDigits k.key.bytes (panDigits (c.p 0x38 1) (c.pb 0x3A 10)) (nibs (c.pb 0x44 2)) (svc.take 3)
      (fmtOk c 18 1 false && panOk (c.p 0x38 1) (c.pb 0x3A 10) true && c.p 0x39 1 == 0 && (nibs (c.pb 0x44 2)).all isDec
        && svcOk svc && (if gen then c.p 0x48 2 == 0 else svcOk v)) = true → payLen c 18 0 (if gen then 2 else 0) [dKeyA c.i.desc] = true →
      KeyA c 18 allKinds (methodKey .C0 .T gen) (begun s c) k d1 → k.key.bytes.length = 16 → Reads (drawCounts c [(k, 2)]) d1 cs d2 →
      TxDoes (if gen then .ccvGenerate r else .ccvVerify r) s c (if gen then gives { status := .ok, out := pack (x ++ [15]) }
        else if x = v.take 3 then gives { status := .ok } else fails .ccvMismatch) d2) ∧
    (∀ (gen : Bool) (u : Usage) (anyAlg : Bool), AtWork s r (if gen then 0x0401 else 0x0402) c →
      let code := c.p 0x38 1
      let pad := c.p 0x39 1
      let ml := c.p 0x3A 1
      let fl := c.p 0x3B 1
      let n := c.p 0x58 4
      let duk := bitAt fl 0
      let use := bits fl 2 1
      let typ := bits fl 5 3
      let wk := if duk then workingKey k.key (c.pb 0x3C 12) (use + 1) typ else k.key.bytes
      let m := (macOf code pad a wk ((c.input 36).take n)).take ml
      macUsage code = some (u, anyAlg) →
      (fmtOk c 36 1 false && (if code = 0x05 then pad == 0 else pad == 1 || pad == 2) && decide (4 ≤ ml)
        && decide (ml ≤ if anyAlg then 16 else 8) && decide (fl < 64) && decide (typ ≤ 2)
        && (duk || (fl == 0 && c.p 0x3C 12 == 0)) && zeroFrom (c.pb 0x48 16) (if gen then 0 else ml) 16) = true →
      (decide (n ≤ 8192) && !(n == 0 && pad == 1) && payLen c 36 n (if gen then ml else 0) [dKeyA c.i.desc]) = true →
      KeyA c 36 allKinds (needs (fun a =>
        if duk then (a.usage == .B0 || a.usage == .B1) && a.mode == .X
          && (if a.alg = .T then code == 0x03 && decide (use ≤ 1)
              else a.alg == .A && code == 0x05 && (use == 2 || use == if gen then 0 else 1))
        else a.usage == u && (a.mode == .C || a.mode == if gen then .G else .V) && (a.alg == .T || (anyAlg && a.alg == .A))))
        (begun s c) k d1 →
      (duk || decide (code ≠ 0x03) || k.key.bytes.length == 16) = true →
      ((typ == 0 || (duk && a == .A)) && (a == .A || decide (ml ≤ 8)) && (!duk || a == .A || c.p 0x46 2 == 0)) = true →
      (!duk || ksnOk a (c.pb 0x3C 12) k.key.attr) = true → Reads (drawCounts c [(k, macCounts code pad k.key n)]) d1 cs d2 →
      TxDoes (if gen then .macGenerate r else .macVerify r) s c (if gen then gives { status := .ok, out := m }
        else if m = c.pb 0x48 ml then gives { status := .ok } else fails .macMismatch) d2)
/-! ## Bulk data -/

/-- `DATA_ENCRYPT` and `DATA_DECRYPT` go to a cipher engine: the modes without a tag answer the data with its IV and chain value, the IV the
caller's or drawn by the device; GCM and CCM encrypt under a nonce made of slice, slot, version and count, and a decryption whose tag
differs answers `ST_TAG_MISMATCH` and no plaintext (R183, R185 to R196). -/
def Obligations.DataCiphers : Prop :=
  ∀ (s : State) (r : Run) (c : Ctx) (enc : Bool) (k : Copy) (ks : List Copy) (d1 d2 : Dev),
    AtWork s r (if enc then 0x0501 else 0x0502) c → dataFormatOk enc c = true → dataLengthOk enc c = true →
    let mode := c.p 0x38 1
    let dev := bitAt (c.p 0x39 1) 0
    let cb := c.p 0x3A 1
    let tl := c.p 0x3C 1
    let n := c.p 0x40 4
    let an := c.p 0x44 4
    let a := k.key.attr.alg
    let kb := k.key.bytes
    let ci := cipherOf a kb
    let iv0 := (c.pb 0x48 16).take ci.size
    let blocks := (n + ci.size - 1) / ci.size
    let aad := (c.input 48).take an
    let m := slice8 (c.input 48) an n
    let row := if enc then Instr.dataEncrypt r else .dataDecrypt r
    KeyA c 48 allKinds (needs (fun a =>
      a.usage == .D0 && symmetric a.alg && (a.mode == .B || a.mode == if enc then .E else .D) && (a.alg == .A || !aead mode)))
      (begun s c) k d1 →
    (!(enc && aead mode) || k.slot.isSome) = true → (!(enc && a == .T) || decide (16 < kb.length)) = true →
    (a == .A || (cb != 128 && c.p 0x50 8 == 0)) = true →
    ((a == .A || decide (n ≤ 8388608)) && (decide (1 < mode) || n % ci.size == 0)
      && (decide (mode ≠ 5) || decide ((if dev then 0 else beNat iv0 % 2 ^ cb) + blocks ≤ 2 ^ cb))) = true →
    Reads (drawCounts c [(k, dataCounts mode ci.size n)]) d1 ks d2 →
    (aead mode = false →
      let outcome := fun (iv : List Byte) =>
        let o := runMode ci mode cb enc iv m
        let fixed := if mode = 0 then List.replicate 32 0 else fit iv 16 ++ fit (chainValue ci mode cb iv (if enc then o else m)) 16
        posts .cipher n { status := .ok, out := o, fixed }
      (dev = false → TxDoes row s c (outcome iv0) d2) ∧
      (dev = true → ∀ rnd d3, Reads (random ci.size) d2 rnd d3 →
        TxDoes row s c (outcome (if mode = 5 then beBytes ci.size (beNat rnd / 2 ^ cb * 2 ^ cb) else rnd)) d3)) ∧
    (aead mode = true → dev = false →
      let crypt := fun (nonce : List Byte) => if mode = 6 then gcmData kb nonce m else ccmCrypt kb nonce m
      let tagOf := fun (nonce plain ct : List Byte) => if mode = 6 then (gcmMac kb nonce aad ct).take tl else ccmTag kb nonce aad plain tl
      (enc = true → ∀ x xs sl v, ks = x :: xs → x.slot = some (sl, v) →
        let nonce := deviceNonce c.i.slice sl v x.count
        TxDoes row s c (posts .cipher (an + n)
          { status := .ok, out := crypt nonce ++ tagOf nonce m (crypt nonce), fixed := fit nonce 32 }) d2) ∧
      (enc = false →
        let nonce := c.pb 0x48 (c.p 0x3B 1)
        TxDoes row s c (posts .cipher (an + n) (if tagOf nonce (crypt nonce) m = c.pb 0x58 tl
          then { status := .ok, out := crypt nonce, fixed := fit nonce 32 } else { status := .tagMismatch })) d2))

/-- Digests and MACs of long messages, and `HMAC_DERIVE_KEY`: the message comes from the data area or a gather list, and a source that
delivers more than its length sets `TRUNC` (R182, R197 to R202). -/
def Obligations.DigestsAndLongMacs : Prop :=
  ∀ (s : State) (r : Run) (c : Ctx),
    let h := c.p 0x38 1
    let msg := fun (params n : Nat) (g : Bool) (m : List Byte) (more : Bool) =>
      if g then (∃ total, gatherCheck (c.input params) n = .ok total ∧ more = decide (n < total)) ∧
          m = fit (c.r.input.drop (dInLen c.i.desc)) n
      else m = (c.input params).take n ∧ more = false
    (∀ m more, let n := c.p 0x3C 4
      let g := bitAt (c.p 0x39 1) 0
      (AtWork s r 0x0505 c → (fmtOk c 8 0 false && hashOk h && decide (c.p 0x39 1 < 2) && c.p 0x3A 2 == 0) = true →
        (msgLengthOk c 8 n 1073741824 g [] && outLenOk c (hashLen h)) = true → h ≠ 1 → msg 8 n g m more →
        TxDoes (.digest r) s c (posts .digest n { status := .ok, out := Machine.digest h m, trunc := more }) (begun s c)) ∧
      (AtWork s r 0x0506 c → (fmtOk c 72 0 false && hashOk h && decide (c.p 0x39 1 < 2) && c.p 0x3A 2 == 0
          && zeroFrom (c.pb 0x40 64) (hashLen h) 64) = true → (msgLengthOk c 72 n 1073741824 g [] && outLenOk c 0) = true →
        msg 72 n g m more → TxDoes (.digestVerify r) s c (posts .digest n
          { status := if Machine.digest h m = c.pb 0x40 (hashLen h) then .ok else .digestMismatch, trunc := more }) (begun s c))) ∧
    (∀ (gen : Bool) (k : Copy) (cs : List Copy) (m : List Byte) (more : Bool) (d1 d2 : Dev),
      AtWork s r (if gen then 0x0503 else 0x0504) c →
      let hc := c.p 0x39 1
      let ml := c.p 0x3A 1
      let g := bitAt (c.p 0x3B 1) 0
      let n := c.p 0x3C 4
      let hm := h == 0x20
      let ci := cipherOf k.key.attr.alg k.key.bytes
      let v := (if hm then hmac hc k.key.bytes m else cmac ci m).take ml
      (fmtOk c 72 1 false && decide (c.p 0x3B 1 < 2)
        && (if hm then hashOk hc && decide (8 ≤ ml) && decide (ml ≤ hashLen hc) && !(g && hKind (dKeyA c.i.desc) == 1)
            else h == 0x05 && hc == 0 && decide (4 ≤ ml) && decide (ml ≤ 16) && !g)
        && zeroFrom (c.pb 0x40 64) (if gen then 0 else ml) 64) = true →
      (msgLengthOk c 72 n (if hm then 1073741824 else 16777216) g [dKeyA c.i.desc] && outLenOk c (if gen then ml else 0)) = true →
      (!(gen && hm && hc == 1)) = true →
      KeyA c 72 allKinds (needs (fun a => (a.mode == .C || a.mode == if gen then .G else .V)
        && (if hm then a.usage == .M7 && a.alg == .H && a.hm == some hc else a.usage == .M6 && symmetric a.alg))) (begun s c) k d1 →
      (hm || k.key.attr.alg == .A || decide (ml ≤ 8)) = true →
      Reads (drawCounts c [(k, if hm then 0 else max 1 ((n + ci.size - 1) / ci.size))]) d1 cs d2 → msg 72 n g m more →
      TxDoes (if gen then .bulkMacGenerate r else .bulkMacVerify r) s c (posts (if hm then .digest else .cipher) n
        (if gen then { status := .ok, out := v, trunc := more }
         else { status := if v = c.pb 0x40 ml then .ok else .macMismatch, trunc := more })) d2) ∧
    (∀ (u : Usage) (a : Alg) (md : KMode) (ex : Expo) (k : Copy) (m : List Byte) (d1 : Dev), AtWork s r 0x0507 c →
      let slot := c.p 0x39 1
      let g := bitAt (c.p 0x3C 1) 0
      let n := c.p 0x40 4
      let kb := c.p 0x4A 2
      let ceil := c.p 0x4C 6
      let attr : Attr := { usage := u, alg := a, mode := md, expo := ex, ceil9C := if ceil = 0 then none else some ceil }
      let key : Key := { attr, bytes := (hmac h k.key.bytes m).take (kb / 8) }
      usageOf (byteOf (c.p 0x44 1)) (byteOf (c.p 0x45 1)) = some u → algOf (byteOf (c.p 0x46 1)) = some a →
      modeOf (byteOf (c.p 0x47 1)) = some md → expoOf (byteOf (c.p 0x48 1)) = some ex →
      (fmtOk c 26 1 true && hashOk h && decide (slot < 64) && decide (c.p 0x3A 1 < 2) && decide (c.p 0x3B 1 ≤ 1)
        && decide (c.p 0x3C 1 < 2) && c.p 0x3D 3 == 0 && c.p 0x49 1 == 0 && symmetric a && bitsOk a kb
        && decide (kb ≤ 8 * hashLen h) && !(g && hKind (dKeyA c.i.desc) == 1)) = true →
      (msgLengthOk c 26 n 1073741824 g [dKeyA c.i.desc] && outLenOk c 0) = true → policyBit s c 0 = true → h ≠ 1 →
      KeyA c 26 allKinds (needs (fun x => x.usage == .M7 && x.alg == .H && x.mode == .X && x.hm == some h)) (begun s c) k d1 →
      comboOk u a md = true → ceil < defaultCeiling u a → kb ≤ 8 * k.key.bytes.length → msg 26 n g m false →
      TxDoes (.hmacDeriveKey r) s c (if weakTdes a key.bytes = true then posts .digest n { status := .keyDamaged }
        else posts .digest n { status := .ok, fixed := keyResult (c.i.slice * 2 ^ 48 + slot) 0 (kcv (c.p 0x3B 1) key) }
          (.step (.slotWrite slot key (ceilingOf attr) (bitAt (c.p 0x3A 1) 0)))) d1)
/-! ## Public keys and random numbers -/

/-- RSA on a PK engine: signatures by PKCS#1 v1.5 or PSS with a drawn salt, their verification with its range checks, and OAEP decryption
(R215, R217, R219, R222, R225, R231, R232). -/
def Obligations.RsaCommands : Prop :=
  ∀ (s : State) (r : Run) (c : Ctx),
    let f : PkForm := { hash := true, rsa := true }
    let h := pkHash c
    let msg := (pkParts c f).2.2.2.1
    (∀ key salt d1 d2, AtWork s r 0x0601 c → (pkFormatOk c 1 f && decide (pkFlags c ≤ 1)) = true →
      pkLengthOk c f (isN 0) (isN 0) (isN (hashLen h)) (isN 0) = true → h ≠ 1 → pkAlg c = 0x10 →
      Reads (pkKey c .S0 .R .S) (begun s c) key d1 → outLenOk c (rsaN key).1 = true → rngForItems d1 = true →
      (if pkFlags c = 1 then Reads (random (pkAux8 c)) d1 salt d2 else salt = [] ∧ d2 = d1) →
      let m := (rsaN key).1
      let em := if pkFlags c = 1 then pssEncode m h msg salt else pkcs1 m h msg
      TxDoes (.rsaSign r) s c (posts .pk m { status := .ok, out := beBytes m (rsaPrivate key (beNat em)) }) d2) ∧
    (let k := pubLen c - 8
     let n := beNat ((pkParts c f).1.take k)
     let e := beNat ((pkParts c f).1.drop k)
     let sg := beNat (pkParts c f).2.1
     let em := beBytes k (powMod sg e n)
     AtWork s r 0x0602 c → (pkFormatOk c 0 f && decide (pkFlags c ≤ 1)) = true →
      (pkLengthOk c f (fun x => decide (136 ≤ x) && decide (x ≤ 1032) && x % 8 == 0) (isN k) (isN (hashLen h)) (isN 0)
        && outLenOk c 0) = true → pkAlg c = 0x10 →
      TxDoes (.rsaVerify r) s c (posts .pk k (
        if n % 2 = 1 ∧ 2 ^ (8 * k - 1) ≤ n ∧ e % 2 = 1 ∧ 3 ≤ e ∧ 0 < sg ∧ sg < n then
          (if (if pkFlags c = 1 then pssVerify k h (pkAux8 c) msg em else em == pkcs1 k h msg) = true then { status := .ok }
           else { status := .signature })
        else { status := .pkRange })) (begun s c)) ∧
    (∀ key d1, let k := auxLen c
      let x := beNat (pkParts c f).2.1
      AtWork s r 0x0603 c → (pkFormatOk c 1 f && pkFlags c == 2) = true →
      (pkLengthOk c f (isN 0) (fun x => decide (256 ≤ x) && decide (x ≤ 1024) && x % 8 == 0) (isN 0) (isN 0)
        && outLenOk c (k - 2 * hashLen h - 2)) = true → pkAlg c = 0x10 → Reads (pkKey c .D0 .R .D) (begun s c) key d1 →
      (rsaN key).1 = k → rngForItems d1 = true →
      TxDoes (.rsaDecrypt r) s c (posts .pk k (
        if 0 < x ∧ x < (rsaN key).2 then
          (match oaepDecode k h (beBytes k (rsaPrivate key x)) with
            | some out => { status := .ok, out }
            | none => { status := .decode })
        else { status := .pkRange })) d1)

/-- Elliptic-curve signatures: ECDSA on the named and the loaded curves with a drawn scalar, and EdDSA, whose values and verdicts are the
model's free functions (assumption 10); a point off its curve answers `ST_PK_POINT`, a number out of range `ST_PK_RANGE` (R213, R219,
R226, R227, R232, R236). -/
def Obligations.CurveSignatures : Prop :=
  ∀ (s : State) (r : Run) (c : Ctx),
    let a := pkAlg c
    (∀ w key rnd d1 d2, let f : PkForm := { hash := true }
      AtWork s r 0x0604 c → pkCurveOf c s.dev = some w → pkFormatOk c 1 f = true →
      (pkLengthOk c f (isN 0) (isN 0) (isN (hashLen (pkHash c))) (isN 0) && outLenOk c (2 * orderLen w)) = true → pkHash c ≠ 1 →
      Reads (pkKey c .S0 .E .S) (begun s c) key d1 → Reads (random (orderLen w + 8)) d1 rnd d2 →
      let ol := orderLen w
      let k := beNat rnd % w.n
      let x := ((ptMul w k (some (w.gx, w.gy))).map (fun p => p.1 % w.n)).getD 0
      let y := invMod k w.n * ((ecDigest w.n (pkParts c f).2.2.2.1 + x * beNat (key.bytes.drop 9)) % w.n) % w.n
      TxDoes (.ecdsaSign r) s c (posts .pk w.len
        (if x ≠ 0 ∧ y ≠ 0 then { status := .ok, out := beBytes ol x ++ beBytes ol y } else { status := .pkFault })) d2) ∧
    (∀ w, let f : PkForm := { hash := true }
      AtWork s r 0x0605 c → pkCurveOf c s.dev = some w → pkFormatOk c 0 f = true →
      (pkLengthOk c f (isN (1 + 2 * w.len)) (isN (2 * orderLen w)) (isN (hashLen (pkHash c))) (isN 0) && outLenOk c 0) = true →
      (pkParts c f).1.head? = some 0x04 →
      let q := pointOf w (pkParts c f).1
      let x := beNat ((pkParts c f).2.1.take (orderLen w))
      let y := beNat ((pkParts c f).2.1.drop (orderLen w))
      let p := ptAdd w (ptMul w (ecDigest w.n (pkParts c f).2.2.2.1 * invMod y w.n % w.n) (some (w.gx, w.gy)))
        (ptMul w (x * invMod y w.n % w.n) (some q))
      TxDoes (.ecdsaVerify r) s c (posts .pk w.len (
        if onCurve w q.1 q.2 = false then { status := .pkPoint }
        else if ¬ (0 < x ∧ x < w.n ∧ 0 < y ∧ y < w.n) then { status := .pkRange }
        else if p.any (fun z => z.1 % w.n == x) then { status := .ok } else { status := .signature })) (begun s c)) ∧
    (∀ key d1, let f : PkForm := {}
      AtWork s r 0x0607 c → pkFormatOk c 1 f = true →
      (pkLengthOk c f (isN 0) (isN 0) (upTo 0 8192) (isN 0) && outLenOk c (edSig a)) = true → isEd a = true →
      Reads (pkKey c .S0 .E .S) (begun s c) key d1 → rngForItems d1 = true →
      let sg := Config.edSign a (key.bytes.drop 9) (pkParts c f).2.2.1 (pkParts c f).2.2.2.1
      TxDoes (.eddsaSign r) s c (posts .pk (edSig a) { status := .ok, out := beBytes (edSig a) sg }) d1) ∧
    (let f : PkForm := {}
     let pub := (pkParts c f).1
     let sg := (pkParts c f).2.1
     AtWork s r 0x0608 c → pkFormatOk c 0 f = true →
      (pkLengthOk c f (isN (edPub a)) (isN (edSig a)) (upTo 0 8192) (isN 0) && outLenOk c 0) = true → isEd a = true →
      TxDoes (.eddsaVerify r) s c (posts .pk (edSig a) (
        if Config.edPointOk a pub = false then { status := .pkPoint }
        else if edOrder a ≤ leAt sg (edPub a) (edPub a) then { status := .pkRange }
        else if Config.edPointOk a (sg.take (edPub a)) = false then { status := .pkPoint }
        else if Config.edVerify a pub sg (pkParts c f).2.2.1 (pkParts c f).2.2.2.1 = true then { status := .ok }
        else { status := .signature })) (begun s c))

/-- Agreement commands derive a key of a template from a shared secret by the one-step KDF and deliver it: over a curve, and by ML-KEM, whose
values are the model's free functions (assumption 10); the ciphertext of an encapsulation leaves before the key (R222 to R224, R228, R232). -/
def Obligations.KeyAgreement : Prop :=
  ∀ (s : State) (r : Run) (c : Ctx) (h : Header) (proto : Key) (d1 d2 d3 : Dev),
    let f := agreeForm
    let a := pkAlg c
    let hc := pkHash c
    let info := (pkParts c f).2.2.2.2
    let n := pkBits c / 8
    let bytes := fun (z : List Byte) => (((List.range ((n + hashLen hc - 1) / hashLen hc)).map
      (fun i => Machine.digest hc (beBytes 4 (i + 1) ++ z ++ info.drop h.len))).flatten).take n
    let delivered := fun (i : Instr) (len : Nat) (z before : List Byte) (d : Dev) =>
      Delivers i s c (fun x y => posts .pk len x y) (pkDest c) (c.p 0x3C 1) (bitAt (c.p 0x3D 1) 0) (c.p 0x3E 1)
        { proto with bytes := bytes z } before [] d
    hc ≠ 1 → (pkDest c = 1 → policyBit s c 0 = true) → Reads (deriveTemplate c info) d1 (h, proto) d1 →
    (∀ key, AtWork s r 0x0606 c → pkFormatOk c 1 f = true → Reads (pkKey c .K3 .E .X) (begun s c) key d1 →
      Reads (deriveOutOk c 0 h proto) d1 () d2 → rngForItems d2 = true →
      (a = 0x06 → pkCurveOf c s.dev = none → (pkLengthOk c f (isN 32) (isN 0) (isN 0) (upTo 16 512) && (pkDest c == 0 || outLenOk c 0)) = true →
        let u := leAt (pkParts c f).1 0 32
        (u25519Ok u = false → TxDoes (.ecdhDerive r) s c (posts .pk 32 { status := .pkPoint }) d2) ∧
        (u25519Ok u = true → delivered (.ecdhDerive r) 32 (leBytes 32 (x25519 (clamp (key.bytes.drop 9)) u)) [] d2)) ∧
      (∀ w, pkCurveOf c s.dev = some w → a ≠ 0x06 → (pkParts c f).1.head? = some 0x04 →
        (pkLengthOk c f (isN (1 + 2 * w.len)) (isN 0) (isN 0) (upTo 16 512) && (pkDest c == 0 || outLenOk c 0)) = true →
        let p := pointOf w (pkParts c f).1
        (onCurve w p.1 p.2 = false → TxDoes (.ecdhDerive r) s c (posts .pk w.len { status := .pkPoint }) d2) ∧
        (onCurve w p.1 p.2 = true → delivered (.ecdhDerive r) w.len
          (beBytes w.len (((ptMul w (beNat (key.bytes.drop 9)) (some p)).map (·.1)).getD 0)) [] d2))) ∧
    (∀ rnd, AtWork s r 0x0609 c → d1 = begun s c → pkFormatOk c 0 f = true → isKem a = true →
      (pkLengthOk c f (isN (kemEk a)) (isN 0) (isN 0) (upTo 16 512) && (pkDest c == 0 || outLenOk c (kemCt a))) = true →
      Reads (deriveOutOk c (kemCt a) h proto) d1 () d2 → Reads (random 32) d2 rnd d3 →
      let ek := (pkParts c f).1
      (kemModulusOk ek = false → TxDoes (.mlkemEncapsulate r) s c (posts .pk (kemEk a) { status := .pkRange }) d3) ∧
      (kemModulusOk ek = true → delivered (.mlkemEncapsulate r) (kemEk a) (beBytes 32 (Config.kemEncaps a ek rnd).2)
        (beBytes (kemCt a) (Config.kemEncaps a ek rnd).1) d3)) ∧
    (∀ key, AtWork s r 0x060A c → pkFormatOk c 1 f = true → isKem a = true →
      (pkLengthOk c f (isN 0) (isN (kemCt a)) (isN 0) (upTo 16 512) && (pkDest c == 0 || outLenOk c 0)) = true →
      Reads (pkKey c .K3 .K1 .X) (begun s c) key d1 → Reads (deriveOutOk c 0 h proto) d1 () d2 → rngForItems d2 = true →
      delivered (.mlkemDecapsulate r) (kemCt a) (beBytes 32 (Config.kemDecaps a (key.bytes.drop 1) (pkParts c f).2.1)) [] d2)

/-- ML-DSA signatures and key pairs: signing answers a signature, or `ST_PK_FAULT` where the bound of its rejection loop is reached; a
generated pair leaves its public key beside the delivered private key (R222, R224, R229, R230, R236). -/
def Obligations.LatticeSignaturesAndKeyPairs : Prop :=
  ∀ (s : State) (r : Run) (c : Ctx),
    let a := pkAlg c
    (let f : PkForm := { mu := true }
     isDsa a = true →
      (∀ key rnd d1 d2, AtWork s r 0x060B c → pkFormatOk c 1 f = true →
        (pkLengthOk c f (isN 0) (isN 0) (dsaMsg c) (isN 0) && outLenOk c (dsaSig a)) = true →
        Reads (pkKey c .S0 .D2 .S) (begun s c) key d1 → Reads (random 32) d1 rnd d2 →
        let sg := Config.dsaSign a (key.bytes.drop 1) rnd (pkParts c f).2.2.1 (pkFlags c == 4) (pkParts c f).2.2.2.1
        TxDoes (.mldsaSign r) s c (posts .pk (dsaSig a)
          (if c.r.chance then { status := .pkFault } else { status := .ok, out := beBytes (dsaSig a) sg })) d2) ∧
      (AtWork s r 0x060C c → pkFormatOk c 0 f = true →
        (pkLengthOk c f (isN (dsaPk a)) (isN (dsaSig a)) (dsaMsg c) (isN 0) && outLenOk c 0) = true →
        TxDoes (.mldsaVerify r) s c (posts .pk (dsaSig a)
          (if Config.dsaVerify a (pkParts c f).1 (pkParts c f).2.1 (pkParts c f).2.2.1 (pkFlags c == 4) (pkParts c f).2.2.2.1 = true
           then { status := .ok } else { status := .signature })) (begun s c))) ∧
    (∀ h rnd d1 d2, let f : PkForm := { deliver := true }
      let w := pkCurveOf c s.dev
      let info := (pkParts c f).2.2.2.2
      AtWork s r 0x060D c → pkFormatOk c 0 f = true → pkLengthOk c f (isN 0) (isN 0) (isN 0) (upTo 16 128) = true → pkDest c ≠ 1 →
      (w.isSome || !isW a) = true → Reads (template false info info.length) (begun s c) h (begun s c) →
      let shape := genShape c w
      (h.attr.alg == shape.1 && comboOk h.attr.usage shape.1 h.attr.mode) = true →
      Reads (deriveOutOk c shape.2.2 h { attr := h.attr, bytes := List.replicate shape.2.1 0 }) (begun s c) () d1 →
      Reads (random (genBytes c w)) d1 rnd d2 →
      Delivers (.pkKeyGenerate r) s c (fun x y => posts .pk shape.2.1 x y) (pkDest c) 0 false 0
        { attr := h.attr, bytes := (genPair c w rnd).1 } [] (genPair c w rnd).2 d2)

/-- `RANDOM_GENERATE` answers drawn bytes, no byte twice, and fails only where every source is retired; `RNG_STATUS` reports the state, the
sources and the instances. The bytes are a free value of the model (assumption 9) (R245, R250, R252, R257, R258). -/
def Obligations.RandomCommands : Prop :=
  ∀ (s : State) (r : Run) (c : Ctx),
    (let n := c.p 0x38 4
     AtWork s r 0x0701 c → fmtOk c 4 0 false = true → 1 ≤ n → n ≤ 65536 → (inLenOk c 4 0 && outLenOk c n) = true →
      (rngForItems s.dev = true → TxDoes (.randomGenerate r) s c
        (gives { status := .ok, out := (List.range n).map (fun i => Config.randomByte (s.dev.rng.drawn + i)) }) (draw n (begun s c)) ∧
        (draw n (begun s c)).rng.drawn = s.dev.rng.drawn + n) ∧
      (s.dev.rng.failed = true → TxDoes (.randomGenerate r) s c (fails .rngFail) (begun s c))) ∧
    (AtWork s r 0x0702 c → fmtOk c 0 0 true = true → inLenOk c 0 0 = true →
      TxDoes (.rngStatus r) s c (gives { status := .ok, fixed := rngResult s.dev }) (begun s c))
/-- One noise source at a time runs: a start-up pass makes it active, a failed health test or start-up retires it and the next source in
order starts, or with none left the RNG fails; blocks are held until their window closes and then queue, at most 16 (R240, R242 to R244,
R252, R253). -/
def Obligations.NoiseSources : Prop :=
  ∀ s : State, alive s.dev = true →
    (∀ n, srcIn s.dev .startup = some n → Does .sourceStartupPass s (raise 0x6001 n n 0 (setSrc n .active s.dev))) ∧
    (srcIn s.dev .startup = none → exec .sourceStartupPass s = .next s ∧ exec .sourceStartupTimeout s = .next s) ∧
    (∀ n k test d', (test = 1 ∨ test = 2) → srcIn s.dev .active = some n → (∀ r, s.dev.rng.raw = some r → r.source ≠ n) →
      d' = modRng (fun r => { r with held := 0 }) (setSrc n .retired (raise 0x6002 n n test s.dev)) →
      (srcIn d' .standby = some k → Does (.healthTestFailure test) s (setSrc k .startup d')) ∧
      (srcIn d' .standby = none → d'.rng.src.all (· == .retired) = true → s.dev.rng.failed = false →
        ∃ t, exec (.healthTestFailure test) s = .next t ∧ t.dev.rng.failed = true ∧ t.dev.rng.inst = [])) ∧
    (∀ n k d', srcIn s.dev .startup = some n →
      d' = modRng (fun r => { r with held := 0 }) (setSrc n .retired (raise 0x6002 n n 3 s.dev)) → srcIn d' .standby = some k →
      Does .sourceStartupTimeout s (setSrc k .startup d')) ∧
    (∀ r, s.dev.rng.raw = some r → srcIn s.dev .active = some r.source → exec (.healthTestFailure 1) s = .next s) ∧
    ((srcIn s.dev .active).isSome = true →
      (s.dev.rng.raw = none → exec .conditionedBlock s =
        .next { s with dev := { s.dev with rng := { s.dev.rng with held := s.dev.rng.held + 1 } } }) ∧
      (s.dev.rng.raw.isSome = true → exec .conditionedBlock s = .next s) ∧
      Does .aptWindowClose s { s.dev with rng := { s.dev.rng with queue := min 16 (s.dev.rng.queue + s.dev.rng.held), held := 0 } }) ∧
    (s.dev.rng.failed = false → ∃ t, exec .conditionerMismatch s = .next t ∧ t.dev.rng.failed = true ∧ t.dev.rng.inst = [] ∧
      t.dev.rng.due = [] ∧ rngServing t.dev = false ∧
      ∀ m, m < 8 → (mailboxOf s.dev m).state = .busy → (mailboxOf s.dev m).wait = .rng → (mailboxOf s.dev m).cur.isSome = true →
        s.dev.log.held = [] → (mailboxOf t.dev m).state = .done)

/-- DRBG instances are instantiated in ascending order from four blocks of conditioned entropy and reseeded from three; a generate request
refills a buffer of 4,096 bytes; a reseed falls due after 4,096 requests or 1 s, and an instance stops at 1,048,576. A raw-sample run ends with
every seeded instance due for a reseed (R245 to R249, R254 to R256). -/
def Obligations.DrbgInstances : Prop :=
  ∀ s : State, alive s.dev = true →
    (∀ n, s.dev.rng.failed = false → s.dev.rng.raw = none → s.dev.sys.ksk = true →
      (s.dev.rng.kat = true → 4 ≤ s.dev.rng.queue → nextInstantiation s.dev = some n →
        (∀ k, k < n → (Tab.getD s.dev.rng.inst k {}).seeded = true ∨ s.dev.fen.drbg.getLsbD k = true) ∧
        Does .instanceInstantiate s
          (modInst n (fun _ => { seeded := true }) { s.dev with rng := { s.dev.rng with queue := s.dev.rng.queue - 4 } })) ∧
      ((s.dev.rng.kat = false ∨ s.dev.rng.queue < 4 ∨ nextInstantiation s.dev = none) → exec .instanceInstantiate s = .next s)) ∧
    (∀ n, n < 16 → rngServing s.dev = true → instServes s.dev n = true →
      Does (.drbgGenerate n) s (generate n 1 (modInst n (fun i => { i with buffer := 4096 }) s.dev)) ∧
      ∃ t, exec (.drbgGenerate n) s = .next t ∧ (Tab.getD t.dev.rng.inst n {}).buffer = 4096 ∧
        (Tab.getD t.dev.rng.inst n {}).gens = (Tab.getD s.dev.rng.inst n {}).gens + 1 ∧
        (4095 ≤ (Tab.getD s.dev.rng.inst n {}).gens → n ∈ t.dev.rng.due) ∧
        (1048575 ≤ (Tab.getD s.dev.rng.inst n {}).gens → (Tab.getD t.dev.rng.inst n {}).stopped = true)) ∧
    (∀ n, n < 16 → (Tab.getD s.dev.rng.inst n {}).seeded = true → n ∉ s.dev.rng.due →
      Does (.reseedDue n) s { s.dev with rng := { s.dev.rng with due := s.dev.rng.due ++ [n] } }) ∧
    (∀ n rest, s.dev.rng.failed = false → s.dev.rng.raw = none → nextInstantiation s.dev = none → 3 ≤ s.dev.rng.queue →
      s.dev.rng.due = n :: rest → Does .reseedComplete s (count 0x7001 1 none none false none
        (modInst n (fun i => { i with gens := 0, stopped := false })
          { s.dev with rng := { s.dev.rng with queue := s.dev.rng.queue - 3, due := rest } }))) ∧
    (∀ run fails op q, s.dev.rng.raw = some run → (mailboxOf s.dev run.mailbox).cur = some (op, q) →
      Does (.rawSampleRunEnd fails) s (answer run.mailbox .ok (leBytes 4 fails)
        ((List.range (rawLen run.mode)).map (Config.rawByte run.source)) false (nextSeq s.dev) (endRaw run s.dev)) ∧
      (endRaw run s.dev).rng.raw = none ∧
      ∀ n, n < 16 → (Tab.getD s.dev.rng.inst n {}).seeded = true →
        n ∈ (endRaw run s.dev).rng.due ∧ (Tab.getD (endRaw run s.dev).rng.inst n {}).stopped = true)
/-! ## Records, counters, start-up and activation -/

/-- The recorder writes the oldest request under the next number, its number's reservation first; a bucket takes a token; a 10 s window that
suppressed anything is summed up in record `0xA001`; and a monitor's window and a dump's period end (R402, R403, R405, R407 to R409, R420,
R421). -/
def Obligations.EventRecords : Prop :=
  ∀ s : State, alive s.dev = true →
    (∀ q qs, s.dev.log.queue = q :: qs → s.dev.sys.ksk = true → recorderSilent s.dev = false →
      ∃ t, exec .eventRecordWrite s = .next t ∧ t.fuse = s.fuse ∧ t.dev.log.head = s.dev.log.head + 1 ∧
        t.dev.log.resEnd = (if s.dev.log.head < s.dev.log.resEnd then s.dev.log.resEnd else s.dev.log.head + 1024) ∧
        Tab.find t.dev.log.circ (s.dev.log.head % 262144) = some { seq := s.dev.log.head, req := q } ∧
        (∀ k, k ≠ s.dev.log.head % 262144 → Tab.find t.dev.log.circ k = Tab.find s.dev.log.circ k) ∧
        (q.code ≠ 0x1010 → q.code ≠ 0x2004 → s.dev.log.head < 4096 →
          Tab.find t.dev.log.perm s.dev.log.head = some { seq := s.dev.log.head, req := q }) ∧
        (q.code ≠ 0x1010 → q.code ≠ 0x2004 → 4096 ≤ s.dev.log.head → t.dev.log.perm = s.dev.log.perm) ∧
        (s.dev.log.held = [] → t.dev.log.queue = qs)) ∧
    (s.dev.log.queue = [] ∨ s.dev.sys.ksk = false ∨ recorderSilent s.dev = true →
      Does .eventRecordWrite s (releaseRecordWaits s.dev)) ∧
    (∀ code, ∃ t, exec (.tokenAdd code) s = .next t ∧
      Tab.getD t.dev.log.spent code 0 = Tab.getD s.dev.log.spent code 0 - 1 ∧
      (∀ k, k ≠ code → Tab.find t.dev.log.spent k = Tab.find s.dev.log.spent k) ∧
      t = { s with dev := { s.dev with log := { s.dev.log with spent := t.dev.log.spent } } }) ∧
    (s.dev.sys.ready = true →
      (s.dev.log.window = [] → exec .suppressionSummary s = .next s) ∧
      (s.dev.log.window ≠ [] → Does .suppressionSummary s (raise 0xA001 (mostSuppressed s.dev.log.window).1 s.dev.log.window.length
        (sat 0xFFFFFFFF (s.dev.log.window.foldl (fun n e => n + e.2) 0)) { s.dev with log := { s.dev.log with window := [] } }))) ∧
    (∀ m bytes, m < 8 → (monOf s.dev m).window ≠ 0 →
      let x := monOf s.dev m
      (x.peak < bytes → exec (.bwmonWindowEnd m bytes) s = .next { s with dev := { s.dev with ctr := { s.dev.ctr with
        mon := Tab.put s.dev.ctr.mon m { x with last := bytes, peak := bytes, peakTime := now s.dev } } } }) ∧
      (bytes ≤ x.peak → exec (.bwmonWindowEnd m bytes) s = .next { s with dev := { s.dev with ctr := { s.dev.ctr with
        mon := Tab.put s.dev.ctr.mon m { x with last := bytes } } } })) ∧
    (devFault s.dev = false → s.dev.ctr.dumpPeriod ≠ 0 →
      (∃ t, exec (.dumpPeriodEnd false) s = .next t ∧ t.dev.ctr.dumpSeq = s.dev.ctr.dumpSeq + 1 ∧ t.dev.ctr.missed = 0 ∧
        .dump (s.dev.ctr.dumpAddr + (s.dev.ctr.dumpSeq + 1) % s.dev.ctr.dumpSlots * 2240)
          (snapshot (s.dev.ctr.dumpSeq + 1) s.dev) ∈ t.dev.out) ∧
      exec (.dumpPeriodEnd true) s = .next { s with dev := { s.dev with ctr := { s.dev.ctr with
        missed := sat 0xFFFFFFFF (s.dev.ctr.missed + 1), dumpMissed := sat 0xFFFFFFFF (s.dev.ctr.dumpMissed + 1) } } })

/-- A start goes from the PUF over the KSK and the image to READY: at most four readings, then the device halts with cause 1; an image that
verifies runs with the security fuse stepped to its version, one that does not leaves the device in recovery; READY puts slices whose
records do not authenticate in ERROR; a unit that does not load halts the start with cause 4 (R101, R313, R328, R427 to R429, R447). -/
def Obligations.StartsReachReady : Prop :=
  ∀ s : State, alive s.dev = true →
    (s.dev.sys.pufOk = false → s.dev.sys.stage = 0 →
      (s.fuse.secretsBlown = false → s.dev.sys.share = .written → s.dev.sys.ksk = false → s.dev.sys.lc ≠ 2 →
        s.dev.goose.eraseBegun = false → s.dev.goose.checkDue = false → ∃ t, exec (.pufReread true) s = .next t ∧ t.dev.sys.ksk = true ∧ t.dev.sys.stage = 1 ∧
          t.dev.sys.pufOk = true ∧ t.dev.sys.pufReads = s.dev.sys.pufReads + 1) ∧
      (s.dev.sys.pufReads < 3 → exec (.pufReread false) s = .next { s with dev := { s.dev with sys := { s.dev.sys with
        pufReads := s.dev.sys.pufReads + 1 } } }) ∧
      (3 ≤ s.dev.sys.pufReads → ∃ t, exec (.pufReread false) s = .next t ∧ t.dev.sys.stage = 6 ∧ t.dev.sys.haltCause = 1 ∧
        t.dev.sys.ksk = s.dev.sys.ksk)) ∧
    (∀ v, s.dev.sys.ksk = true → (s.dev.sys.stage = 1 ∨ s.dev.sys.stage = 2) →
      (∀ b, activeBank s.dev.fw = some b → v.digestOk = true → v.vendorOk = true → (s.dev.sys.lc = 1 → b.owner = true ∧ v.ownerOk = true) →
        fuseCount s.fuse.secVersion ≤ b.sec → b.sec ≤ 64 → ∃ t, exec (.bootImageVerify v) s = .next t ∧ t.dev.sys.stage = 3 ∧
          t.dev.sys.cpUp = true ∧ t.dev.sys.haltCause = 0 ∧ fuseCount t.fuse.secVersion = b.sec ∧ t.dev.sys.startOwed = false) ∧
      (∀ k, (activeBank s.dev.fw = none ∧ k = 6) ∨
          (∃ b, activeBank s.dev.fw = some b ∧
            ((k = 3 ∧ (v.digestOk = false ∨ v.vendorOk = false ∨ (s.dev.sys.lc = 1 ∧ (b.owner = false ∨ v.ownerOk = false)))) ∨
             (k = 5 ∧ v.digestOk = true ∧ v.vendorOk = true ∧ s.dev.sys.lc ≠ 1 ∧ b.sec < fuseCount s.fuse.secVersion))) →
        ∃ t, exec (.bootImageVerify v) s = .next t ∧ t.dev.sys.stage = 5 ∧ t.dev.sys.haltCause = k ∧ t.dev.sys.cpUp = s.dev.sys.cpUp ∧
          t.fuse = s.fuse)) ∧
    (s.dev.sys.stage = 3 → s.dev.sys.cpUp = true → (rngServing s.dev = true ∨ s.dev.rng.failed = true) →
      (∀ bad, ∃ t, exec (.deviceReady [] none bad) s = .next t ∧ t.dev.sys.ready = true ∧ t.dev.sys.stage = 4 ∧
        (devFault s.dev = false → (devStatus t.dev).getLsbD 0 = true) ∧
        ∀ n, (sliceOf t.dev n).state = (if (sliceOf s.dev n).state ≠ .free ∧ ((sliceOf s.dev n).per.sound = false ∨ n ∈ bad) then .error
          else (sliceOf s.dev n).state)) ∧
      (∀ cls unit, unitExists s.dev cls unit = true → ∃ t, exec (.deviceReady [] (some (cls, unit)) []) s = .next t ∧
        t.dev.sys.stage = 6 ∧ t.dev.sys.haltCause = 4 ∧ t.dev.sys.ready = s.dev.sys.ready) ∧
      (∀ n, n < coreCount s.dev → ∃ t, exec (.deviceReady [(1, n)] none []) s = .next t ∧ t.dev.sys.ready = true ∧
        t.dev.fen.tc.getLsbD n = true ∧ t.dev.fen.atStart = 1))

/-- An activation drains the dispatched items, aborting them after its ceiling, makes the staged bank the active one, loads the cores,
steps the security fuse and restarts the CP, whose new image ends the activation (R93, R264, R445, R447). -/
def Obligations.ActivationsSwapBanks : Prop :=
  ∀ s : State, alive s.dev = true →
    (s.dev.fw.step = 2 →
      let ids := (dispatched s.dev).filter (fun id => (itemOf s.dev id).any (fun i => i.res.isNone && !i.abort))
      (ids ≠ [] → Does .activationDrainExpiry s (raise 0x7006 0xFFFF ids.length 0 (ids.foldl (fun d id => abortItem id d) s.dev))) ∧
      (ids = [] → exec .activationDrainExpiry s = .next s) ∧
      (dispatched s.dev = [] → devFault s.dev = false → s.dev.sys.ksk = true → exec .activationBankCommit s =
        .next { s with dev := { s.dev with fw := { s.dev.fw with active := some (inactiveBank s.dev.fw), step := 4 } } }) ∧
      (dispatched s.dev ≠ [] → exec .activationBankCommit s = .next s)) ∧
    (s.dev.fw.step = 4 → devFault s.dev = false → ∀ b, activeBank s.dev.fw = some b → fuseCount s.fuse.secVersion ≤ b.sec → b.sec ≤ 64 →
      ∃ t, exec (.activationLoadComplete []) s = .next t ∧ t.dev.fw.step = 8 ∧ t.dev.sys.cpUp = false ∧ t.dev.sys.cpRestart = true ∧
        t.dev.sys.cpActivation = true ∧ fuseCount t.fuse.secVersion = b.sec ∧ t.dev.fen = s.dev.fen ∧ t.dev.mg.migration = []) ∧
    (s.dev.sys.cpRestart = true → s.dev.sys.cpActivation = true → ∃ t, exec .cpRestartComplete s = .next t ∧ t.dev.sys.cpUp = true ∧
      t.dev.sys.cpActivation = false ∧ t.dev.fw.staging = .none ∧ t.dev.fw.step = 0 ∧ t.dev.fw.mailbox = none ∧
      t.dev.fw.active = s.dev.fw.active)

/-! ## The management mailboxes -/

/-- The handshake (R260, R261, R263, R266): `ACK` frees a DONE mailbox and is rejected in any other state; a request answered leaves its
mailbox DONE with the 32-byte header and the body in the response window; and a request that runs out of time is answered `ST_TIMEOUT` with
what it had begun given up, unless it waits for the pair, the RNG or the recorder. -/
def Obligations.MailboxHandshake : Prop :=
  ∀ (s : State) (m : Nat), m < 8 → barsOpen s.dev = true →
    (boxesServe s.dev = true → (mailboxOf s.dev m).state = .done → ∃ t, exec (.mbAck m) s = .next t ∧ t.fuse = s.fuse ∧
      t.dev.slices = s.dev.slices ∧ mailboxOf t.dev m = { mailboxOf s.dev m with state := .idle, ide := true } ∧
      ∀ k, k ≠ m → mailboxOf t.dev k = mailboxOf s.dev k) ∧
    (boxesServe s.dev = false ∨ (mailboxOf s.dev m).state = .busy → ∃ t, exec (.mbAck m) s = .next t ∧ t.fuse = s.fuse ∧
      t.dev.slices = s.dev.slices ∧ mailboxOf t.dev m = { mailboxOf s.dev m with rejected := true } ∧
      ∀ k, k ≠ m → mailboxOf t.dev k = mailboxOf s.dev k) ∧
    (∀ i r st body out c op q, r.m = m → Answers i s r st body out c → (mailboxOf c.d m).cur = some (op, q) → q.session = 0 →
      c.d.log.held = [] → ∃ t ev, exec i s = .next t ∧ t.fuse = c.f ∧ (mailboxOf t.dev m).state = .done ∧ (mailboxOf t.dev m).cur = none ∧
        (mailboxOf t.dev m).response = Mem.writeAll [] 0 (leBytes 2 st.code ++ leBytes 2 (opCode op) ++ leBytes 4 q.reqId
          ++ leBytes 4 body.length ++ leBytes 4 (if st = .ok then out.length else 0) ++ leBytes 4 (mailboxOf c.d m).qseq ++ leBytes 4 0
          ++ leBytes 8 ev ++ body)) ∧
    (boxesServe s.dev = true → (mailboxOf s.dev m).state = .busy → (mailboxOf s.dev m).cur.isSome = true →
      ((∀ n, (mailboxOf s.dev m).wait = .quiesce n → Does (.executionLimitExpiry m) s
        (answer m .timeout [] [] false (nextSeq s.dev) (leaveDrain m n s.dev))) ∧
      ((mailboxOf s.dev m).wait = .step ∨ (mailboxOf s.dev m).wait = .rng → exec (.executionLimitExpiry m) s = .next s)))

/-- Steps 1 to 7 of R268 in their order (R263 to R269, R274, R275): the first check that fails gives the status, and the request changes
nothing. A quorum-class request whose nonce passes has used it up, whether its signatures verify or not. -/
def Obligations.RequestsAreChecked : Prop :=
  ∀ (op : MOp) (q : MbReq) (s : State), q.spdm = none → q.mailbox < 8 → q.session = 0 → barsOpen s.dev = true → boxesServe s.dev = true →
    s.dev.hif.ideRequired = false → (mailboxOf s.dev q.mailbox).state = .idle → s.dev.log.held = [] →
    let away := fun (st : Status) => ∃ t, TurnsAway (rowOf op q) s q.mailbox st t
    let named := q.scope < 4096 ∨ q.scope = 0xFFFF
    let clean := q.rsv = 0 ∧ (q.inLen = 0 → q.inAddr = 0) ∧ (q.outCap = 0 → q.outAddr = 0)
    let sized := q.bodyLen ≤ 2000 ∧ q.inLen ≤ 65536 ∧ q.outCap ≤ 16777216 ∧ q.quorumLen ≤ q.bodyLen + q.inLen
    (¬ (named ∧ clean) → away .format) ∧
    (named → clean → ¬ sized → away .length) ∧
    (named → clean → sized → (q.quorumLen = 0 ∨ mayCarryQuorum op = true) →
      (s.dev.sys.lc = 2 → op ≠ .devInfo → op ≠ .logRead → away .lifecycle) ∧
      (s.dev.sys.lc ≠ 2 → s.dev.goose.lock = true → lockAllows op = false → away .locked) ∧
      (s.dev.sys.lc ≠ 2 → s.dev.goose.lock = false → s.dev.goose.eraseBegun = false → devFault s.dev = true → stopAllows op = false →
        away .fault) ∧
      (s.dev.sys.lc ≠ 2 → s.dev.goose.lock = false → s.dev.goose.eraseBegun = false → devFault s.dev = false → s.dev.sys.haltCause ≠ 4 →
        (q.inLen ≠ 0 → q.dmaFail ≠ none → away .dmaFault) ∧
        ((q.inLen = 0 ∨ q.dmaFail = none) →
          (classOf s.cx op q.scope = .session → Tab.find s.dev.mg.sessions 0 = none → away .session) ∧
          (classOf s.cx op q.scope = .quorum →
            (nonceOk s.dev q.mailbox q = false → away .nonce) ∧
            (nonceOk s.dev q.mailbox q = true → quorumFormOk q = true →
              (verifiedCount q < (officersOf s.dev (authorityOf s.cx op q.scope)).k ∨
                (officersOf s.dev (authorityOf s.cx op q.scope)).k < 2) →
              ∃ t, TurnsAway (rowOf op q) s q.mailbox .quorum t ∧ (mailboxOf t.dev q.mailbox).nonce = none ∧
                (mailboxOf t.dev q.mailbox).qseq = ((mailboxOf s.dev q.mailbox).qseq + 1) % 2 ^ 32)))))

/-- Device requests (R255, R256, R275, R276, R284 to R288): identity, a scheduled reset, the time, a nonce drawn from the CP's instance and
bound to its mailbox, the IDE policy, the RNG's known-answer tests and a raw-sample run; a reserved bit or value answers `ST_FORMAT`. -/
def Obligations.DeviceRequests : Prop :=
  ∀ (q : MbReq) (s : State) (r : Req) (c : Cx),
    (Admits .devInfo q s r c → r.inp = [] → Answers (.devInfo q) s r .ok (devInfoBody c) [] c) ∧
    (Admits .devReset q s r c → r.inp = [] → Answers (.devReset q) s r .ok [] []
      (c.mod (fun d => { d with sys := { d.sys with scheduled := some .devReset } }))) ∧
    (Admits .timeSet q s r c → r.inp.length = 8 → leAt r.inp 0 8 < 2 ^ 63 →
      let set := fun (d : Dev) => { d with sys := { d.sys with time := leAt r.inp 0 8, epoch := true } }
      (c.d.pair.state ≠ .paired → Answers (.timeSet q) s r .ok [] [] (c.mod set)) ∧
      (c.d.pair.state = .paired → c.d.pair.role ≠ .secondary →
        Answers (.timeSet q) s r .ok [] [] (c.mod (fun d => strait (.control (.setTime (leAt r.inp 0 8))) (set d)))) ∧
      (c.d.pair.state = .paired → c.d.pair.role = .secondary → Answers (.timeSet q) s r .pairRole [] [] c)) ∧
    (Admits .timeSet q s r c → r.inp.length = 8 → bitAt (leAt r.inp 0 8) 63 = true → Answers (.timeSet q) s r .format [] [] c) ∧
    (Admits .nonceGet q s r c → r.inp = [] →
      (c.d.rng.failed = true → Answers (.nonceGet q) s r .rngFail [] [] c) ∧
      (c.d.rng.failed = false → rngServing c.d = false → Waits (.nonceGet q) s r .rng c) ∧
      (rngServing c.d = true → r.m < 256 → Answers (.nonceGet q) s r .ok (drawBytes 32 c.d ++ leBytes 4 (mailboxOf c.d r.m).qseq) []
        (c.mod (fun d => modBox r.m (fun b => { b with nonce := some (drawBytes 32 d) }) (cpDraw 32 d)))) ∧
      (rngServing c.d = true → 256 ≤ r.m → Answers (.nonceGet q) s r .ok (drawBytes 32 c.d ++ leBytes 4 0) []
        (c.mod (fun d => modHif (fun h => { h with
          spdm := Tab.upd h.spdm (r.m - 256) {} (fun x => { x with nonce := some (drawBytes 32 d) }) }) (cpDraw 32 d))))) ∧
    (Admits .hifPolicySet q s r c → r.inp.length = 4 →
      (leAt r.inp 0 4 = 0 ∨ (leAt r.inp 0 4 = 1 ∧ r.q.ide = true) → Answers (.hifPolicySet q) s r .ok (leBytes 4 (leAt r.inp 0 4)) []
        (c.mod (modHif (fun h => { h with ideRequired := leAt r.inp 0 4 == 1 })))) ∧
      (leAt r.inp 0 4 = 1 → r.q.ide = false → Answers (.hifPolicySet q) s r .policy [] [] c) ∧
      (1 < leAt r.inp 0 4 → Answers (.hifPolicySet q) s r .format [] [] c)) ∧
    (∀ fails, Admits (.rngSelfTest fails) q s r c → r.inp.length = 4 → leAt r.inp 0 4 ≤ 3 →
      let sets := if leAt r.inp 0 4 = 0 then 3 else leAt r.inp 0 4
      (sets % 2 * (fails % 2) = 0 → sets / 2 * (fails / 2 % 2) = 0 → Answers (.rngSelfTest q fails) s r .ok (leBytes 4 sets) [] c) ∧
      (sets % 2 * (fails % 2) = 1 → Answers (.rngSelfTest q fails) s r .rngTest (leBytes 4 1) []
        (c.mod (fun d => failRng (raise 0x6006 0xFFFF 1 0 d)))) ∧
      (sets % 2 * (fails % 2) = 0 → sets / 2 * (fails / 2 % 2) = 1 → Answers (.rngSelfTest q fails) s r .rngTest (leBytes 4 2) []
        (c.mod (fun d => failRng (raise 0x6006 0xFFFF 2 0 d))))) ∧
    (∀ fails, Admits (.rngSelfTest fails) q s r c → r.inp.length = 4 → 3 < leAt r.inp 0 4 → Answers (.rngSelfTest q fails) s r .format [] [] c) ∧
    (Admits .rngRawSample q s r c → r.inp.length = 4 → (6 ≤ leAt r.inp 0 1 ∨ 1 < leAt r.inp 1 1) → Answers (.rngRawSample q) s r .format [] [] c) ∧
    (Admits .rngRawSample q s r c → r.inp.length = 4 → zeroFrom r.inp 2 4 = true → leAt r.inp 0 1 < 6 → leAt r.inp 1 1 ≤ 1 →
      rawLen (leAt r.inp 1 1) ≤ r.q.outCap →
      (c.d.rng.raw.isSome = true → Waits (.rngRawSample q) s r .raw c) ∧
      (c.d.rng.raw = none → Waits (.rngRawSample q) s r .raw (c.mod (fun d => raise 0x6004 (leAt r.inp 0 1) (leAt r.inp 0 1) (leAt r.inp 1 1)
        (modRng (fun g => { g with raw := some { mailbox := r.m, source := leAt r.inp 0 1, mode := leAt r.inp 1 1 } }) d)))))

/-- Sessions (R270, R271, R276): `SESSION_OPEN` answers its 200-byte reply with the ciphertext by DMA and opens a session of the Officer its
body names, whose 64 bytes of keys follow from the exchange; over SPDM it binds the session to the Officer; `SESSION_CLOSE` and 10 minutes
without a request end a session. -/
def Obligations.Sessions : Prop :=
  (∀ (q : MbReq) (s : State) (r : Req) (c : Cx), Admits (.sessionOpen true true) q s r c → r.m < 256 → r.inp.length = 1672 →
    zeroFrom r.inp 1 4 = true → zeroFrom r.inp 0x65 0x68 = true → leAt r.inp 4 1 = 4 → 1568 ≤ r.q.outCap → c.d.mg.sessions.length < 64 →
    (c.d.rng.failed = false → rngServing c.d = false → Waits (.sessionOpen q true true) s r .rng c) ∧
    (rngServing c.d = true → ∃ reply ct key c1, Answers (.sessionOpen q true true) s r .ok reply ct c1 ∧
      reply.length = 200 ∧ ct.length = 1568 ∧ key.length = 64 ∧ slice8 reply 0x64 4 = leBytes 4 c.d.mg.nextSession ∧ c1.f = c.f ∧
      c1.d.mg.nextSession = c.d.mg.nextSession + 1 ∧ c1.d.slices = c.d.slices ∧ c1.d.mg.boxes = c.d.mg.boxes ∧
      c1.d.rng.drawn = c.d.rng.drawn + 128 ∧
      c1.d.mg.sessions = Tab.put c.d.mg.sessions c.d.mg.nextSession
        { scope := r.q.scope, officer := leAt r.inp 0 1, key, used := c.d.sys.uptime })) ∧
  (∀ (q : MbReq) (s : State) (r : Req) (c : Cx) (e : Bool), Admits (.sessionOpen false e) q s r c → r.m < 256 → r.inp.length = 1672 →
    zeroFrom r.inp 1 4 = true → zeroFrom r.inp 0x65 0x68 = true → leAt r.inp 4 1 = 4 → 1568 ≤ r.q.outCap →
    Answers (.sessionOpen q false e) s r .pkPoint [] [] c) ∧
  (∀ (q : MbReq) (s : State) (r : Req) (c : Cx) (p e : Bool), Admits (.sessionOpen p e) q s r c → 256 ≤ r.m → r.inp.length = 4 →
    zeroFrom r.inp 1 4 = true → Answers (.sessionOpen q p e) s r .ok [] [] (c.mod (fun d => raise 0x3003 r.q.scope (leAt r.inp 0 1) 0
      (modHif (fun h => { h with
        spdm := Tab.upd h.spdm (r.m - 256) {} (fun x => { x with bound := some (r.q.scope, leAt r.inp 0 1) }) }) d)))) ∧
  (∀ (q : MbReq) (s : State) (r : Req) (c : Cx), Admits .sessionClose q s r c → r.inp = [] →
    (∀ x, r.m < 256 → Tab.find c.d.mg.sessions r.q.session = some x →
      Answers (.sessionClose q) s r .ok [] [] (c.mod (raise 0x3005 x.scope x.officer 0)) ∧
      (r.q.session ≠ 0 → (mailboxOf c.d r.m).cur = some (.sessionClose, r.q) →
        ∃ t, exec (.sessionClose q) s = .next t ∧ Tab.find t.dev.mg.sessions r.q.session = none)) ∧
    (∀ x b, 256 ≤ r.m → Tab.find c.d.hif.spdm (r.m - 256) = some x → x.bound = some b →
      Answers (.sessionClose q) s r .ok [] [] (c.mod (fun d => raise 0x3005 b.1 b.2 0 (modHif (fun h => { h with
        spdm := Tab.upd h.spdm (r.m - 256) {} (fun x => { x with bound := none }) }) d))))) ∧
  (∀ (s : State) (k : Nat) (x : Session), Tab.find s.dev.mg.sessions k = some x →
    ((∀ e ∈ s.dev.mg.boxes, e.2.state ≠ .busy) → Does (.sessionIdleExpiry k) s
      (raise 0x3005 x.scope x.officer 0 { s.dev with mg := { s.dev.mg with sessions := Tab.del s.dev.mg.sessions k } })) ∧
    (∀ m b op q, (m, b) ∈ s.dev.mg.boxes → b.state = .busy → b.cur = some (op, q) → q.session = k →
      exec (.sessionIdleExpiry k) s = .next s))

/-- Officer sets (R273, R279 to R281): enrolment adds keys that pass their checks, in index order; removal ends the sessions of the removed;
`QUORUM_SET` sets k between 2 and the number enrolled; each leaves 2 ≤ k ≤ n; and the list answers each member with its key's digest. -/
def Obligations.OfficerSets : Prop :=
  (∀ v, Mirrors (fun q => .officerEnroll q v) (.officerEnroll v)
    (fun n inp _ c =>
      let o := officersOf c.d n
      let most := if n = 0xFFFF then 16 else 8
      ∃ es, authOk n c ∧ 4 ≤ inp.length ∧ zeroFrom inp 2 4 = true ∧ 1 ≤ leAt inp 0 1 ∧ leAt inp 0 1 ≤ most ∧
        parseEntries (most - 1) (leAt inp 0 1) (inp.drop 4) = some es ∧ rising (es.map (·.index)) = true ∧
        (∀ x ∈ v.take (leAt inp 0 1), x = .good) ∧ (∀ e ∈ es, ∀ x ∈ o.members, x.index ≠ e.index) ∧
        2 ≤ orDefault (leAt inp 1 1) o.k ∧
        orDefault (leAt inp 1 1) o.k ≤ (es.foldl (fun l e => insertOfficer e l) o.members).length ∧
        (o.members = [] → leAt inp 1 1 ≠ 0))
    (fun n inp _ c =>
      let o := officersOf c.d n
      let es := (parseEntries ((if n = 0xFFFF then 16 else 8) - 1) (leAt inp 0 1) (inp.drop 4)).getD []
      c.mod (setOfficers n { k := orDefault (leAt inp 1 1) o.k, members := es.foldl (fun l e => insertOfficer e l) o.members }))
    (fun n inp _ c =>
      let o := officersOf c.d n
      let es := (parseEntries ((if n = 0xFFFF then 16 else 8) - 1) (leAt inp 0 1) (inp.drop 4)).getD []
      [byteOf (es.foldl (fun l e => insertOfficer e l) o.members).length, byteOf (orDefault (leAt inp 1 1) o.k)])
    noBytes) ∧
  Mirrors .officerRemove .officerRemove
    (fun n inp _ c =>
      let o := officersOf c.d n
      let left := o.members.filter (fun x => !bitAt (leAt inp 0 2) x.index)
      authOk n c ∧ inp.length = 4 ∧ zeroFrom inp 2 4 = true ∧
        (∀ i, i < 16 → bitAt (leAt inp 0 2) i = true → ∃ x ∈ o.members, x.index = i) ∧ 2 ≤ left.length ∧ o.k ≤ left.length)
    (fun n inp _ c =>
      let o := officersOf c.d n
      let left := o.members.filter (fun x => !bitAt (leAt inp 0 2) x.index)
      c.mod (fun d => endSessionsOf n (bitAt (leAt inp 0 2)) (setOfficers n { k := o.k, members := left } d)))
    (fun n inp _ c =>
      let o := officersOf c.d n
      [byteOf (o.members.filter (fun x => !bitAt (leAt inp 0 2) x.index)).length, byteOf o.k])
    noBytes ∧
  Mirrors .quorumSet .quorumSet
    (fun n inp _ c => authOk n c ∧ inp.length = 4 ∧ zeroFrom inp 1 4 = true ∧ 2 ≤ leAt inp 0 1 ∧
      leAt inp 0 1 ≤ (officersOf c.d n).members.length)
    (fun n inp _ c => c.mod (setOfficers n { k := leAt inp 0 1, members := (officersOf c.d n).members }))
    (fun n inp _ c => [byteOf (officersOf c.d n).members.length, byteOf (leAt inp 0 1)])
    noBytes ∧
  (∀ (q : MbReq) (s : State) (r : Req) (c : Cx), Admits .officerList q s r c → r.inp = [] → (r.q.scope < 4096 ∨ r.q.scope = 0xFFFF) →
    let o := officersOf c.d r.q.scope
    Answers (.officerList q) s r .ok ([byteOf o.members.length, byteOf o.k, 0, 0]
      ++ (o.members.map (fun x => [byteOf x.index, byteOf x.alg] ++ leBytes 2 x.key.length ++ sha384 x.key)).flatten) [] c)

/-! ## Slices -/

/-- A slice is quiesced, frozen, resumed, reported and saved (R298, R299, R305 to R307, R312, R317, R319). `SLICE_QUIESCE` closes intake at
once and waits for the drain; one that finds a drain under way waits with it; a slice that is QUIESCED or FROZEN answers zero counts. A frozen slice that
was saved resumes only where the request allows it. A Ferry image is the 64-byte header, the sections and a 16-byte tag, and uses up its
migration key. -/
def Obligations.SliceRequests : Prop :=
  ∀ (q : MbReq) (s : State) (r : Req) (c : Cx) (n : Nat), r.q.scope = n → n < 4096 →
    (Admits .sliceQuiesce q s r c → r.inp = [] →
      ((sliceOf c.d n).state = .quiesced ∨ (sliceOf c.d n).state = .frozen →
        Answers (.sliceQuiesce q) s r .ok (List.replicate 16 0) [] c) ∧
      ((sliceOf c.d n).state = .active → (∀ dr, (sliceOf c.d n).drain = some dr → Waits (.sliceQuiesce q) s r (.quiesce n)
          (c.mod (modSlice n (fun x => { x with drain := some { dr with mailboxes := dr.mailboxes ++ [r.m] } })))) ∧
        ((sliceOf c.d n).drain = none → Waits (.sliceQuiesce q) s r (.quiesce n)
          (c.mod (fun d => checkDrained n (modSlice n (fun x => { x with
            intake := false, drain := some { mailboxes := [r.m], start := d.sys.uptime, last := d.sys.uptime } }) d))))) ∧
      ((sliceOf c.d n).state = .free ∨ (sliceOf c.d n).state = .bound ∨ (sliceOf c.d n).state = .error →
        Answers (.sliceQuiesce q) s r .sliceState [] [] c)) ∧
    (Admits .sliceFreeze q s r c → r.inp = [] →
      ((sliceOf c.d n).state = .quiesced → Answers (.sliceFreeze q) s r .ok [] []
        (c.mod (fun d => raise 0x4005 n 0 0 (modSlice n (fun x => { x with state := .frozen, saved := false }) d)))) ∧
      ((sliceOf c.d n).state ≠ .quiesced → Answers (.sliceFreeze q) s r .sliceState [] [] c)) ∧
    (Admits .sliceResume q s r c → r.inp.length = 4 → leAt r.inp 0 4 ≤ 1 →
      ((sliceOf c.d n).state = .quiesced ∨ (sliceOf c.d n).state = .frozen →
        ((sliceOf c.d n).state = .quiesced ∨ (sliceOf c.d n).saved = false ∨ leAt r.inp 0 4 = 1 → Answers (.sliceResume q) s r .ok [] []
          (c.mod (fun d => raise 0x4006 n (leAt r.inp 0 4) 0 (modSlice n (fun x => { x with
            state := .active, saved := false, intake := true }) d)))) ∧
        ((sliceOf c.d n).state = .frozen → (sliceOf c.d n).saved = true → leAt r.inp 0 4 = 0 →
          Answers (.sliceResume q) s r .sliceState [] [] c)) ∧
      ((sliceOf c.d n).state = .free ∨ (sliceOf c.d n).state = .bound ∨ (sliceOf c.d n).state = .active ∨ (sliceOf c.d n).state = .error →
        Answers (.sliceResume q) s r .sliceState [] [] c)) ∧
    (Admits .sliceStatus q s r c → r.inp = [] → ∃ body, Answers (.sliceStatus q) s r .ok body [] c ∧ body.length = 48 ∧
      let x := sliceOf c.d n
      slice8 body 0 1 = [byteOf x.state.code] ∧ slice8 body 4 4 = leBytes 4 x.per.pasid ∧ slice8 body 8 2 = leBytes 2 x.per.flowQuota ∧
      slice8 body 12 4 = leBytes 4 x.per.cacheGuar ∧ slice8 body 16 4 = leBytes 4 x.per.cacheCeil ∧
      slice8 body 36 4 = leBytes 4 x.per.policy) ∧
    (Admits .sliceSave q s r c → r.inp.length = 4 → (sliceOf c.d n).state = .frozen → (sliceOf c.d n).per.migratable = true →
      (migOf c.d .outgoing (leAt r.inp 0 4) none = none → Answers (.sliceSave q) s r .policy [] [] c) ∧
      (∀ k e, migOf c.d .outgoing (leAt r.inp 0 4) none = some (k, e) →
        let body := ((sections c.d n).map (fun x => section8 x.1 x.2)).flatten
        let head := ferryHeader c.d n (sections c.d n).length body.length e.partner e.keyId (drawBytes 12 c.d)
        64 + body.length + 16 ≤ r.q.outCap → rngServing c.d = true →
        Answers (.sliceSave q) s r .ok (leBytes 4 (64 + body.length + 16))
          (head ++ beBytes (body.length + 16) (Config.sealed e.key (drawBytes 12 c.d) head body))
          (c.mod (fun d => raise 0x4009 n e.keyId (64 + body.length + 16)
            (delMig k (modSlice n (fun x => { x with saved := true }) (cpDraw 12 d)))))))

/-- The life of a slice (R289, R300 to R304, R308, R309, R320): each mirrored command's step has its effect at its commit, in the states R298 gives,
within the totals of PASIDs, flow contexts and cache entries. A slice is created BOUND, activated with a fresh pair of indexes for each
configured ring pair, reset to BOUND and removed; a restored slice is BOUND with what the image carries. -/
def Obligations.SlicesAreMirrored : Prop :=
  Mirrors .sliceCreate .sliceCreate
    (fun n inp _ c =>
      let fl := leAt inp 16 1
      let quota := orDefault (leAt inp 4 2) 16
      let guar := if bitAt fl 1 then leAt inp 8 4 else orDefault (leAt inp 8 4) 16
      let ceil := orDefault (leAt inp 12 4) 4096
      let fly := orDefault (leAt inp 6 2) 512
      n < 4096 ∧ inp.length = 20 ∧ zeroFrom inp 17 20 = true ∧ pasidOk (leAt inp 0 4) = true ∧ quota ≤ 4096 ∧ 16 ≤ fly ∧ fly ≤ 4096 ∧
        guar ≤ 4096 ∧ (bitAt fl 1 = true → guar = 0) ∧ 16 ≤ ceil ∧ ceil ≤ 131072 ∧ guar ≤ ceil ∧ fl < 8 ∧
        (sliceOf c.d n).state = .free ∧ pasidTaken c.d n (leAt inp 0 4) = false ∧ flowTotal c.d n + quota ≤ 65536 ∧
        guarTotal c.d n + guar ≤ 65536)
    (fun n inp _ c =>
      let fl := leAt inp 16 1
      let p : SliceRec := ⟨leAt inp 0 4, orDefault (leAt inp 4 2) 16, orDefault (leAt inp 6 2) 512,
        if bitAt fl 1 then leAt inp 8 4 else orDefault (leAt inp 8 4) 16, orDefault (leAt inp 12 4) 4096, bitAt fl 0, bitAt fl 1, bitAt fl 2,
        0, [], {}, [], none, [], [], none, none, true⟩
      c.mod (fun d => raise 0x4001 n (leAt inp 0 4) fl (modSlice n (fun x => { irq := x.irq, per := p, state := .bound }) d)))
    noBytes noBytes ∧
  Mirrors .sliceBind .sliceBind
    (fun n inp _ c => n < 4096 ∧ inp.length = 4 ∧ pasidOk (leAt inp 0 4) = true ∧ pasidTaken c.d n (leAt inp 0 4) = false ∧
      ((sliceOf c.d n).state = .bound ∨ (sliceOf c.d n).state = .quiesced ∨ (sliceOf c.d n).state = .frozen))
    (fun n inp _ c => c.mod (fun d => raise 0x4002 n (leAt inp 0 4) (sliceOf d n).per.pasid
      (modPer n (fun p => { p with pasid := leAt inp 0 4 }) d)))
    noBytes noBytes ∧
  Mirrors .sliceRingSetup .sliceRingSetup
    (fun n inp _ c =>
      let lg := leAt inp 1 1
      n < 4096 ∧ inp.length = 24 ∧ zeroFrom inp 2 8 = true ∧ leAt inp 0 1 ≤ 7 ∧ (lg = 0 ∨ (6 ≤ lg ∧ lg ≤ 16)) ∧
        leAt inp 8 8 % 4096 = 0 ∧ leAt inp 16 8 % 4096 = 0 ∧ (lg = 0 → leAt inp 8 8 = 0 ∧ leAt inp 16 8 = 0) ∧
        (lg ≠ 0 → leAt inp 8 8 + 128 * 2 ^ lg ≤ 2 ^ 64 ∧ leAt inp 16 8 + 64 * 2 ^ lg ≤ 2 ^ 64) ∧ (sliceOf c.d n).state = .bound)
    (fun n inp _ c => c.mod (fun d => modSlice n (fun x => { x with
      per := { x.per with rings := setRing x.per.rings (leAt inp 0 1) ⟨leAt inp 1 1, leAt inp 8 8, leAt inp 16 8⟩ }
      rings := Tab.del x.rings (leAt inp 0 1) }) d))
    noBytes noBytes ∧
  Mirrors .sliceActivate .sliceActivate
    (fun n inp _ c => n < 4096 ∧ inp = [] ∧ (sliceOf c.d n).state = .bound ∧ configured (sliceOf c.d n) ≠ [])
    (fun n _ _ c => c.mod (fun d => raise 0x4003 n (maskOf (configured (sliceOf c.d n))) 0 (modSlice n (fun x => { x with
      state := .active, intake := true, rings := (configured (sliceOf c.d n)).map (fun k => (k, { enabled := true })) }) d)))
    noBytes noBytes ∧
  Mirrors .slicePolicySet .slicePolicySet
    (fun n inp _ c => thawed n c ∧ inp.length = 4 ∧ leAt inp 0 2 ≤ 1 ∧ 16 ≤ orDefault (leAt inp 2 2) 512 ∧
      orDefault (leAt inp 2 2) 512 ≤ 4096)
    (fun n inp _ c => c.mod (modPer n (fun p => { p with
      urgentOk := bitAt (leAt inp 0 1) 0, inflight := orDefault (leAt inp 2 2) 512 })))
    noBytes noBytes ∧
  Mirrors .tenantPolicySet .tenantPolicySet
    (fun n inp _ c => thawed n c ∧ inp.length = 4 ∧ leAt inp 0 4 < 8)
    (fun n inp _ c => c.mod (modPer n (fun p => { p with policy := leAt inp 0 4 })))
    noBytes noBytes ∧
  Mirrors .sliceReset .sliceReset
    (fun n inp _ c => n < 4096 ∧ inp = [] ∧ inflight (sliceOf c.d n) = 0 ∧ ((sliceOf c.d n).state = .quiesced ∨
      (sliceOf c.d n).state = .frozen ∨ ((sliceOf c.d n).state = .error ∧ (sliceOf c.d n).per.sound = true)))
    (fun n _ _ c => c.mod (fun d => raise 0x4007 n (sliceOf c.d n).state.code 0
      (modSlice n (fun x => { irq := x.irq, per := x.per, state := .bound, nextHandle := x.nextHandle })
        (dropFlows n (dropCache n (purgeItems n d))))))
    noBytes noBytes ∧
  Mirrors .sliceRemove .sliceRemove
    (fun n inp _ c => n < 4096 ∧ inp = [] ∧ inflight (sliceOf c.d n) = 0 ∧ ((sliceOf c.d n).state = .quiesced ∨
      (sliceOf c.d n).state = .frozen ∨ (sliceOf c.d n).state = .error))
    (fun n _ _ c => c.mod (fun d => raise 0x4008 n (sliceOf c.d n).state.code 0 (removeSlice n d)))
    noBytes noBytes ∧
  (∀ body, Mirrors (fun q => .sliceRestore q body true) (.sliceRestore body true)
    (fun n inp _ c => ∃ k e p flows, n < 4096 ∧ imageFormOk { force := false, scope := n, inp := inp } = true ∧
      leAt inp 28 8 = c.d.sys.serial ∧ migOf c.d .incoming (leAt inp 36 4) (some (leAt inp 20 8)) = some (k, e) ∧
      parseImage (leAt inp 0 4) (leAt inp 16 2) (fit body (leAt inp 40 4)) = some (p, flows) ∧ pasidOk (leAt inp 0 4) = true ∧
      pasidTaken c.d n (leAt inp 0 4) = false ∧ flows ≤ p.flowQuota ∧ flowTotal c.d n + p.flowQuota ≤ 65536 ∧
      guarTotal c.d n + p.cacheGuar ≤ 65536 ∧ (sliceOf c.d n).state = .free)
    (fun n inp _ c =>
      let img := (parseImage (leAt inp 0 4) (leAt inp 16 2) (fit body (leAt inp 40 4))).getD ({}, 0)
      c.mod (fun d => raise 0x400A n (leAt inp 36 4) (leAt inp 14 2) (newSlice n img.1
        (match migOf c.d .incoming (leAt inp 36 4) (some (leAt inp 20 8)) with
          | some (k, _) => delMig k d
          | none => d))))
    noBytes noBytes)

/-! ## Master keys, curves and slots through the mailboxes -/

/-- Components of a master key (R290 to R292): a component is staged for its part under its Officer, at most eight in a slice and one of an Officer for
a part, and answered with the number staged and its check value; `LMK_INFO` answers 11 bytes for each of the four generations. A slot imports a key block
looked up as kind 1, or is deleted; either waits in the commit path under the result it will have (R296). -/
def Obligations.ComponentsAndSlots : Prop :=
  (∀ (q : MbReq) (s : State) (r : Req) (c : Cx) (n : Nat), r.q.scope = n → n < 4096 → (sliceOf c.d n).state ≠ .free →
    (∀ g part, Admits .lmkComponentLoad q s r c → r.inp.length = 36 → leAt r.inp 0 1 = g → leAt r.inp 1 1 = part → g < 4 → part < 2 →
      leAt r.inp 2 1 < 2 → zeroFrom r.inp 3 4 = true → (part = 1 → zeroFrom r.inp 28 36 = true) →
      (lmkPart (lmkOf (sliceOf c.d n).per g) part).isSome = true → Answers (.lmkComponentLoad q) s r .keyOccupied [] [] c) ∧
    (∀ g part, Admits .lmkComponentLoad q s r c → r.inp.length = 36 → leAt r.inp 0 1 = g → leAt r.inp 1 1 = part → g < 4 → part < 2 →
      leAt r.inp 2 1 < 2 → zeroFrom r.inp 3 4 = true → (part = 1 → zeroFrom r.inp 28 36 = true) →
      lmkPart (lmkOf (sliceOf c.d n).per g) part = none → (part = 1 → (lmkOf (sliceOf c.d n).per g).aes.isSome = true) →
      let old := (sliceOf c.d n).staged.filter (fun x => leAt r.inp 2 1 == 0 || x.gen != g || x.part != part)
      let mine := old.filter (fun x => x.gen == g && x.part == part)
      let comp := slice8 r.inp 4 (lmkLen part)
      (old.length < 8 → (∀ x ∈ mine, x.officer ≠ r.officer) → Answers (.lmkComponentLoad q) s r .ok
        ([byteOf (mine.length + 1)] ++ lmkCheck part comp ++ [byteOf r.officer]) []
        (c.mod (modSlice n (fun x => { x with
          staged := old ++ [⟨g, part, r.officer, comp⟩] })))) ∧
      (8 ≤ old.length ∨ (∃ x ∈ mine, x.officer = r.officer) → Answers (.lmkComponentLoad q) s r .policy [] [] c)) ∧
    (Admits .lmkInfo q s r c → r.inp.length = 1 → leAt r.inp 0 1 < 4 → Answers (.lmkInfo q) s r .ok
      ((List.range 4).map (fun g =>
        let x := lmkOf (sliceOf c.d n).per g
        [byteOf (bitOf x.aes.isSome 0 + bitOf x.tdes.isSome 1 + bitOf ((sliceOf c.d n).per.lmkActive == some g) 2
            + bitOf ((sliceOf c.d n).staged.any (·.gen == g)) 3)]
          ++ ((x.aes.map (lmkCheck 0)).getD (List.replicate 5 0)) ++ ((x.tdes.map (lmkCheck 1)).getD (List.replicate 5 0)))).flatten [] c)) ∧
  (∀ (q : MbReq) (s : State) (r : Req) (c : Cx) (n : Nat), r.q.scope = n → thawed n c → leAt r.inp 0 1 < 64 →
    (Admits .slotDelete q s r c → r.inp.length = 4 → zeroFrom r.inp 1 4 = true →
      (∀ st, slotCheck c.d n (.slotDelete (leAt r.inp 0 1)) = some st → Answers (.slotDelete q) s r st [] [] c) ∧
      (slotCheck c.d n (.slotDelete (leAt r.inp 0 1)) = none → Waits (.slotDelete q) s r .step
        (c.mod (submit { slice := n, kind := .slotDelete (leAt r.inp 0 1) } (.mailbox r.m)
          { status := .ok, fixed := List.replicate 32 0 })))) ∧
    (∀ t k d, Admits .slotImport q s r c → blockExtent r.inp 4 = .ok t → t.length + 4 = r.inp.length → leAt r.inp 1 1 < 2 →
      leAt r.inp 2 1 ≤ 1 → zeroFrom r.inp 3 4 = true →
      Reads (lookup (cpCtx n) (2 ^ 60 + n * 2 ^ 48 + 4) r.inp [1] (needs (fun a => !asymmetric a.alg))) c.d k d → slotFits k.key = true →
      slotCheck d n (.slotWrite (leAt r.inp 0 1) k.key (ceilingOf k.key.attr) (bitAt (leAt r.inp 1 1) 0)) = none →
      Waits (.slotImport q) s r .step ⟨submit
        { slice := n, kind := .slotWrite (leAt r.inp 0 1) k.key (ceilingOf k.key.attr) (bitAt (leAt r.inp 1 1) 0) } (.mailbox r.m)
        { status := .ok, fixed := keyResult (n * 2 ^ 48 + leAt r.inp 0 1) 0 (kcv (leAt r.inp 2 1) k.key) } d, c.f⟩))

/-- Master keys, TR-34 and curves (R213, R214, R216, R290 to R295): each mirrored command's step has its effect at its commit. A commit joins the components
by exclusive-OR and discards their staging; the first AES part of a slice becomes active; the active generation is not removed; a token that
fails a check is refused with `ST_TOKEN`, nothing of it loaded, under a cause that is a free value (assumption 11); and a curve is loaded with its
tag. -/
def Obligations.MasterKeysAndCurves : Prop :=
  Mirrors .lmkCommit .lmkCommit
    (fun n inp dat c =>
      let g := leAt inp 0 1
      let part := leAt inp 1 1
      let staged := (stagedFor (sliceOf c.d n) g part).length
      thawed n c ∧ inp.length = 9 ∧ g < 4 ∧ part < 2 ∧ zeroFrom inp 3 4 = true ∧ 2 ≤ staged ∧ staged = leAt inp 2 1 ∧
        (zeroFrom inp 4 9 = true ∨ slice8 inp 4 5 = lmkCheck part dat) ∧ (part = 1 → dat.take 8 ≠ (dat.drop 8).take 8))
    (fun n inp dat c => c.mod (fun d => discardStaged n (leAt inp 0 1) (leAt inp 1 1)
      (modPer n (loadPart (leAt inp 0 1) (leAt inp 1 1) dat) d)))
    (fun _ inp dat _ => lmkCheck (leAt inp 1 1) dat) noBytes ∧
  Mirrors .lmkActivate .lmkActivate
    (fun n inp _ c => thawed n c ∧ inp.length = 1 ∧ leAt inp 0 1 < 4 ∧ (lmkOf (sliceOf c.d n).per (leAt inp 0 1)).aes.isSome = true)
    (fun n inp _ c => c.mod (modPer n (fun p => { p with lmkActive := some (leAt inp 0 1) }))) noBytes noBytes ∧
  Mirrors .lmkRemove .lmkRemove
    (fun n inp _ c => thawed n c ∧ inp.length = 1 ∧ leAt inp 0 1 < 4 ∧ (sliceOf c.d n).per.lmkActive ≠ some (leAt inp 0 1))
    (fun n inp _ c => c.mod (fun d => dropGeneration n (leAt inp 0 1) (modPer n (setLmk (leAt inp 0 1) {}) d))) noBytes noBytes ∧
  (∀ v, Mirrors (fun q => .lmkTr34Load q v) (.lmkTr34Load v)
    (fun n inp dat c =>
      let g := leAt inp 0 1
      let part := leAt inp 1 1
      thawed n c ∧ 5 ≤ inp.length ∧ inp.length ≤ 16388 ∧ g < 4 ∧ part < 2 ∧ leAt inp 2 1 < 2 ∧ zeroFrom inp 3 4 = true ∧
        lmkPart (lmkOf (sliceOf c.d n).per g) part = none ∧ (part = 1 → (lmkOf (sliceOf c.d n).per g).aes.isSome = true) ∧ dat ≠ [])
    (fun n inp dat c => c.mod (modPer n (loadPart (leAt inp 0 1) (leAt inp 1 1) dat))) noBytes noBytes) ∧
  (∀ pub, Mirrors (fun q => .tr34KrdInit q pub) (.krdInit pub)
    (fun n inp _ c => thawed n c ∧ inp = [])
    (fun n _ _ c => c.mod (modPer n (fun p => { p with krd := some (fit pub 1960) }))) noBytes
    (fun n _ _ c => fit pub 1960
      ++ beBytes 96 (Config.deviceSign (attestSlot c.d) (sha384 (leBytes 8 c.d.sys.serial ++ leBytes 2 n ++ fit pub 1960))))) ∧
  Mirrors (fun q => .tr34AnchorSet q true) (.anchorSet true)
    (fun n inp _ c => thawed n c ∧ inp ≠ [] ∧ inp.length ≤ 4096)
    (fun n inp _ c => c.mod (modPer n (fun p => { p with anchor := some inp }))) noBytes noBytes ∧
  Mirrors (fun q => .curveLoad q .good) (.curveLoad .good)
    (fun n inp _ c =>
      let l := leAt inp 2 1
      let w := bitLen (beNat ((slice8 inp 4 (6 * l)).take l))
      thawed n c ∧ inp.length = 5 + 6 * l ∧ leAt inp 0 1 < 4 ∧ leAt inp 1 1 = 1 ∧ 32 ≤ l ∧ l ≤ 66 ∧ zeroFrom inp 3 4 = true ∧ 256 ≤ w ∧
        w ≤ 521 ∧ l = (w + 7) / 8 ∧ leAt inp (4 + 6 * l) 1 = 1)
    (fun n inp _ c =>
      let l := leAt inp 2 1
      let ps := slice8 inp 4 (6 * l)
      c.mod (modPer n (fun p => { p with curves := Tab.put p.curves (leAt inp 0 1) ⟨l, ps, (Machine.digest 3 (ps ++ [1])).take 8⟩ })))
    (fun _ inp _ _ =>
      let l := leAt inp 2 1
      let ps := slice8 inp 4 (6 * l)
      (Machine.digest 3 (ps ++ [1])).take 8 ++ leBytes 2 (bitLen (beNat (ps.take l))) ++ [0, 0])
    noBytes ∧
  Mirrors .curveClear .curveClear
    (fun n inp _ c => thawed n c ∧ inp.length = 4 ∧ leAt inp 0 1 < 4 ∧ leAt inp 1 1 = 0 ∧ zeroFrom inp 2 4 = true)
    (fun n inp _ c => c.mod (modPer n (fun p => { p with curves := Tab.del p.curves (leAt inp 0 1) }))) noBytes noBytes ∧
  (∀ (v : TokenVerdict) (q : MbReq) (s : State) (r : Req) (c : Cx), Admits (.lmkTr34Load v) q s r c → thawed r.q.scope c →
    5 ≤ r.inp.length → r.inp.length ≤ 16388 → leAt r.inp 0 1 < 4 → leAt r.inp 1 1 < 2 → leAt r.inp 2 1 < 2 → zeroFrom r.inp 3 4 = true →
    lmkPart (lmkOf (sliceOf c.d r.q.scope).per (leAt r.inp 0 1)) (leAt r.inp 1 1) = none →
    (leAt r.inp 1 1 = 1 → (lmkOf (sliceOf c.d r.q.scope).per (leAt r.inp 0 1)).aes.isSome = true) →
    (v.ok = false ∨ v.usageOk = false ∨ v.random ≠ r.q.nonce ∨ (sliceOf c.d r.q.scope).per.krd = none ∨
      (sliceOf c.d r.q.scope).per.anchor = none) →
    Answers (.lmkTr34Load q v) s r .token [] []
      (c.mod (fun d => raise 0x3010 r.q.scope (Config.freeNat (nextSeq d)) 0 d)))

/-- Migration keys (R315, R316): in CLOSED, an offer takes a free entry of the table of 16 under the next key identifier, an answer to a good offer makes
the outgoing key and its reply, a good reply to an offer of this device makes the incoming key; each checks the other device's message in the order of
R315; and an entry goes when its time runs out. What a message seals and signs is uninterpreted (assumption 10). -/
def Obligations.MigrationKeys : Prop :=
  (∀ (q : MbReq) (s : State) (r : Req) (c : Cx), Admits .migOffer q s r c → c.d.sys.lc = 1 → r.inp = [0, 0, 0, 0] →
    1679 + (slotChain 1).length + 96 ≤ r.q.outCap →
    (freeMig c.d = none → Answers (.migrationKeyOffer q) s r .busy [] [] c) ∧
    (∀ k, freeMig c.d = some k → rngServing c.d = true →
      let head := migHead c.d.mg.nextKeyId c.d.sys.serial (0x04 :: beBytes 96 (Config.ephemeral 1 c.d.rng.drawn))
        (beBytes 1568 (Config.ephemeral 3 c.d.rng.drawn))
      Answers (.migrationKeyOffer q) s r .ok [] (head ++ beBytes 96 (Config.deviceSign 1 (sha384 head)))
        (c.mod (fun d =>
          let d1 := cpDraw 128 d
          setMig k { keyId := d.mg.nextKeyId, role := .offered, key := head }
            { d1 with mg := { d1.mg with nextKeyId := (d.mg.nextKeyId + 1) % 2 ^ 32 } })))) ∧
  (∀ (v : MigVerdict) (q : MbReq) (s : State) (r : Req) (c : Cx), Admits (.migAccept v) q s r c → c.d.sys.lc = 1 →
    leAt r.inp 0 1 = 1 →
    let msg := r.inp.drop 4
    (migFormOk r = false → Answers (.migrationKeyAccept q v) s r .format [] [] c) ∧
    (migFormOk r = true → v.chainOk = false → Answers (.migrationKeyAccept q v) s r .policy [] [] c) ∧
    (migFormOk r = true → v.chainOk = true → v.sigOk = false → Answers (.migrationKeyAccept q v) s r .signature [] [] c) ∧
    (migFormOk r = true → v = ⟨true, true, true, true⟩ → leAt msg 4 8 ≠ c.d.sys.serial →
      1679 + (slotChain 1).length + 96 ≤ r.q.outCap → ∀ k, freeMig c.d = some k → rngServing c.d = true →
      let head := migHead (leAt msg 0 4) c.d.sys.serial (0x04 :: beBytes 96 (Config.ephemeral 1 c.d.rng.drawn))
        (beBytes 1568 (Config.ephemeral 2 c.d.rng.drawn))
      Answers (.migrationKeyAccept q v) s r .ok [] (head ++ beBytes 96 (Config.deviceSign 1 (sha384 (msg ++ head))))
        (c.mod (fun d => setMig k { keyId := leAt msg 0 4, role := .outgoing, partner := leAt msg 4 8,
                                    key := migKey msg head d.sys.serial (leAt msg 4 8) (leAt msg 0 4) } (cpDraw 128 d))))) ∧
  (∀ (v : MigVerdict) (q : MbReq) (s : State) (r : Req) (c : Cx), Admits (.migComplete v) q s r c → c.d.sys.lc = 1 →
    leAt r.inp 0 1 = 2 → migFormOk r = true → v.chainOk = true → v.sigOk = true →
    let msg := r.inp.drop 4
    (v.pointOk = false → Answers (.migrationKeyComplete q v) s r .pkPoint [] [] c) ∧
    (v.pointOk = true → migOf c.d .offered (leAt msg 0 4) none = none → Answers (.migrationKeyComplete q v) s r .policy [] [] c) ∧
    (∀ k e, v.pointOk = true → migOf c.d .offered (leAt msg 0 4) none = some (k, e) →
      Answers (.migrationKeyComplete q v) s r .ok [] []
        (c.mod (setMig k { keyId := leAt msg 0 4, role := .incoming, partner := leAt msg 4 8,
                           key := migKey e.key msg (leAt msg 4 8) c.d.sys.serial (leAt msg 0 4) })))) ∧
  (∀ (q : MbReq) (s : State) (r : Req) (c : Cx), Admits .migOffer q s r c → c.d.sys.lc ≠ 1 →
    Answers (.migrationKeyOffer q) s r .lifecycle [] [] c) ∧
  (∀ (s : State) (k : Nat), k < 16 → Does (.migrationKeyExpiry k) s
    { s.dev with mg := { s.dev.mg with migration := Tab.del s.dev.mg.migration k } })

/-! ## Log and counters through the mailboxes -/

/-- The event log (R410 to R413): a read answers the range it returns and its counts, with 32 bytes for each entry; a clear sets the clear mark to the next
number and records itself under it; a rate is set, or restored by zeros, with a full bucket, for rate-limited classes alone, and a value out of range answers `ST_FORMAT`. -/
def Obligations.LogRequests : Prop :=
  ∀ (q : MbReq) (s : State) (r : Req) (c : Cx),
    (Admits .logRead q s r c → r.inp.length = 16 →
      (logReadOk r.inp = true → 32 * leAt r.inp 4 4 ≤ r.q.outCap → (readLog c.d.sys.cpUp (leAt r.inp 0 1) (leAt r.inp 4 4) (leAt r.inp 8 8) c.d).1.length
          ≤ r.q.outCap → Answers (.logRead q) s r .ok (readLog c.d.sys.cpUp (leAt r.inp 0 1) (leAt r.inp 4 4) (leAt r.inp 8 8) c.d).2
            (readLog c.d.sys.cpUp (leAt r.inp 0 1) (leAt r.inp 4 4) (leAt r.inp 8 8) c.d).1 c) ∧
      (logReadOk r.inp = false → Answers (.logRead q) s r .format [] [] c) ∧
      (logReadOk r.inp = true → r.q.outCap < 32 * leAt r.inp 4 4 → Answers (.logRead q) s r .length [] [] c)) ∧
    (Admits .logClear q s r c → r.inp = [0, 0, 0, 0] →
      let low := max c.d.log.clearMark (nextSeq c.d - 262144)
      let marked := { c.d with log := { c.d.log with clearMark := nextSeq c.d } }
      (low < nextSeq c.d → Answers (.logClear q) s r .ok [] [] ⟨raise 0xA002 0xFFFF low (sat 0xFFFFFFFF (nextSeq c.d - low)) marked, c.f⟩) ∧
      (nextSeq c.d ≤ low → Answers (.logClear q) s r .ok [] [] ⟨raise 0xA002 0xFFFF (nextSeq c.d) 0 marked, c.f⟩)) ∧
    (Admits .logRateSet q s r c → r.inp.length = 8 → zeroFrom r.inp 6 8 = true →
      (4096 < leAt r.inp 2 2 ∨ 4096 < leAt r.inp 4 2 ∨ ¬ (leAt r.inp 2 2 = 0 ↔ leAt r.inp 4 2 = 0)) →
      Answers (.logRateSet q) s r .format [] [] c) ∧
    (Admits .logRateSet q s r c → r.inp.length = 8 → zeroFrom r.inp 6 8 = true →
      let code := leAt r.inp 0 2
      let rate := leAt r.inp 2 2
      let burst := leAt r.inp 4 2
      rate ≤ 4096 → burst ≤ 4096 → (rate = 0 ↔ burst = 0) →
      (rateLimited code = false → Answers (.logRateSet q) s r .policy [] [] c) ∧
      (rateLimited code = true → rate ≠ 0 → Answers (.logRateSet q) s r .ok [] [] (c.mod (fun d =>
        raise 0xA003 0xFFFF code (rate * 65536 + burst) { d with log := { d.log with
          rates := Tab.put d.log.rates code (rate, burst), spent := Tab.del d.log.spent code } }))) ∧
      (rateLimited code = true → rate = 0 → Answers (.logRateSet q) s r .ok [] [] (c.mod (fun d =>
        raise 0xA003 0xFFFF code (32 * 65536 + 256) { d with log := { d.log with
          rates := Tab.del d.log.rates code, spent := Tab.del d.log.spent code } }))))

/-- Performance counters (R417, R419 to R422): a counter is selected with its filters, read and cleared, granted to a slice and revoked; a granted
counter is read and not cleared, and counts its slice alone; monitors take a window, and the dump engine its ring. -/
def Obligations.CounterRequests : Prop :=
  ∀ (q : MbReq) (s : State) (r : Req) (c : Cx),
    (Admits .ctrSelect q s r c → r.inp.length = 32 →
      let n := leAt r.inp 0 2
      let fl := leAt r.inp 2 1
      let old := ctrOf c.d n
      let evs := admitted (leAt r.inp 4 2) (leAt r.inp 6 2)
      n < 256 → fl < 16 → 1 ≤ leAt r.inp 3 1 → leAt r.inp 3 1 < 8 → leAt r.inp 8 2 < 1024 → leAt r.inp 10 2 < 1024 → leAt r.inp 12 2 < 4096 →
      zeroFrom r.inp 14 16 = true → zeroFrom r.inp 29 32 = true →
      (evs = [] → Answers (.ctrSelect q) s r .format [] [] c) ∧
      (evs ≠ [] → (bitAt fl 3 = true → (∀ e ∈ evs, e / 4096 = 4) ∧ leAt r.inp 16 8 % 4096 = 0 ∧ 1 ≤ leAt r.inp 24 4) →
        (old.grant.isSome = true → (∃ e ∈ evs, carriesSlice e = false) → Answers (.ctrSelect q) s r .policy [] [] c) ∧
        (old.grant = none ∨ (∀ e ∈ evs, carriesSlice e = true) → Answers (.ctrSelect q) s r .ok [] []
          (c.mod (setCtr n ⟨if bitAt fl 1 then 0 else old.value, !bitAt fl 1 && old.ovf, bitAt fl 0, old.grant, leAt r.inp 4 2, leAt r.inp 6 2,
            leAt r.inp 3 1, leAt r.inp 8 2, leAt r.inp 10 2, bitAt fl 2 || old.grant.isSome,
            if old.grant.isSome then old.slice else leAt r.inp 12 2, bitAt fl 3, leAt r.inp 16 8, leAt r.inp 24 4, leAt r.inp 28 1⟩))))) ∧
    (Admits .ctrRead q s r c → r.inp.length = 4 →
      let ks := List.range' (leAt r.inp 0 2) (leAt r.inp 2 1)
      let values := leBytes 8 (now c.d) ++ (ks.map (fun k => leBytes 8 (ctrValue (ctrOf c.d k)))).flatten
      1 ≤ leAt r.inp 2 1 → leAt r.inp 2 1 ≤ 251 → leAt r.inp 0 2 + leAt r.inp 2 1 ≤ 256 →
      (leAt r.inp 3 1 = 0 → Answers (.ctrRead q) s r .ok values [] c) ∧
      (leAt r.inp 3 1 = 1 → Answers (.ctrRead q) s r .ok values [] (c.mod (fun d => ks.foldl (fun d k =>
        if (ctrOf d k).grant.isSome then d else setCtr k { ctrOf d k with value := 0, ovf := false } d) d)))) ∧
    (Admits .ctrDumpSet q s r c → r.inp.length = 20 →
      let addr := leAt r.inp 0 8
      let slots := leAt r.inp 8 4
      let period := leAt r.inp 12 4
      addr % 64 = 0 → 2 ≤ slots → slots ≤ 65536 → (period = 0 ∨ 10 ≤ period) → period ≤ 10000000 → leAt r.inp 16 4 ≤ 1 →
      (2 ^ 64 < addr + 2240 * slots → Answers (.ctrDumpSet q) s r .length [] [] c) ∧
      (addr + 2240 * slots ≤ 2 ^ 64 →
        (period ≠ 0 → Answers (.ctrDumpSet q) s r .ok [] [] (c.mod (fun d => { d with ctr := { d.ctr with
          dumpAddr := addr, dumpSlots := slots, dumpPeriod := period, dumpSignal := leAt r.inp 16 4 == 1
          dumpSeq := 0, missed := 0, dumpMissed := 0 } }))) ∧
        (period = 0 → Answers (.ctrDumpSet q) s r .ok [] [] (c.mod (fun d => { d with ctr := { d.ctr with
          dumpAddr := addr, dumpSlots := slots, dumpPeriod := 0, dumpSignal := leAt r.inp 16 4 == 1 } }))))) ∧
    (Admits .bwmonSet q s r c → r.inp.length = 8 → zeroFrom r.inp 2 4 = true → leAt r.inp 1 1 ≤ 1 → leAt r.inp 4 4 ≤ 1000000 →
      let set := fun (d : Dev) (k : Nat) =>
        let x := monOf d k
        let keep := leAt r.inp 1 1 = 0 ∧ x.window = leAt r.inp 4 4
        let y : Bwmon := ⟨leAt r.inp 4 4, x.last, if keep then x.peak else 0, if keep then x.peakTime else 0⟩
        { d with ctr := { d.ctr with mon := Tab.put d.ctr.mon k y } }
      (leAt r.inp 0 1 < 8 → Answers (.bwmonSet q) s r .ok [] [] (c.mod (fun d => set d (leAt r.inp 0 1)))) ∧
      (leAt r.inp 0 1 = 0xFF → Answers (.bwmonSet q) s r .ok [] [] (c.mod (fun d => (List.range 8).foldl set d))) ∧
      (8 ≤ leAt r.inp 0 1 → leAt r.inp 0 1 ≠ 0xFF → Answers (.bwmonSet q) s r .format [] [] c)) ∧
    (Admits .ctrGrant q s r c → r.inp.length = 6 → leAt r.inp 5 1 = 0 →
      let n := leAt r.inp 0 2
      let m := leAt r.inp 2 2
      let k := leAt r.inp 4 1
      let x := ctrOf c.d n
      n < 256 → m < 4096 → k < 8 →
      (x.grant.isSome = true → Answers (.ctrGrant q) s r .policy [] [] c) ∧
      (x.grant = none → (∀ e ∈ c.d.ctr.ctr, e.2.grant ≠ some (m, k)) → (∀ e ∈ admitted x.event x.eventMask, carriesSlice e = true) →
        ((sliceOf c.d m).state = .free → Answers (.ctrGrant q) s r .sliceState [] [] c) ∧
        ((sliceOf c.d m).state ≠ .free → Answers (.ctrGrant q) s r .ok [] []
          (c.mod (setCtr n { x with value := 0, ovf := false, sliceEn := true, slice := m, grant := some (m, k) }))))) ∧
    (Admits .ctrRevoke q s r c → r.inp.length = 4 → zeroFrom r.inp 2 4 = true → leAt r.inp 0 2 < 256 →
      Answers (.ctrRevoke q) s r .ok [] []
        (c.mod (fun d => setCtr (leAt r.inp 0 2) { ctrOf d (leAt r.inp 0 2) with value := 0, ovf := false, enabled := false, grant := none } d)))

/-! ## Tamper, life cycle, firmware and pair through the mailboxes -/

/-- `TAMPER_UNLOCK` (R353) takes no body. Without a Lock it answers `ST_POLICY`; after an Erase has begun, or while a latched source has not
cleared, `ST_LOCKED` with those sources in its diagnostic, bit 31 set for the Erase; else it clears `LATCHED`, `ALARM_OUT_n` and the Lock, so that
dispatch runs and the doorbells of ACTIVE slices are fetched again, and writes record `0x1002` with the sources it unlatched. -/
def Obligations.TamperUnlock : Prop :=
  ∀ (q : MbReq) (s : State) (r : Req) (c : Cx), Admits .tamperUnlock q s r c →
    let left := (c.d.goose.latched &&& c.d.goose.uncleared).toNat
    let done := c.mod (fun d => raise 0x1002 0xFFFF d.goose.latched.toNat 0
      (modGoose (fun g => { g with latched := 0, uncleared := 0, alarmOut := false, lock := false }) d))
    (r.inp ≠ [] → Answers (.tamperUnlock q) s r .format [] [] c) ∧
    (r.inp = [] →
      (c.d.goose.lock = false → Answers (.tamperUnlock q) s r .policy [] [] c) ∧
      (c.d.goose.lock = true → c.d.goose.eraseBegun = true → Answers (.tamperUnlock q) s r .locked (leBytes 4 (left + 2 ^ 31)) [] c) ∧
      (c.d.goose.lock = true → c.d.goose.eraseBegun = false → left ≠ 0 → Answers (.tamperUnlock q) s r .locked (leBytes 4 left) [] c) ∧
      (c.d.goose.lock = true → c.d.goose.eraseBegun = false → left = 0 → Answers (.tamperUnlock q) s r .ok [] [] done ∧
        done.d.goose.latched = 0 ∧ done.d.goose.alarmOut = false ∧ done.d.goose.lock = false ∧ done.d.slices = c.d.slices))

/-- Tamper, life cycle and debug requests (R366 to R369): the status words, responses
raised in fuses or lowered until reset, sources disabled in fuses, the life cycle closed or scrapped, and debug reopened against a challenge. What a
request schedules begins as its own event, with a whole Erase first. -/
def Obligations.TamperAndLifeCycleRequests : Prop :=
  (∀ (q : MbReq) (s : State) (r : Req) (c : Cx),
    (Admits .tamperStatus q s r c → r.inp = [] → Answers (.tamperStatus q) s r .ok
      (((tamperRegs c).map (leBytes 8)).flatten ++ List.replicate 8 0 ++ ((List.range 16).map (alarmBytes c.d.goose)).flatten) [] c) ∧
    (Admits .tamperConfig q s r c → r.inp.length = 4 →
      let up := bits (leAt r.inp 0 4) 11 0
      let low := bits (leAt r.inp 0 4) 27 16
      bits (leAt r.inp 0 4) 15 12 = 0 → bits (leAt r.inp 0 4) 31 28 = 0 → onlyBits up [3, 4, 6, 7, 11] = true → onlyBits low [2, 9] = true →
      (low ≠ 0 → c.d.sys.lc ≠ 0 → Answers (.tamperConfig q) s r .lifecycle [] [] c) ∧
      ((low = 0 ∨ c.d.sys.lc = 0) → low &&& (c.f.raise0 ||| c.f.raise1).toNat ≠ 0 → Answers (.tamperConfig q) s r .policy [] [] c) ∧
      ((low = 0 ∨ c.d.sys.lc = 0) → low &&& (c.f.raise0 ||| c.f.raise1).toNat = 0 →
        ∃ d, Answers (.tamperConfig q) s r .ok [] [] ⟨d, { c.f with
            raise0 := c.f.raise0 ||| BitVec.ofNat 12 up, raise1 := c.f.raise1 ||| BitVec.ofNat 12 up }⟩ ∧
          d.goose = { c.d.goose with lowered := c.d.goose.lowered ||| BitVec.ofNat 12 low } ∧ d.slices = c.d.slices ∧ d.sys = c.d.sys)) ∧
    (Admits .tamperFuseDisable q s r c → r.inp.length = 4 →
      (onlyBits (leAt r.inp 0 4) [2, 6, 7] = true → Answers (.tamperFuseDisable q) s r .ok [] []
        ⟨raise 0x1003 0xFFFF (leAt r.inp 0 4) 0 c.d, { c.f with
          disable0 := c.f.disable0 ||| BitVec.ofNat 12 (leAt r.inp 0 4), disable1 := c.f.disable1 ||| BitVec.ofNat 12 (leAt r.inp 0 4) }⟩) ∧
      (onlyBits (leAt r.inp 0 4) [2, 6, 7] = false → Answers (.tamperFuseDisable q) s r .format [] [] c)) ∧
    (∀ b, Admits .lcClose q s r c → r.inp.length = 7420 → zeroFrom r.inp 0 4 = true → r.q.owner = some b →
      (c.d.sys.lc ≠ 0 → Answers (.lcClose q) s r .lifecycle [] [] c) ∧
      (c.d.sys.lc = 0 → (∃ e ∈ c.d.slices, e.2.state ≠ .free) → Answers (.lcClose q) s r .sliceState [] [] c) ∧
      (c.d.sys.lc = 0 → (∀ e ∈ c.d.slices, e.2.state = .free) → c.d.pair.state ≠ .paired → b.len = 7416 → b.tagOk = true → b.ecdsaOk = true →
        b.mldsaOk = true → c.f.ownerRoot &&& b.digest = c.f.ownerRoot → Answers (.lcClose q) s r .ok [] []
          ⟨schedule .lcClose (raise 0x2001 0xFFFF 0 0 c.d), { c.f with
            ownerRoot := c.f.ownerRoot ||| b.digest, lc0 := c.f.lc0 ||| 0x7777777777777777, lc1 := c.f.lc1 ||| 0x7777777777777777
            lc2 := c.f.lc2 ||| 0x7777777777777777 }⟩)) ∧
    (Admits .lcScrap q s r c → r.inp = [0, 0, 0, 0] → Answers (.lcScrap q) s r .ok [] [] (c.mod (schedule .lcScrap))) ∧
    (Admits .debugChallenge q s r c →
      (c.d.sys.lc ≠ 1 → Answers (.debugChallenge q) s r .lifecycle [] [] c) ∧
      (c.d.sys.lc = 1 → r.inp = [] → rngServing c.d = true →
        let id := c.d.dbg.challenges + 1
        Answers (.debugChallenge q) s r .ok (challengeBytes c id (drawBytes 32 c.d)) [] (c.mod (fun d => raise 0x2003 0xFFFF id 0
          (let d1 := cpDraw 32 d
           { d1 with dbg := { d1.dbg with challenge := some id, challenges := id, nonce := drawBytes 32 d } }))))) ∧
    (∀ ok, Admits (.debugReopen ok) q s r c → r.inp.length = 4731 → zeroFrom r.inp 4 8 = true → c.d.sys.lc = 1 →
      (c.d.dbg.challenge ≠ some (leAt r.inp 0 4) → Answers (.debugReopen q ok) s r .nonce [] [] c) ∧
      (c.d.dbg.challenge = some (leAt r.inp 0 4) → 8 ≤ fuseCount c.f.debugReopen → Answers (.debugReopen q ok) s r .lifecycle [] [] c) ∧
      (c.d.dbg.challenge = some (leAt r.inp 0 4) → fuseCount c.f.debugReopen < 8 → ok = false →
        Answers (.debugReopen q ok) s r .signature [] [] c) ∧
      (c.d.dbg.challenge = some (leAt r.inp 0 4) → fuseCount c.f.debugReopen < 8 → ok = true → Answers (.debugReopen q ok) s r .ok [] []
        (c.mod (fun d => schedule .debugReopen { d with dbg := { d.dbg with challenge := none } }))))) ∧
  (∀ s : State,
    Does .debugChallengeExpiry s { s.dev with dbg := { s.dev.dbg with challenge := none } } ∧
    (s.dev.sys.scheduled ≠ some .lcScrap → exec .lcScrapStart s = .next s) ∧
    (s.dev.sys.scheduled ≠ some .debugReopen → exec .debugReopenStart s = .next s) ∧
    (s.dev.goose.eraseBegun = false → s.dev.goose.volatileDone = false →
      let erased := fun (t : State) => t.dev.sys.scheduled = none ∧ t.dev.goose.erased = true ∧ t.dev.goose.lock = true ∧
        t.dev.goose.eraseRunning = false ∧ t.dev.sys.share = .erased ∧ t.dev.sys.ksk = false ∧ t.dev.keys.cache = [] ∧ t.dev.rng.inst = [] ∧
        t.dev.mg.sessions = [] ∧ t.dev.mg.migration = [] ∧ t.fuse.eraseCount = blowNext s.fuse.eraseCount
      (s.dev.sys.scheduled = some .lcScrap → ∃ t, exec .lcScrapStart s = .next t ∧ erased t ∧ t.dev.sys.lc = 2 ∧
        t.fuse = { s.fuse with
          lc0 := BitVec.allOnes 64, lc1 := BitVec.allOnes 64, lc2 := BitVec.allOnes 64, secretsBlown := true
          eraseCount := blowNext s.fuse.eraseCount }) ∧
      (s.dev.sys.scheduled = some .debugReopen → ∃ t, exec .debugReopenStart s = .next t ∧ erased t ∧ t.dev.dbg.reopened = true ∧
        t.fuse = { s.fuse with
          debugReopen := blowNext s.fuse.debugReopen, eraseCount := blowNext s.fuse.eraseCount })))

/-- Firmware and pair requests (R377, R378, R395 to R398, R444, R445, R448, R449): the 120-byte status, an activation accepted with intake closed and
answered by the new image, staging discarded; pairing waits to meet its partner once its own requirements hold, `UNPAIR` removes the slices, forgets
the partner and revokes the identity, and a switchover hands the primary's role over or takes it. -/
def Obligations.FirmwareAndPairRequests : Prop :=
  ∀ (q : MbReq) (s : State) (r : Req) (c : Cx),
    (Admits .fwStatus q s r c → r.inp = [] → Answers (.fwStatus q) s r .ok (fwStatusBody c) [] c) ∧
    (Admits .fwActivate q s r c → r.inp.length = 4 →
      (c.d.fw.staging = .activating → Answers (.fwActivate q) s r .busy [] [] c) ∧
      (c.d.fw.staging ≠ .activating → (c.d.fw.staging ≠ .staged ∨ leAt r.inp 0 4 ≠ newFw c.d) →
        Answers (.fwActivate q) s r .policy [] [] c) ∧
      (c.d.fw.staging = .staged → leAt r.inp 0 4 = newFw c.d → primaryHeld c.d = true → Answers (.fwActivate q) s r .pairRole [] [] c) ∧
      (c.d.fw.staging = .staged → leAt r.inp 0 4 = newFw c.d → primaryHeld c.d = false → Waits (.fwActivate q) s r .activation
        (c.mod (fun d => raise 0x7004 0xFFFF (newFw d) (fwVersions d) { d with fw := { d.fw with
          staging := .activating, step := 2, mailbox := some r.m } })))) ∧
    (Admits .fwDiscard q s r c → r.inp = [] →
      (c.d.fw.staging = .activating → Answers (.fwDiscard q) s r .busy [] [] c) ∧
      (c.d.fw.staging = .none → Answers (.fwDiscard q) s r .policy [] [] c) ∧
      (c.d.fw.staging ≠ .activating → c.d.fw.staging ≠ .none → Answers (.fwDiscard q) s r .ok [] []
        (c.mod (fun d => raise 0x7005 0xFFFF 1 (newFw d) (dropStaging 11 d))))) ∧
    (r.inp.length = 16 → zeroFrom r.inp 1 8 = true → c.d.sys.pairEn = true → c.d.pair.cmd = none → leAt r.inp 8 8 ≠ c.d.sys.serial →
      let begun := fun (mode : Nat) => c.mod (modPair (fun p => { p with
        cmd := some (mode, leAt r.inp 8 8, r.m), nonce := [], helloSent := false }))
      (Admits .pairFound q s r c → leAt r.inp 0 1 = 0 → c.d.pair.state = .unpaired → (nextGroup c.f).isSome = true →
        Waits (.pairFound q) s r .pair (begun 0)) ∧
      (Admits .pairJoin q s r c → leAt r.inp 0 1 = 1 → c.d.pair.state = .unpaired → (nextGroup c.f).isSome = true →
        (slicesInUse c.d = [] → Waits (.pairJoin q) s r .pair (begun 1)) ∧
        (slicesInUse c.d ≠ [] → Answers (.pairJoin q) s r .policy [] [] c)) ∧
      (Admits .pairAdmit q s r c → leAt r.inp 0 1 = 2 →
        (c.d.pair.state = .soloUnproven ∨ c.d.pair.state = .soloProven → Waits (.pairAdmit q) s r .pair (begun 2)) ∧
        (c.d.pair.state ≠ .soloUnproven → c.d.pair.state ≠ .soloProven → Answers (.pairAdmit q) s r .pairRole [] [] c)) ∧
      (Admits .pairResolve q s r c → leAt r.inp 0 1 = 3 →
        (c.d.pair.state = .diverged → Waits (.pairResolve q) s r .pair (begun 3)) ∧
        (c.d.pair.state ≠ .diverged → Answers (.pairResolve q) s r .pairRole [] [] c))) ∧
    (Admits .unpair q s r c → r.inp = [0, 0, 0, 0] → slicesInUse c.d = [] → c.d.pair.cmd = none → c.d.pair.steps = [] →
      ∃ d, Answers (.unpair q) s r .ok [] [] ⟨d, revokeGroup c.f⟩ ∧ d.pair.state = .unpaired ∧ d.pair.role = .none ∧ d.pair.key = false ∧
        d.store = { c.d.store with partner := 0 } ∧ d.slices = c.d.slices ∧ d.mg = c.d.mg) ∧
    (Admits .pairStatus q s r c → r.inp = [] → Answers (.pairStatus q) s r .ok
      ([byteOf c.d.pair.state.code, byteOf (roleCode c.d.pair.role), byteOf (pairRank c.d), byteOf (lanesInUse c.d)]
        ++ leBytes 4 c.d.store.timeoutMs ++ leBytes 8 c.d.store.partner ++ beBytes 16 (groupId c.f).toNat ++ leBytes 8 c.d.store.seq
        ++ leBytes 8 c.d.pair.partnerSeq ++ leBytes 8 (if c.d.pair.state = .diverged then c.d.pair.commonSeq else 0)
        ++ leBytes 4 c.d.pair.lossCount ++ leBytes 4 0) [] c) ∧
    (Admits .pairTimeoutSet q s r c → r.inp.length = 4 →
      (100 ≤ leAt r.inp 0 4 → leAt r.inp 0 4 ≤ 60000 → Answers (.pairTimeoutSet q) s r .ok [] []
        (c.mod (fun d => { d with store := { d.store with timeoutMs := leAt r.inp 0 4 } }))) ∧
      ((leAt r.inp 0 4 < 100 ∨ 60000 < leAt r.inp 0 4) → Answers (.pairTimeoutSet q) s r .format [] [] c)) ∧
    (Admits .pairSwap q s r c → r.inp = [0, 0, 0, 0] →
      (c.d.pair.state ≠ .paired ∨ c.d.pair.held = true → Answers (.pairSwap q) s r .pairRole [] [] c) ∧
      (c.d.pair.state = .paired → c.d.pair.held = false → c.d.pair.role = .primary → Answers (.pairSwap q) s r .ok [] []
        (c.mod (fun d => modPair (fun p => { p with role := .secondary })
          (raise 0x8008 0xFFFF 0 (partnerLow d) (strait (.control (.swap d.store.seq)) d))))) ∧
      (c.d.pair.state = .paired → c.d.pair.held = false → c.d.pair.role ≠ .primary → Waits (.pairSwap q) s r .pair
        (c.mod (fun d => modPair (fun p => { p with held := true, cmd := some (4, 0, r.m) }) (strait (.control (.swap d.store.seq)) d))))) ∧
    (Admits .pairTakeOver q s r c → r.inp = [1, 0, 0, 0] →
      (c.d.pair.state ≠ .waiting → Answers (.pairTakeOver q) s r .pairRole [] [] c) ∧
      (c.d.pair.state = .waiting → Answers (.pairTakeOver q) s r .ok [] []
        (c.mod (fun d => raise 0x8008 0xFFFF 1 (partnerLow d) (enterUnproven d)))))

/-! ## Tamper -/

/-- Goose (R348 to R355, R358 to R361, R364, R464): the sources recognised in one cycle are latched and logged in ascending order and the strongest
response of them takes effect; a source already latched only shows its condition again; a Lock or an Erase is in force from then on. An Erase loses
everything volatile and blows the next `ERASE_COUNT` bit, then overwrites the share. External lines alarm on a phase outside 2 to 100 µs or without both
phases at the check; a re-sensed fuse, a shield pattern that fails and a TAP instruction in CLOSED alarm at once. -/
def Obligations.TamperSources : Prop :=
  ∀ s : State,
    let c := s.cx
    let g := s.dev.goose
    let fresh := fun (n : Nat) => sensing s.dev = true ∧ canAlarm c n = true ∧ g.latched.getLsbD n = false
    let raised := fun (n : Nat) (t : State) => t.dev.goose.latched.getLsbD n = true ∧ t.dev.goose.alarmOut = true ∧
      (g.eraseBegun = false → t.dev.goose.lock = true) ∧ (effective c n = 2 → t.dev.goose.eraseBegun = true) ∧ t.fuse = s.fuse
    (∀ mask temps, sensing s.dev = true → g.log.length ≤ 16 →
      let new := (maskList mask).filter (fun n => canAlarm c n && !g.latched.getLsbD n)
      (new ≠ [] → ∃ t, exec (.tamperAlarm mask temps) s = .next t ∧ t.fuse = s.fuse ∧ (g.eraseBegun = false → t.dev.goose.lock = true) ∧ t.dev.goose.alarmOut = true ∧
        (∀ n, n < 12 → t.dev.goose.latched.getLsbD n = (g.latched.getLsbD n || new.contains n)) ∧
        t.dev.goose.log = (g.log ++ new.map (fun n => Alarm.mk s.dev.sys.time s.dev.sys.epoch n (effective c n) false g.eraseRunning)).take 16 ∧
        (new.any (fun n => effective c n == 2) = true → t.dev.goose.eraseBegun = true) ∧
        (new.any (fun n => effective c n == 2) = false → t.dev.goose.eraseBegun = g.eraseBegun) ∧
        (∀ hi lo, temps = some (hi, lo) → t.dev.goose.tjMax = hi ∧ t.dev.goose.tjMin = lo)) ∧
      (new = [] → ∃ t, exec (.tamperAlarm mask none) s = .next t ∧ t.fuse = s.fuse ∧ t.dev.goose.latched = g.latched ∧
        t.dev.goose.log = g.log ∧ t.dev.goose.lock = g.lock ∧ t.dev.goose.eraseBegun = g.eraseBegun ∧ t.dev.slices = s.dev.slices ∧
        ∀ n ∈ maskList mask, canAlarm c n = true → lasting n = true → t.dev.goose.asserted.getLsbD n = true)) ∧
    (g.eraseRunning = true → g.volatileDone = false → ∃ t, exec .eraseVolatileComplete s = .next t ∧
      t.fuse = { s.fuse with eraseCount := blowNext s.fuse.eraseCount } ∧ t.dev.goose.volatileDone = true ∧ t.dev.sys.ksk = false ∧
      t.dev.keys.cache = [] ∧ t.dev.rng.inst = [] ∧ t.dev.mg.sessions = [] ∧ t.dev.mg.migration = [] ∧ t.dev.pair.key = false ∧
      t.dev.sys.share = s.dev.sys.share ∧ ∀ n, (sliceOf t.dev n).staged = []) ∧
    (g.eraseRunning = true → g.volatileDone = true → Does .eraseShareComplete s { s.dev with
      sys := { s.dev.sys with share := .erased }, goose := { g with eraseRunning := false, erased := true } }) ∧
    (g.eraseRunning = false → exec .eraseVolatileComplete s = .next s ∧ exec .eraseShareComplete s = .next s) ∧
    (∀ n, n < 12 →
      (n ∈ [0, 1, 8, 10] ∨ sensing s.dev = false → exec (.tamperSourceClear n) s = .next s) ∧
      (n ∉ [0, 1, 8, 10] → sensing s.dev = true → exec (.tamperSourceClear n) s = .next { s with dev := { s.dev with goose := { g with
        asserted := g.asserted &&& ~~~(BitVec.ofNat 12 (2 ^ n)), uncleared := g.uncleared &&& ~~~(BitVec.ofNat 12 (2 ^ n)) } } })) ∧
    (∀ us, alive s.dev = true →
      (2 ≤ us → us ≤ 100 →
        exec (.extTamperEdge false us) s = .next { s with dev := { s.dev with goose := { g with
          aValid := true, aPhases := g.aPhases + 1, aPhase := us, asserted := g.asserted &&& ~~~(0x040#12) } } } ∧
        exec (.extTamperEdge true us) s = .next { s with dev := { s.dev with goose := { g with
          bValid := true, bPhases := g.bPhases + 1, bPhase := us, asserted := g.asserted &&& ~~~(0x080#12) } } }) ∧
      (us < 2 ∨ 100 < us →
        (fresh 6 → ∃ t, exec (.extTamperEdge false us) s = .next t ∧ raised 6 t ∧ t.dev.goose.aValid = false) ∧
        (fresh 7 → ∃ t, exec (.extTamperEdge true us) s = .next t ∧ raised 7 t ∧ t.dev.goose.bValid = false))) ∧
    (alive s.dev = true →
      (fresh 6 → ∃ t, exec (.extTamperPhaseTimeout false) s = .next t ∧ raised 6 t ∧ t.dev.goose.aValid = false) ∧
      (fresh 7 → ∃ t, exec (.extTamperPhaseTimeout true) s = .next t ∧ raised 7 t ∧ t.dev.goose.bValid = false)) ∧
    (alive s.dev = true → g.checkDue = true →
      (2 ≤ g.aPhases → 2 ≤ g.bPhases → s.dev.sys.ksk = true →
        exec .extTamperPowerupCheck s = .next { s with dev := { s.dev with goose := { g with checkDue := false } } }) ∧
      (2 ≤ g.aPhases → 2 ≤ g.bPhases → s.dev.sys.ksk = false → s.dev.sys.pufOk = true → s.dev.sys.stage = 0 → s.dev.sys.lc ≠ 2 →
        g.eraseBegun = false → s.dev.sys.share = .written → ∃ t, exec .extTamperPowerupCheck s = .next t ∧
          t.dev.goose = { g with checkDue := false } ∧ t.dev.sys.ksk = true ∧ t.dev.sys.stage = 1) ∧
      (g.aPhases < 2 → fresh 6 → ∃ t, exec .extTamperPowerupCheck s = .next t ∧ raised 6 t ∧ t.dev.goose.checkDue = false)) ∧
    (exec (.fuseResense true) s = .next s) ∧
    (fresh 8 → ∃ t, exec (.fuseResense false) s = .next t ∧ raised 8 t) ∧
    (sensing s.dev = true → exec (.shieldPatternRenew true) s =
      .next { s with dev := { s.dev with goose := { g with pattern := g.pattern + 1 } } }) ∧
    (fresh 0 → ∃ t, exec (.shieldPatternRenew false) s = .next t ∧ raised 0 t ∧ t.dev.goose.pattern = g.pattern + 1) ∧
    (∀ ir, alive s.dev = true → (ir = 1 ∨ ir = 2) →
      exec (.jtagInstructionLoad ir) s = .next { s with dev := { s.dev with dbg := { s.dev.dbg with ir } } }) ∧
    (∀ ir, alive s.dev = true → ir ≠ 1 → ir ≠ 2 →
      (s.dev.sys.lc ≠ 1 ∨ s.dev.dbg.reopened = true →
        exec (.jtagInstructionLoad ir) s = .next { s with dev := { s.dev with dbg := { s.dev.dbg with ir } } }) ∧
      (fresh 10 → ∃ t, exec (.jtagInstructionLoad ir) s = .next t ∧ raised 10 t ∧ t.dev.dbg.ir = ir))

/-! ## The pair's link -/

/-- A partner is accepted only when every check passes (R375): the first that fails ends the formation with record `0x8010`, its number in
parameter 1, and leaves the device as if no partner had been seen; a partner that passes them all is accepted, and its serial recorded. No `PAIR`
command is in service here (R377 has its own checks of identity and serial), no step is under way and the partner's counters are level. -/
def Obligations.PartnersAreChecked : Prop :=
  ∀ (s : State) (m : HelloMsg),
    let d := s.dev
    let p := d.pair
    let lc := d.sys.lc
    let set := fun (f : Pair → Pair) (d : Dev) => { d with pair := f d.pair }
    let known := m.sigOk = true ∧ m.lifecycle = lc ∧ (lc = 1 → m.chainOk = true) ∧ (lc = 1 → m.debugOpen = false) ∧ m.group = groupId s.fuse
    linkUp d = true → seeks d = true → p.nonce ≠ [] → p.cmd = none →
    let fails := fun (k : Nat) => Does (.hello true m) s
      (set (fun x => { x with seen := false, key := false, nonce := [], helloSent := false }) (raise 0x8010 0xFFFF k (m.serial % 2 ^ 32) d))
    (m.sigOk = false → fails 1) ∧
    (m.sigOk = true → m.lifecycle ≠ lc → fails 2) ∧
    (m.sigOk = true → m.lifecycle = lc → lc = 1 → m.chainOk = false → fails 2) ∧
    (m.sigOk = true → m.lifecycle = lc → lc = 1 → m.chainOk = true → m.debugOpen = true → fails 3) ∧
    (m.sigOk = true → m.lifecycle = lc → (lc = 1 → m.chainOk = true) → (lc = 1 → m.debugOpen = false) → m.group ≠ groupId s.fuse → fails 4) ∧
    (known → d.store.partner ≠ 0 → m.serial ≠ d.store.partner → fails 5) ∧
    (known → (d.store.partner = 0 ∨ m.serial = d.store.partner) → m.major ≠ 4 → fails 6) ∧
    (known → (d.store.partner = 0 ∨ m.serial = d.store.partner) → m.major = 4 → p.steps = [] → m.ends = [] →
      ∃ t, exec (.hello true m) s = .next t ∧ t.fuse = s.fuse ∧ t.dev.pair.key = true ∧ t.dev.store.partner = m.serial)

/-- The Strait and the pair (R372 to R374, R379, R381, R382, R384, R386 to R390, R392, R395): training; what each authenticated frame does and that
one that fails authentication is only recorded; the journal sequenced by the primary, written and acknowledged by the secondary and taking effect on
the primary with the acknowledgement; how two devices become PAIRED or fall into DIVERGED; and where each loss of the partner leads. -/
def Obligations.PairLink : Prop :=
  ∀ s : State,
    let d := s.dev
    let c := s.cx
    let p := d.pair
    let up := linkUp d = true
    let keyed := up ∧ p.key = true
    let set := fun (f : Pair → Pair) (d : Dev) => { d with pair := f d.pair }
    let low := d.store.partner % 2 ^ 32
    let gone := fun (x : Pair) => { x with lossCount := sat 0xFFFFFFFF (x.lossCount + 1), missed := 0 }
    (alive d = true → d.sys.pairEn = true →
      (p.lanes = 0 → Does .straitTrainingStart s (set (fun x => { x with training := true }) d)) ∧
      (p.lanes = 0 → p.training = false → Does .straitTrainingRetry s (set (fun x => { x with training := true }) d)) ∧
      (p.lanes ≠ 0 → exec .straitTrainingStart s = .next s ∧ exec .straitTrainingRetry s = .next s)) ∧
    (∀ n, alive d = true → p.training = true →
      (n = 8 → Does (.straitTrainingComplete n) s (set (fun x => { x with training := false, lanes := 8 }) d)) ∧
      (4 ≤ n → n < 8 → Does (.straitTrainingComplete n) s (set (fun x => { x with training := false, lanes := 4 }) d)) ∧
      (n < 4 → Does (.straitTrainingComplete n) s (set (fun x => { x with training := false, lanes := 0 }) d))) ∧
    (keyed → seeks d = false → p.frames + 1 < 2 ^ 32 → Does .heartbeatSend s
      (strait (.heartbeat d.store.seq p.state.code d.sys.time d.sys.epoch (d.sys.ready && !devFault d) (fwVersions d)) d)) ∧
    (up → p.key = false → seeks d = true → p.nonce = [] → rngServing d = true → Does .heartbeatSend s
      (emit (.hello d.sys.serial (drawBytes 32 d) (pairMode d))
        (set (fun x => { x with nonce := drawBytes 32 d, helloSent := true }) (cpDraw 32 d)))) ∧
    (linkUp d = false → exec .heartbeatSend s = .next s ∧ ∀ auth,
      (∀ m, exec (.hello auth m) s = .next s) ∧ (∀ m, exec (.resync auth m) s = .next s) ∧ (∀ m, exec (.heartbeat auth m) s = .next s) ∧
      (∀ st, exec (.journalReq auth st) s = .next s) ∧ (∀ e, exec (.journal auth e) s = .next s) ∧
      (∀ n, exec (.journalAck auth n) s = .next s ∧ exec (.relinquish auth n) s = .next s) ∧ (∀ m, exec (.control auth m) s = .next s)) ∧
    (up → ∀ m, Does (.hello false m) s (raise 0x8011 0xFFFF 1 0 d)) ∧
    (keyed →
      (∀ m, p.missed + 1 < 5 → Does (.heartbeat false m) s
        (count 0x8001 1 none none false none (set (fun x => { x with missed := x.missed + 1 }) (raise 0x8011 0xFFFF 2 0 d)))) ∧
      (∀ st, Does (.journalReq false st) s (raise 0x8011 0xFFFF 3 0 d)) ∧ (∀ e, Does (.journal false e) s (raise 0x8011 0xFFFF 4 0 d)) ∧
      (∀ n, Does (.journalAck false n) s (raise 0x8011 0xFFFF 5 0 d)) ∧ (∀ m, Does (.resync false m) s (raise 0x8011 0xFFFF 6 0 d)) ∧
      (∀ n, Does (.relinquish false n) s (raise 0x8011 0xFFFF 7 0 d)) ∧ (∀ m, Does (.control false m) s (raise 0x8011 0xFFFF 8 0 d))) ∧
    (up → seeks d = true → p.nonce ≠ [] → p.cmd = none → ∀ m,
      let lc := d.sys.lc
      let known := m.sigOk = true ∧ m.lifecycle = lc ∧ (lc = 1 → m.chainOk = true) ∧ (lc = 1 → m.debugOpen = false) ∧ m.group = groupId s.fuse
      (known → (d.store.partner = 0 ∨ m.serial = d.store.partner) → m.major = 4 → m.pairMode = none → m.ends = [] →
        let forms := fun (st : PairState) (role : Role) => ∃ t, exec (.hello true m) s = .next t ∧ t.fuse = s.fuse ∧ t.dev.pair.key = true ∧
          t.dev.pair.state = st ∧ t.dev.pair.role = role ∧ t.dev.pair.frames = (if st = .forming ∧ role = .primary then
            d.store.seq - m.journalSeq else 0) ∧ t.dev.store = { d.store with partner := m.serial } ∧ t.dev.slices = d.slices
        let first := if d.sys.preferPrimary = m.preferPrimary then decide (d.sys.serial < m.serial) else d.sys.preferPrimary
        (p.steps = [] → d.store.seq = m.journalSeq → d.store.chain = m.chain → d.store.seq ≠ 0 →
          forms .paired (if first = true then .primary else .secondary)) ∧
        (m.journalSeq ≠ 0 → m.journalSeq < d.store.seq → chainAt d m.journalSeq = some m.chain → (entriesAfter d m.journalSeq).isSome = true →
          forms .forming .primary) ∧
        (d.store.seq ≠ 0 → d.store.seq < m.journalSeq → m.chainAtOurs = some d.store.chain → forms .forming .secondary) ∧
        (p.steps = [] → m.journalSeq < d.store.seq → chainAt d m.journalSeq ≠ some m.chain → forms .diverged .none))) ∧
    (keyed → ∀ m,
      let heard := fun (x : Pair) => { x with missed := 0, partnerSeq := m.journalSeq, partnerReady := m.ready, partnerFw := m.fw }
      (¬(p.state = .paired ∧ p.role = .secondary) → Does (.heartbeat true m) s (set heard d)) ∧
      (p.state = .paired → p.role = .secondary → Does (.heartbeat true m) s
        { set (fun x => { heard x with ahead := d.sys.time - (m.time + m.delay) }) d with
          sys := { d.sys with time := max d.sys.time (m.time + m.delay), epoch := m.epoch } })) ∧
    (keyed → ∀ st,
      (p.state = .paired → p.role = .primary → p.held = false → d.sys.ready = true →
        let e := nextEntry 1 (fixReserve st d) d
        let x : Pend := { step := fixReserve st d, origin := .device, phase := .sequenced (d.store.seq + 1), foreign := true }
        Does (.journalReq true st) s (set (fun y => { y with steps := y.steps ++ [x] })
          (strait (.journal e) (countEntry (fixReserve st d) (writeEntry e d))))) ∧
      (p.state ≠ .paired ∨ p.role ≠ .primary → exec (.journalReq true st) s = .next s)) ∧
    (keyed → ∀ e,
      ((p.state ≠ .paired ∧ p.state ≠ .forming) ∨ p.role ≠ .secondary ∨ e.seq ≠ d.store.seq + 1 → exec (.journal true e) s = .next s) ∧
      (p.state = .paired ∨ p.state = .forming → p.role = .secondary → e.seq = d.store.seq + 1 → e.origin ≠ 1 → blocked d e.step = false →
        DoesAll (.journal true e) s (applyStep { step := e.step, origin := .device, phase := .requested, foreign := true } false
          (c.mod (fun d => strait (.journalAck e.seq) (countEntry e.step (writeEntry e d)))))) ∧
      (∀ x rest, p.state = .paired ∨ p.state = .forming → p.role = .secondary → e.seq = d.store.seq + 1 → e.origin = 1 → blocked d e.step = false →
        p.steps = x :: rest → x.phase = .requested → x.step = e.step →
        DoesAll (.journal true e) s (applyStep x false (c.mod (fun d =>
          set (fun y => { y with steps := rest }) (strait (.journalAck e.seq) (countEntry e.step (writeEntry e d)))))))) ∧
    (keyed → ∀ n,
      ((∀ x ∈ p.steps, ∀ k, x.phase = .sequenced k → n < k) → Does (.journalAck true n) s (set (fun y => { y with partnerSeq := n }) d)) ∧
      (∀ x rest k, p.steps = x :: rest → x.phase = .sequenced k → k ≤ n → blocked d x.step = false → DoesAll (.journalAck true n) s
        (applySequenced n false rest.length (applyStep x false (c.mod (set (fun y => { y with partnerSeq := n, steps := rest }))))))) ∧
    (keyed → ∀ m,
      (p.state ≠ .forming ∨ p.role ≠ .secondary → exec (.resync true m) s = .next s) ∧
      (p.state = .forming → p.role = .secondary → ∃ t, exec (.resync true m) s = .next t ∧ t.fuse = s.fuse ∧
        t.dev.store = { d.store with journal := [], seq := m.journalSeq, chain := m.chain } ∧ t.dev.mg.officers = m.officers ∧
        t.dev.keys.cache = [] ∧ t.dev.pair.resync = true ∧ t.dev.pair.state = .forming ∧
        (∀ e ∈ m.slices, (sliceOf t.dev e.1).state = .bound) ∧ ∀ n, (∀ e ∈ m.slices, e.1 ≠ n) → (sliceOf t.dev n).state = .free)) ∧
    (up → p.state = .forming → p.steps = [] →
      (p.role = .primary ∨ (p.role = .secondary ∧ p.partnerSeq ≤ d.store.seq) → ∃ t, exec .resyncComplete s = .next t ∧ t.fuse = s.fuse ∧
        t.dev.pair.state = .paired ∧ t.dev.pair.role = p.role ∧ t.dev.pair.timer = .off ∧ t.dev.store = d.store ∧ t.dev.slices = d.slices) ∧
      (p.role = .secondary → d.store.seq < p.partnerSeq → exec .resyncComplete s = .next s)) ∧
    (keyed → ∀ n,
      let proven := fun (x : Pair) => { x with
        state := .soloProven, role := .primary, key := false, timer := .off, nonce := [], held := false }
      let left := fun (d : Dev) => raise 0x8006 0xFFFF n low (set gone d)
      (p.state = .waiting → p.steps = [] → Does (.relinquish true n) s (set proven (left d))) ∧
      (p.state = .paired → p.steps = [] → Does (.relinquish true n) s (set proven (left d))) ∧
      (p.state = .soloUnproven → Does (.relinquish true n) s (set (fun x => { x with state := .soloProven, key := false, nonce := [] }) (left d))) ∧
      (p.state = .diverged → Does (.relinquish true n) s (left d))) ∧
    (keyed →
      (∀ n, p.state = .paired → p.role = .primary → Does (.control true (.swap n)) s (set (fun x => { x with role := .secondary })
        (raise 0x8008 0xFFFF 0 low (strait (.control (.swap d.store.seq)) d)))) ∧
      (p.state = .paired → p.role = .secondary →
        (p.steps = [] → p.cmd = none → Does (.control true (.swap d.store.seq)) s
          (raise 0x8008 0xFFFF 0 low (set (fun x => { x with role := .primary, held := false }) d))) ∧
        (∀ n, n ≠ d.store.seq → exec (.control true (.swap n)) s = .next s) ∧
        (∀ t, Does (.control true (.setTime t)) s
          { set (fun x => { x with ahead := 0 }) d with sys := { d.sys with time := t, epoch := true } })) ∧
      Does (.control true .rekey) s (set (fun x => { x with frames := 0 }) d)) ∧
    (let lost := fun (f : Pair → Pair) (d : Dev) => set f (raise 0x8002 0xFFFF p.state.code low (set gone d))
     let alone := fun (x : Pair) => { x with state := .soloUnproven, nonce := [], held := false }
     (alive d = true → p.state = .paired → p.role = .primary → (∃ x ∈ p.steps, ∃ k, x.phase = .sequenced k ∧ k ≤ d.store.seq) →
        DoesAll .journalAckTimeout s
          ((applySequenced d.store.seq true p.steps.length (c.mod (lost alone))).mod resubmit)) ∧
     ((p.state ≠ .paired ∨ p.steps = []) → exec .journalAckTimeout s = .next s) ∧
     (alive d = true → p.key = true → p.missed ≤ 5 → ∃ t, exec .heartbeatLoss s = .next t ∧
       (p.state = .paired → p.role = .primary → p.steps = [] → t.dev.pair = alone (gone p)) ∧
       (p.state = .paired → p.role ≠ .primary → t.fuse = s.fuse ∧ t.dev.slices = d.slices ∧
         t.dev.pair = { gone p with state := .waiting, timer := .loss, nonce := [], held := false }) ∧
       (p.state = .forming → t.fuse = s.fuse ∧ t.dev.slices = d.slices ∧ t.dev.pair = { gone p with
         state := .seeking, role := .none, key := false, seen := false, timer := .ready, resync := false, nonce := [], helloSent := false }))) ∧
    (alive d = true → p.steps = [] →
      let serves := set (fun x => { x with state := .soloUnproven, timer := .off }) d
      (p.timer = .ready → p.state = .seeking → Does .pairTimeoutExpiry s (raise 0x8003 0xFFFF 0 low serves)) ∧
      (p.timer = .loss → p.state = .waiting → Does .pairTimeoutExpiry s (raise 0x8003 0xFFFF 1 low serves)) ∧
      (p.timer = .off → exec .pairTimeoutExpiry s = .next s))

/-! ## The service port -/

/-- The service port (R431 to R436, R441, R443 to R445): a bad CRC or `SYNC` answers 1, a payload of the wrong length 3, a frame not allowed now 5 or
7 with its cause, and every frame is discarded while an earlier one is unanswered; a package is received in order, checked, staged or dropped; an
activation answers when it has ended; a response is driven once, and an unread one or an idle reception ends at its time. In OPEN the effect of `TEST`
is not in the manual, so it stops there (log entry 12). -/
def Obligations.ServicePort : Prop :=
  ∀ s : State,
    let d := s.dev
    let c := s.cx
    let w := d.fw
    let setFw := fun (f : Firmware → Firmware) (d : Dev) => { d with fw := f d.fw }
    let open_ := portUp d = true ∧ w.response = none ∧ w.unanswered = none
    let served := alive d = true ∧ d.sys.cpRestart = false ∧ (d.sys.cpUp = true ∨ d.sys.stage = 5)
    let quiet := w.staging ≠ .activating ∧ w.staging ≠ .verifying
    (∀ f v,
      let rows : List (Instr × Nat × Bool) := [(.status f, 0x01, f.payload.length == 0), (.svcLogRead f, 0x02, f.payload.length == 16),
        (.pkgBegin f, 0x10, f.payload.length == 8), (.pkgData f, 0x11, decide (9 ≤ f.payload.length) && decide (f.payload.length ≤ 4096)),
        (.pkgEnd f v, 0x12, f.payload.length == 0), (.pkgAbort f, 0x13, f.payload.length == 0), (.activate f, 0x20, f.payload.length == 4)]
      let replies := fun (i : Instr) (ty st : Nat) (p : List Byte) (c : Cx) =>
        DoesAll i s (c.mod (setFw (fun w => { w with response := some (responseFrame ty f.seq st p), unanswered := none })))
      (portUp d = false ∨ w.response ≠ none ∨ w.unanswered ≠ none →
        (∀ r ∈ rows, exec r.1 s = .next s) ∧ exec (.test f) s = .next s) ∧
      (open_ →
        (∀ r ∈ rows,
          (frameOk r.2.1 f = false → replies r.1 r.2.1 1 [] c) ∧
          (frameOk r.2.1 f = true → r.2.2 = false → replies r.1 r.2.1 3 [] c) ∧
          (frameOk r.2.1 f = true → r.2.2 = true →
            (r.2.1 ≥ 0x10 → d.sys.lc = 2 → replies r.1 r.2.1 7 [1] c) ∧
            (r.2.1 ≥ 0x10 → d.sys.lc ≠ 2 → d.sys.cpRestart = true → replies r.1 r.2.1 5 [] c) ∧
            (r.2.1 ≥ 0x10 → d.sys.lc ≠ 2 → served → ¬quiet → replies r.1 r.2.1 5 [] c))) ∧
        (frameOk 0x01 f = true → f.payload = [] → replies (.status f) 0x01 0 (statusBlock c) c) ∧
        (frameOk 0x02 f = true → f.payload.length = 16 → served → logReadOk f.payload = true → leAt f.payload 4 4 ≤ 126 →
          let l := readLog d.sys.cpUp (leAt f.payload 0 1) (leAt f.payload 4 4) (leAt f.payload 8 8) d
          replies (.svcLogRead f) 0x02 0 (l.2 ++ l.1) c) ∧
        (d.sys.lc ≠ 2 → served → quiet →
          (frameOk 0x10 f = true → f.payload.length = 8 →
            let n := leAt f.payload 0 4
            (n = 0 ∨ 16777216 < n → replies (.pkgBegin f) 0x10 3 [] c) ∧
            (n ≠ 0 → n ≤ 16777216 → leAt f.payload 4 4 = 0 → w.staging ≠ .none → replies (.pkgBegin f) 0x10 7 [4] c) ∧
            (n ≠ 0 → n ≤ 16777216 → leAt f.payload 4 4 = 0 → w.staging = .none → replies (.pkgBegin f) 0x10 0 []
              (c.mod (setFw (fun w => { setBank (inactiveBank w) none w with staging := .receiving, package := [], total := n, staged := none }))))) ∧
          (frameOk 0x11 f = true → 9 ≤ f.payload.length → f.payload.length ≤ 4096 →
            let new := w.package ++ f.payload.drop 8
            (w.staging ≠ .receiving → replies (.pkgData f) 0x11 7 [4] c) ∧
            (w.staging = .receiving → leAt f.payload 4 4 = 0 →
              (leAt f.payload 0 4 ≠ w.package.length → replies (.pkgData f) 0x11 4 (leBytes 4 w.package.length) c) ∧
              (leAt f.payload 0 4 = w.package.length → new.length < 128 → new.length ≤ w.total →
                replies (.pkgData f) 0x11 0 (leBytes 4 new.length) (c.mod (setFw (fun w => { w with package := new })))) ∧
              (leAt f.payload 0 4 = w.package.length → w.package.length < 128 → 128 ≤ new.length → new.length ≤ w.total →
                (∀ k, headerFails c new w.total = some k → ∃ c1 : Cx, replies (.pkgData f) 0x11 6 [byteOf k] c1 ∧
                  c1.f = c.f ∧ c1.d.fw = (dropStaging k (setFw (fun w => { w with package := new }) d)).fw) ∧
                (headerFails c new w.total = none → (rebuilt d new).isSome = true → replies (.pkgData f) 0x11 0 (leBytes 4 new.length)
                  (c.mod (fun d => raise 0x7001 0xFFFF w.total (leAt new 0x0A 1) (setFw (fun w => { w with package := new }) d))))))) ∧
          (frameOk 0x12 f = true → f.payload = [] →
            (w.staging ≠ .receiving ∨ w.package.length ≠ w.total → replies (.pkgEnd f v) 0x12 7 [4] c) ∧
            (w.staging = .receiving → w.package.length = w.total → 128 ≤ w.package.length →
              let img := (rebuilt d w.package).getD []
              let b : Bank := { fw := leAt w.package 0x0C 4, sec := leAt w.package 0x0B 1, digest := slice8 w.package 0x40 48, image := img
                                owner := d.sys.lc == 1 }
              let refused := fun (k : Nat) => replies (.pkgEnd f v) 0x12 6 [byteOf k]
                (c.mod (fun d => raise 0x7003 0xFFFF k (newFw d) (dropStaging k d)))
              let good := v.vendorOk = true ∧ (d.sys.lc = 1 → v.ownerOk = true) ∧ v.digestOk = true ∧ sha384 img = slice8 w.package 0x40 48
              (v.vendorOk = false → refused 6) ∧
              (v.vendorOk = true → d.sys.lc = 1 → v.ownerOk = false → refused 7) ∧
              (v.vendorOk = true → (d.sys.lc = 1 → v.ownerOk = true) → (v.digestOk = false ∨ sha384 img ≠ slice8 w.package 0x40 48) → refused 8) ∧
              (good → imageOk img b.fw b.sec = false → refused 12) ∧
              (good → imageOk img b.fw b.sec = true → d.sys.stage ≠ 5 → replies (.pkgEnd f v) 0x12 0 [0]
                (c.mod (fun d => raise 0x7002 0xFFFF b.fw b.sec (setFw (fun w => { setBank (inactiveBank w) (some b) w with
                  staging := .staged, staged := some b, stagedKind := leAt w.package 0x0A 1, lastResult := 0 }) d)))) ∧
              (good → imageOk img b.fw b.sec = true → d.sys.stage = 5 → ∃ c1 : Cx, replies (.pkgEnd f v) 0x12 0 [0] c1 ∧
                c1.d.sys = { d.sys with stage := 2, haltCause := 0 } ∧ c1.d.fw.active = some (inactiveBank w) ∧
                c1.d.fw.staging = .none ∧ c1.f = { s.fuse with secVersion := stepFuse b.sec s.fuse.secVersion }))) ∧
          (frameOk 0x13 f = true → f.payload = [] →
            (w.staging ≠ .receiving → replies (.pkgAbort f) 0x13 7 [4] c) ∧
            (w.staging = .receiving → replies (.pkgAbort f) 0x13 0 []
              (c.mod (fun d => raise 0x7005 0xFFFF 2 (newFw d) (dropStaging 11 d))))) ∧
          (frameOk 0x20 f = true → f.payload.length = 4 →
            (w.staging ≠ .staged ∨ leAt f.payload 0 4 ≠ newFw d → replies (.activate f) 0x20 7 [4] c) ∧
            (w.staging = .staged → leAt f.payload 0 4 = newFw d → d.goose.lock = false → primaryHeld d = true →
              replies (.activate f) 0x20 7 [2] c) ∧
            (w.staging = .staged → leAt f.payload 0 4 = newFw d → d.goose.lock = false → primaryHeld d = false →
              DoesAll (.activate f) s (c.mod (fun d => setFw (fun w => { w with unanswered := some (0x20, f.seq) })
                (raise 0x7004 0xFFFF (newFw d) (fwVersions d)
                  (setFw (fun w => { w with staging := .activating, step := 2, mailbox := none }) d))))))) ∧
        (d.sys.lc ≠ 0 → frameOk 0x30 f = true → replies (.test f) 0x30 7 [1] c) ∧
        (frameOk 0x30 f = false → replies (.test f) 0x30 1 [] c) ∧
        (d.sys.lc = 0 → frameOk 0x30 f = true → served → exec (.test f) s = .refused .vendorTest))) ∧
    (portUp d = true →
      (∀ r, w.response = some r → Does .svcResponseRead s (emit (.service r) (setFw (fun w => { w with response := none }) d))) ∧
      Does .svcBootStatusRead s (emit (.service (leBytes 8 (bootStatus d))) d)) ∧
    (portUp d = false ∨ w.response = none → exec .svcResponseRead s = .next s) ∧
    (portUp d = false → exec .svcBootStatusRead s = .next s) ∧
    Does .svcResponseTimeout s (setFw (fun w => { w with response := none }) d) ∧
    exec .svcTransactionTimeout s = .next s ∧
    (alive d = true → d.sys.cpRestart = false → w.staging = .receiving →
      Does .svcReceptionTimeout s (raise 0x7005 0xFFFF 3 (newFw d) (dropStaging 10 d))) ∧
    (w.staging ≠ .receiving → exec .svcReceptionTimeout s = .next s)
end

