-- ==== Sys2Proof/Laws/Exec.lean ====
section
/-! SUPPORT. Each command's meaning, row by row, so that no proof unfolds the table. -/

namespace Sys2Proof.Machine

theorem exec_resetNAssert (heldNs : Nat) (s : State) :
    exec (.resetNAssert heldNs) s = execResetNAssert heldNs s := rfl
theorem exec_resetNRelease (p : Pins) (s : State) :
    exec (.resetNRelease p) s = execResetNRelease p s := rfl
theorem exec_powerLoss (s : State) :
    exec (.powerLoss) s = execPowerLoss s := rfl
theorem exec_perstNAssert (s : State) :
    exec (.perstNAssert) s = execPerstNAssert s := rfl
theorem exec_perstNRelease (p : Pins) (s : State) :
    exec (.perstNRelease p) s = execPerstNRelease p s := rfl
theorem exec_hotReset (p : Pins) (s : State) :
    exec (.hotReset p) s = execHotReset p s := rfl
theorem exec_linkDown (p : Pins) (s : State) :
    exec (.linkDown p) s = execLinkDown p s := rfl
theorem exec_linkRetrain (speed width : Nat) (s : State) :
    exec (.linkRetrain speed width) s = execLinkRetrain speed width s := rfl
theorem exec_configurationRequest (op : ConfigOp) (s : State) :
    exec (.configurationRequest op) s = execConfigurationRequest op s := rfl
theorem exec_unsupportedRequest (k : UrKind) (s : State) :
    exec (.unsupportedRequest k) s = execUnsupportedRequest k s := rfl
theorem exec_barAccessRejected (a : BarAccess) (s : State) :
    exec (.barAccessRejected a) s = execBarAccessRejected a s := rfl
theorem exec_registerWrite (a : BarAccess) (s : State) :
    exec (.registerWrite a) s = execRegisterWrite a s := rfl
theorem exec_sqTailWrite (a : BarAccess) (s : State) :
    exec (.sqTailWrite a) s = execSqTailWrite a s := rfl
theorem exec_cqHeadWrite (a : BarAccess) (s : State) :
    exec (.cqHeadWrite a) s = execCqHeadWrite a s := rfl
theorem exec_interruptMessageStoreWrite (a : BarAccess) (s : State) :
    exec (.interruptMessageStoreWrite a) s = execInterruptMessageStoreWrite a s := rfl
theorem exec_descriptorFetch (s : State) :
    exec (.descriptorFetch) s = execDescriptorFetch s := rfl
theorem exec_descriptorArrival (slice ring : Nat) (desc : List Byte) (s : State) :
    exec (.descriptorArrival slice ring desc) s = execDescriptorArrival slice ring desc s := rfl
theorem exec_dmaReadFault (r : ReadFor) (f : ReadFail) (addr : Nat) (s : State) :
    exec (.dmaReadFault r f addr) s = execDmaReadFault r f addr s := rfl
theorem exec_pcieCompletionTimeout (r : ReadFor) (addr : Nat) (s : State) :
    exec (.pcieCompletionTimeout r addr) s = execPcieCompletionTimeout r addr s := rfl
theorem exec_ideCheckFail (stream : Nat) (reads : List ReadFor) (s : State) :
    exec (.ideCheckFail stream reads) s = execIdeCheckFail stream reads s := rfl
theorem exec_doeDiscovery (r : DoeReq) (s : State) :
    exec (.doeDiscovery r) s = execDoeDiscovery r s := rfl
theorem exec_getVersion (r : DoeReq) (s : State) :
    exec (.getVersion r) s = execGetVersion r s := rfl
theorem exec_getCapabilities (r : DoeReq) (s : State) :
    exec (.getCapabilities r) s = execGetCapabilities r s := rfl
theorem exec_negotiateAlgorithms (r : DoeReq) (s : State) :
    exec (.negotiateAlgorithms r) s = execNegotiateAlgorithms r s := rfl
theorem exec_getDigests (r : DoeReq) (s : State) :
    exec (.getDigests r) s = execGetDigests r s := rfl
theorem exec_getCertificate (r : DoeReq) (s : State) :
    exec (.getCertificate r) s = execGetCertificate r s := rfl
theorem exec_challenge (r : DoeReq) (s : State) :
    exec (.challenge r) s = execChallenge r s := rfl
theorem exec_getMeasurements (r : DoeReq) (s : State) :
    exec (.getMeasurements r) s = execGetMeasurements r s := rfl
theorem exec_keyExchange (r : DoeReq) (s : State) :
    exec (.keyExchange r) s = execKeyExchange r s := rfl
theorem exec_finish (r : DoeReq) (s : State) :
    exec (.finish r) s = execFinish r s := rfl
theorem exec_heartbeatSpdm (r : DoeReq) (s : State) :
    exec (.heartbeatSpdm r) s = execHeartbeatSpdm r s := rfl
theorem exec_keyUpdate (r : DoeReq) (s : State) :
    exec (.keyUpdate r) s = execKeyUpdate r s := rfl
theorem exec_endSession (r : DoeReq) (s : State) :
    exec (.endSession r) s = execEndSession r s := rfl
theorem exec_ideKm (r : DoeReq) (s : State) :
    exec (.ideKm r) s = execIdeKm r s := rfl
theorem exec_itemDispatch (s : State) :
    exec (.itemDispatch) s = execItemDispatch s := rfl
theorem exec_preemptSave (core thread : Nat) (s : State) :
    exec (.preemptSave core thread) s = execPreemptSave core thread s := rfl
theorem exec_itemFinish (core thread : Nat) (s : State) :
    exec (.itemFinish core thread) s = execItemFinish core thread s := rfl
theorem exec_drainCeilingExpiry (slice : Nat) (s : State) :
    exec (.drainCeilingExpiry slice) s = execDrainCeilingExpiry slice s := rfl
theorem exec_coreFence (core cause : Nat) (s : State) :
    exec (.coreFence core cause) s = execCoreFence core cause s := rfl
theorem exec_engineFence (cipher : Bool) (n cause : Nat) (s : State) :
    exec (.engineFence cipher n cause) s = execEngineFence cipher n cause s := rfl
theorem exec_pkEngineFence (n cause : Nat) (s : State) :
    exec (.pkEngineFence n cause) s = execPkEngineFence n cause s := rfl
theorem exec_keyCacheBankFence (bank cause : Nat) (reader : Option (Nat × Nat)) (s : State) :
    exec (.keyCacheBankFence bank cause reader) s = execKeyCacheBankFence bank cause reader s := rfl
theorem exec_sliceError (slice cause : Nat) (s : State) :
    exec (.sliceError slice cause) s = execSliceError slice cause s := rfl
theorem exec_deviceFaultStop (block : Nat) (s : State) :
    exec (.deviceFaultStop block) s = execDeviceFaultStop block s := rfl
theorem exec_cpLockstepMismatch (s : State) :
    exec (.cpLockstepMismatch) s = execCpLockstepMismatch s := rfl
theorem exec_cpWatchdogKick (s : State) :
    exec (.cpWatchdogKick) s = execCpWatchdogKick s := rfl
theorem exec_cpWatchdogExpiry (s : State) :
    exec (.cpWatchdogExpiry) s = execCpWatchdogExpiry s := rfl
theorem exec_cpRestartComplete (s : State) :
    exec (.cpRestartComplete) s = execCpRestartComplete s := rfl
theorem exec_gateViolation (a : GateAccess) (s : State) :
    exec (.gateViolation a) s = execGateViolation a s := rfl
theorem exec_engineRequestStart (pool : Pool) (s : State) :
    exec (.engineRequestStart pool) s = execEngineRequestStart pool s := rfl
theorem exec_engineRequestComplete (pool : Pool) (n : Nat) (s : State) :
    exec (.engineRequestComplete pool n) s = execEngineRequestComplete pool n s := rfl
theorem exec_engineAbortComplete (pool : Pool) (n : Nat) (s : State) :
    exec (.engineAbortComplete pool n) s = execEngineAbortComplete pool n s := rfl
theorem exec_pkAbortComplete (n : Nat) (s : State) :
    exec (.pkAbortComplete n) s = execPkAbortComplete n s := rfl
theorem exec_keyImport (r : Run) (s : State) :
    exec (.keyImport r) s = execKeyImport r s := rfl
theorem exec_keyExport (r : Run) (s : State) :
    exec (.keyExport r) s = execKeyExport r s := rfl
theorem exec_keyGenerate (r : Run) (s : State) :
    exec (.keyGenerate r) s = execKeyGenerate r s := rfl
theorem exec_keyCheckValue (r : Run) (s : State) :
    exec (.keyCheckValue r) s = execKeyCheckValue r s := rfl
theorem exec_keyStore (r : Run) (s : State) :
    exec (.keyStore r) s = execKeyStore r s := rfl
theorem exec_keyDelete (r : Run) (s : State) :
    exec (.keyDelete r) s = execKeyDelete r s := rfl
theorem exec_keyDerive (r : Run) (s : State) :
    exec (.keyDerive r) s = execKeyDerive r s := rfl
theorem exec_keyTranslate (r : Run) (s : State) :
    exec (.keyTranslate r) s = execKeyTranslate r s := rfl
theorem exec_keyLoadEphemeral (r : Run) (s : State) :
    exec (.keyLoadEphemeral r) s = execKeyLoadEphemeral r s := rfl
theorem exec_keyRelease (r : Run) (s : State) :
    exec (.keyRelease r) s = execKeyRelease r s := rfl
theorem exec_keySlotInfo (r : Run) (s : State) :
    exec (.keySlotInfo r) s = execKeySlotInfo r s := rfl
theorem exec_reservationCommit (slice slot : Nat) (s : State) :
    exec (.reservationCommit slice slot) s = execReservationCommit slice slot s := rfl
theorem exec_pinTranslate (r : Run) (s : State) :
    exec (.pinTranslate r) s = execPinTranslate r s := rfl
theorem exec_pinVerifyOffset (r : Run) (s : State) :
    exec (.pinVerifyOffset r) s = execPinVerifyOffset r s := rfl
theorem exec_pinOffsetGenerate (r : Run) (s : State) :
    exec (.pinOffsetGenerate r) s = execPinOffsetGenerate r s := rfl
theorem exec_pinVerifyPvv (r : Run) (s : State) :
    exec (.pinVerifyPvv r) s = execPinVerifyPvv r s := rfl
theorem exec_pvvGenerate (r : Run) (s : State) :
    exec (.pvvGenerate r) s = execPvvGenerate r s := rfl
theorem exec_pinVerifyReference (r : Run) (s : State) :
    exec (.pinVerifyReference r) s = execPinVerifyReference r s := rfl
theorem exec_pinReferenceGenerate (r : Run) (s : State) :
    exec (.pinReferenceGenerate r) s = execPinReferenceGenerate r s := rfl
theorem exec_arqcVerify (r : Run) (s : State) :
    exec (.arqcVerify r) s = execArqcVerify r s := rfl
theorem exec_arpcGenerate (r : Run) (s : State) :
    exec (.arpcGenerate r) s = execArpcGenerate r s := rfl
theorem exec_emvScriptMac (r : Run) (s : State) :
    exec (.emvScriptMac r) s = execEmvScriptMac r s := rfl
theorem exec_emvScriptPin (r : Run) (s : State) :
    exec (.emvScriptPin r) s = execEmvScriptPin r s := rfl
theorem exec_ccvGenerate (r : Run) (s : State) :
    exec (.ccvGenerate r) s = execCcvGenerate r s := rfl
theorem exec_ccvVerify (r : Run) (s : State) :
    exec (.ccvVerify r) s = execCcvVerify r s := rfl
theorem exec_macGenerate (r : Run) (s : State) :
    exec (.macGenerate r) s = execMacGenerate r s := rfl
theorem exec_macVerify (r : Run) (s : State) :
    exec (.macVerify r) s = execMacVerify r s := rfl
theorem exec_dataEncrypt (r : Run) (s : State) :
    exec (.dataEncrypt r) s = execDataEncrypt r s := rfl
theorem exec_dataDecrypt (r : Run) (s : State) :
    exec (.dataDecrypt r) s = execDataDecrypt r s := rfl
theorem exec_bulkMacGenerate (r : Run) (s : State) :
    exec (.bulkMacGenerate r) s = execBulkMacGenerate r s := rfl
theorem exec_bulkMacVerify (r : Run) (s : State) :
    exec (.bulkMacVerify r) s = execBulkMacVerify r s := rfl
theorem exec_digest (r : Run) (s : State) :
    exec (.digest r) s = execDigest r s := rfl
theorem exec_digestVerify (r : Run) (s : State) :
    exec (.digestVerify r) s = execDigestVerify r s := rfl
theorem exec_hmacDeriveKey (r : Run) (s : State) :
    exec (.hmacDeriveKey r) s = execHmacDeriveKey r s := rfl
theorem exec_rsaSign (r : Run) (s : State) :
    exec (.rsaSign r) s = execRsaSign r s := rfl
theorem exec_rsaVerify (r : Run) (s : State) :
    exec (.rsaVerify r) s = execRsaVerify r s := rfl
theorem exec_rsaDecrypt (r : Run) (s : State) :
    exec (.rsaDecrypt r) s = execRsaDecrypt r s := rfl
theorem exec_ecdsaSign (r : Run) (s : State) :
    exec (.ecdsaSign r) s = execEcdsaSign r s := rfl
theorem exec_ecdsaVerify (r : Run) (s : State) :
    exec (.ecdsaVerify r) s = execEcdsaVerify r s := rfl
theorem exec_ecdhDerive (r : Run) (s : State) :
    exec (.ecdhDerive r) s = execEcdhDerive r s := rfl
theorem exec_eddsaSign (r : Run) (s : State) :
    exec (.eddsaSign r) s = execEddsaSign r s := rfl
theorem exec_eddsaVerify (r : Run) (s : State) :
    exec (.eddsaVerify r) s = execEddsaVerify r s := rfl
theorem exec_mlkemEncapsulate (r : Run) (s : State) :
    exec (.mlkemEncapsulate r) s = execMlkemEncapsulate r s := rfl
theorem exec_mlkemDecapsulate (r : Run) (s : State) :
    exec (.mlkemDecapsulate r) s = execMlkemDecapsulate r s := rfl
theorem exec_mldsaSign (r : Run) (s : State) :
    exec (.mldsaSign r) s = execMldsaSign r s := rfl
theorem exec_mldsaVerify (r : Run) (s : State) :
    exec (.mldsaVerify r) s = execMldsaVerify r s := rfl
theorem exec_pkKeyGenerate (r : Run) (s : State) :
    exec (.pkKeyGenerate r) s = execPkKeyGenerate r s := rfl
theorem exec_randomGenerate (r : Run) (s : State) :
    exec (.randomGenerate r) s = execRandomGenerate r s := rfl
theorem exec_rngStatus (r : Run) (s : State) :
    exec (.rngStatus r) s = execRngStatus r s := rfl
theorem exec_conditionedBlock (s : State) :
    exec (.conditionedBlock) s = execConditionedBlock s := rfl
theorem exec_aptWindowClose (s : State) :
    exec (.aptWindowClose) s = execAptWindowClose s := rfl
theorem exec_healthTestFailure (test : Nat) (s : State) :
    exec (.healthTestFailure test) s = execHealthTestFailure test s := rfl
theorem exec_sourceStartupPass (s : State) :
    exec (.sourceStartupPass) s = execSourceStartupPass s := rfl
theorem exec_sourceStartupTimeout (s : State) :
    exec (.sourceStartupTimeout) s = execSourceStartupTimeout s := rfl
theorem exec_instanceInstantiate (s : State) :
    exec (.instanceInstantiate) s = execInstanceInstantiate s := rfl
theorem exec_drbgGenerate (n : Nat) (s : State) :
    exec (.drbgGenerate n) s = execDrbgGenerate n s := rfl
theorem exec_reseedDue (n : Nat) (s : State) :
    exec (.reseedDue n) s = execReseedDue n s := rfl
theorem exec_reseedComplete (s : State) :
    exec (.reseedComplete) s = execReseedComplete s := rfl
theorem exec_conditionerMismatch (s : State) :
    exec (.conditionerMismatch) s = execConditionerMismatch s := rfl
theorem exec_drbgInstanceFence (n cause : Nat) (reader : Option (Nat × Nat)) (s : State) :
    exec (.drbgInstanceFence n cause reader) s = execDrbgInstanceFence n cause reader s := rfl
theorem exec_rawSampleRunEnd (healthFails : Nat) (s : State) :
    exec (.rawSampleRunEnd healthFails) s = execRawSampleRunEnd healthFails s := rfl
theorem exec_mbAck (mailbox : Nat) (s : State) :
    exec (.mbAck mailbox) s = execMbAck mailbox s := rfl
theorem exec_executionLimitExpiry (mailbox : Nat) (s : State) :
    exec (.executionLimitExpiry mailbox) s = execExecutionLimitExpiry mailbox s := rfl
theorem exec_devInfo (r : MbReq) (s : State) :
    exec (.devInfo r) s = execDevInfo r s := rfl
theorem exec_devReset (r : MbReq) (s : State) :
    exec (.devReset r) s = execDevReset r s := rfl
theorem exec_devResetStart (p : Pins) (s : State) :
    exec (.devResetStart p) s = execDevResetStart p s := rfl
theorem exec_timeSet (r : MbReq) (s : State) :
    exec (.timeSet r) s = execTimeSet r s := rfl
theorem exec_nonceGet (r : MbReq) (s : State) :
    exec (.nonceGet r) s = execNonceGet r s := rfl
theorem exec_sessionOpen (r : MbReq) (pointOk encapOk : Bool) (s : State) :
    exec (.sessionOpen r pointOk encapOk) s = execSessionOpen r pointOk encapOk s := rfl
theorem exec_sessionClose (r : MbReq) (s : State) :
    exec (.sessionClose r) s = execSessionClose r s := rfl
theorem exec_sessionIdleExpiry (session : Nat) (s : State) :
    exec (.sessionIdleExpiry session) s = execSessionIdleExpiry session s := rfl
theorem exec_hifPolicySet (r : MbReq) (s : State) :
    exec (.hifPolicySet r) s = execHifPolicySet r s := rfl
theorem exec_rngSelfTest (r : MbReq) (fails : Nat) (s : State) :
    exec (.rngSelfTest r fails) s = execRngSelfTest r fails s := rfl
theorem exec_rngRawSample (r : MbReq) (s : State) :
    exec (.rngRawSample r) s = execRngRawSample r s := rfl
theorem exec_sliceCreate (r : MbReq) (s : State) :
    exec (.sliceCreate r) s = execSliceCreate r s := rfl
theorem exec_sliceBind (r : MbReq) (s : State) :
    exec (.sliceBind r) s = execSliceBind r s := rfl
theorem exec_sliceRingSetup (r : MbReq) (s : State) :
    exec (.sliceRingSetup r) s = execSliceRingSetup r s := rfl
theorem exec_sliceActivate (r : MbReq) (s : State) :
    exec (.sliceActivate r) s = execSliceActivate r s := rfl
theorem exec_sliceQuiesce (r : MbReq) (s : State) :
    exec (.sliceQuiesce r) s = execSliceQuiesce r s := rfl
theorem exec_sliceFreeze (r : MbReq) (s : State) :
    exec (.sliceFreeze r) s = execSliceFreeze r s := rfl
theorem exec_sliceResume (r : MbReq) (s : State) :
    exec (.sliceResume r) s = execSliceResume r s := rfl
theorem exec_sliceReset (r : MbReq) (s : State) :
    exec (.sliceReset r) s = execSliceReset r s := rfl
theorem exec_sliceRemove (r : MbReq) (s : State) :
    exec (.sliceRemove r) s = execSliceRemove r s := rfl
theorem exec_sliceSave (r : MbReq) (s : State) :
    exec (.sliceSave r) s = execSliceSave r s := rfl
theorem exec_sliceRestore (r : MbReq) (body : List Byte) (imageTagOk : Bool) (s : State) :
    exec (.sliceRestore r body imageTagOk) s = execSliceRestore r body imageTagOk s := rfl
theorem exec_slicePolicySet (r : MbReq) (s : State) :
    exec (.slicePolicySet r) s = execSlicePolicySet r s := rfl
theorem exec_sliceStatus (r : MbReq) (s : State) :
    exec (.sliceStatus r) s = execSliceStatus r s := rfl
theorem exec_migrationKeyOffer (r : MbReq) (s : State) :
    exec (.migrationKeyOffer r) s = execMigrationKeyOffer r s := rfl
theorem exec_migrationKeyAccept (r : MbReq) (v : MigVerdict) (s : State) :
    exec (.migrationKeyAccept r v) s = execMigrationKeyAccept r v s := rfl
theorem exec_migrationKeyComplete (r : MbReq) (v : MigVerdict) (s : State) :
    exec (.migrationKeyComplete r v) s = execMigrationKeyComplete r v s := rfl
theorem exec_migrationKeyExpiry (entry : Nat) (s : State) :
    exec (.migrationKeyExpiry entry) s = execMigrationKeyExpiry entry s := rfl
theorem exec_tenantPolicySet (r : MbReq) (s : State) :
    exec (.tenantPolicySet r) s = execTenantPolicySet r s := rfl
theorem exec_officerEnroll (r : MbReq) (v : List KeyVerdict) (s : State) :
    exec (.officerEnroll r v) s = execOfficerEnroll r v s := rfl
theorem exec_officerRemove (r : MbReq) (s : State) :
    exec (.officerRemove r) s = execOfficerRemove r s := rfl
theorem exec_quorumSet (r : MbReq) (s : State) :
    exec (.quorumSet r) s = execQuorumSet r s := rfl
theorem exec_officerList (r : MbReq) (s : State) :
    exec (.officerList r) s = execOfficerList r s := rfl
theorem exec_lmkComponentLoad (r : MbReq) (s : State) :
    exec (.lmkComponentLoad r) s = execLmkComponentLoad r s := rfl
theorem exec_lmkCommit (r : MbReq) (s : State) :
    exec (.lmkCommit r) s = execLmkCommit r s := rfl
theorem exec_lmkTr34Load (r : MbReq) (v : TokenVerdict) (s : State) :
    exec (.lmkTr34Load r v) s = execLmkTr34Load r v s := rfl
theorem exec_lmkActivate (r : MbReq) (s : State) :
    exec (.lmkActivate r) s = execLmkActivate r s := rfl
theorem exec_lmkRemove (r : MbReq) (s : State) :
    exec (.lmkRemove r) s = execLmkRemove r s := rfl
theorem exec_lmkInfo (r : MbReq) (s : State) :
    exec (.lmkInfo r) s = execLmkInfo r s := rfl
theorem exec_tr34KrdInit (r : MbReq) (pub : List Byte) (s : State) :
    exec (.tr34KrdInit r pub) s = execTr34KrdInit r pub s := rfl
theorem exec_tr34AnchorSet (r : MbReq) (parses : Bool) (s : State) :
    exec (.tr34AnchorSet r parses) s = execTr34AnchorSet r parses s := rfl
theorem exec_curveLoad (r : MbReq) (v : CurveVerdict) (s : State) :
    exec (.curveLoad r v) s = execCurveLoad r v s := rfl
theorem exec_curveClear (r : MbReq) (s : State) :
    exec (.curveClear r) s = execCurveClear r s := rfl
theorem exec_slotImport (r : MbReq) (s : State) :
    exec (.slotImport r) s = execSlotImport r s := rfl
theorem exec_slotDelete (r : MbReq) (s : State) :
    exec (.slotDelete r) s = execSlotDelete r s := rfl
theorem exec_logRead (r : MbReq) (s : State) :
    exec (.logRead r) s = execLogRead r s := rfl
theorem exec_logClear (r : MbReq) (s : State) :
    exec (.logClear r) s = execLogClear r s := rfl
theorem exec_logRateSet (r : MbReq) (s : State) :
    exec (.logRateSet r) s = execLogRateSet r s := rfl
theorem exec_ctrSelect (r : MbReq) (s : State) :
    exec (.ctrSelect r) s = execCtrSelect r s := rfl
theorem exec_ctrRead (r : MbReq) (s : State) :
    exec (.ctrRead r) s = execCtrRead r s := rfl
theorem exec_ctrDumpSet (r : MbReq) (s : State) :
    exec (.ctrDumpSet r) s = execCtrDumpSet r s := rfl
theorem exec_bwmonSet (r : MbReq) (s : State) :
    exec (.bwmonSet r) s = execBwmonSet r s := rfl
theorem exec_ctrGrant (r : MbReq) (s : State) :
    exec (.ctrGrant r) s = execCtrGrant r s := rfl
theorem exec_ctrRevoke (r : MbReq) (s : State) :
    exec (.ctrRevoke r) s = execCtrRevoke r s := rfl
theorem exec_tamperStatus (r : MbReq) (s : State) :
    exec (.tamperStatus r) s = execTamperStatus r s := rfl
theorem exec_tamperUnlock (r : MbReq) (s : State) :
    exec (.tamperUnlock r) s = execTamperUnlock r s := rfl
theorem exec_tamperConfig (r : MbReq) (s : State) :
    exec (.tamperConfig r) s = execTamperConfig r s := rfl
theorem exec_tamperFuseDisable (r : MbReq) (s : State) :
    exec (.tamperFuseDisable r) s = execTamperFuseDisable r s := rfl
theorem exec_lcClose (r : MbReq) (s : State) :
    exec (.lcClose r) s = execLcClose r s := rfl
theorem exec_lcScrap (r : MbReq) (s : State) :
    exec (.lcScrap r) s = execLcScrap r s := rfl
theorem exec_lcScrapStart (s : State) :
    exec (.lcScrapStart) s = execLcScrapStart s := rfl
theorem exec_debugChallenge (r : MbReq) (s : State) :
    exec (.debugChallenge r) s = execDebugChallenge r s := rfl
theorem exec_debugChallengeExpiry (s : State) :
    exec (.debugChallengeExpiry) s = execDebugChallengeExpiry s := rfl
theorem exec_debugReopen (r : MbReq) (sigsOk : Bool) (s : State) :
    exec (.debugReopen r sigsOk) s = execDebugReopen r sigsOk s := rfl
theorem exec_debugReopenStart (s : State) :
    exec (.debugReopenStart) s = execDebugReopenStart s := rfl
theorem exec_fwStatus (r : MbReq) (s : State) :
    exec (.fwStatus r) s = execFwStatus r s := rfl
theorem exec_fwActivate (r : MbReq) (s : State) :
    exec (.fwActivate r) s = execFwActivate r s := rfl
theorem exec_fwDiscard (r : MbReq) (s : State) :
    exec (.fwDiscard r) s = execFwDiscard r s := rfl
theorem exec_pairFound (r : MbReq) (s : State) :
    exec (.pairFound r) s = execPairFound r s := rfl
theorem exec_pairJoin (r : MbReq) (s : State) :
    exec (.pairJoin r) s = execPairJoin r s := rfl
theorem exec_pairAdmit (r : MbReq) (s : State) :
    exec (.pairAdmit r) s = execPairAdmit r s := rfl
theorem exec_pairResolve (r : MbReq) (s : State) :
    exec (.pairResolve r) s = execPairResolve r s := rfl
theorem exec_unpair (r : MbReq) (s : State) :
    exec (.unpair r) s = execUnpair r s := rfl
theorem exec_pairStatus (r : MbReq) (s : State) :
    exec (.pairStatus r) s = execPairStatus r s := rfl
theorem exec_pairTimeoutSet (r : MbReq) (s : State) :
    exec (.pairTimeoutSet r) s = execPairTimeoutSet r s := rfl
theorem exec_pairSwap (r : MbReq) (s : State) :
    exec (.pairSwap r) s = execPairSwap r s := rfl
theorem exec_pairTakeOver (r : MbReq) (s : State) :
    exec (.pairTakeOver r) s = execPairTakeOver r s := rfl
theorem exec_tamperAlarm (mask : BitVec 12) (temps : Option (BitVec 16 × BitVec 16)) (s : State) :
    exec (.tamperAlarm mask temps) s = execTamperAlarm mask temps s := rfl
theorem exec_eraseVolatileComplete (s : State) :
    exec (.eraseVolatileComplete) s = execEraseVolatileComplete s := rfl
theorem exec_eraseShareComplete (s : State) :
    exec (.eraseShareComplete) s = execEraseShareComplete s := rfl
theorem exec_tamperSourceClear (n : Nat) (s : State) :
    exec (.tamperSourceClear n) s = execTamperSourceClear n s := rfl
theorem exec_extTamperEdge (lineB : Bool) (phaseUs : Nat) (s : State) :
    exec (.extTamperEdge lineB phaseUs) s = execExtTamperEdge lineB phaseUs s := rfl
theorem exec_extTamperPhaseTimeout (lineB : Bool) (s : State) :
    exec (.extTamperPhaseTimeout lineB) s = execExtTamperPhaseTimeout lineB s := rfl
theorem exec_extTamperPowerupCheck (s : State) :
    exec (.extTamperPowerupCheck) s = execExtTamperPowerupCheck s := rfl
theorem exec_fuseResense (ok : Bool) (s : State) :
    exec (.fuseResense ok) s = execFuseResense ok s := rfl
theorem exec_shieldPatternRenew (ok : Bool) (s : State) :
    exec (.shieldPatternRenew ok) s = execShieldPatternRenew ok s := rfl
theorem exec_jtagInstructionLoad (ir : Nat) (s : State) :
    exec (.jtagInstructionLoad ir) s = execJtagInstructionLoad ir s := rfl
theorem exec_muleCheckerTest (c : Checker) (pass : Bool) (s : State) :
    exec (.muleCheckerTest c pass) s = execMuleCheckerTest c pass s := rfl
theorem exec_muleProgress (s : State) :
    exec (.muleProgress) s = execMuleProgress s := rfl
theorem exec_muleProgressTimeout (s : State) :
    exec (.muleProgressTimeout) s = execMuleProgressTimeout s := rfl
theorem exec_scrubPass (a : Arr) (found : ScrubFound) (word : Nat) (s : State) :
    exec (.scrubPass a found word) s = execScrubPass a found word s := rfl
theorem exec_skerryScrub (r : SkRec) (ok : Bool) (s : State) :
    exec (.skerryScrub r ok) s = execSkerryScrub r ok s := rfl
theorem exec_skerryCommit (s : State) :
    exec (.skerryCommit) s = execSkerryCommit s := rfl
theorem exec_straitTrainingStart (s : State) :
    exec (.straitTrainingStart) s = execStraitTrainingStart s := rfl
theorem exec_straitTrainingComplete (lanes : Nat) (s : State) :
    exec (.straitTrainingComplete lanes) s = execStraitTrainingComplete lanes s := rfl
theorem exec_straitTrainingRetry (s : State) :
    exec (.straitTrainingRetry) s = execStraitTrainingRetry s := rfl
theorem exec_heartbeatSend (s : State) :
    exec (.heartbeatSend) s = execHeartbeatSend s := rfl
theorem exec_hello (auth : Bool) (m : HelloMsg) (s : State) :
    exec (.hello auth m) s = execHello auth m s := rfl
theorem exec_heartbeat (auth : Bool) (m : HbMsg) (s : State) :
    exec (.heartbeat auth m) s = execHeartbeat auth m s := rfl
theorem exec_journalReq (auth : Bool) (step : Step) (s : State) :
    exec (.journalReq auth step) s = execJournalReq auth step s := rfl
theorem exec_journal (auth : Bool) (e : Entry) (s : State) :
    exec (.journal auth e) s = execJournal auth e s := rfl
theorem exec_journalAck (auth : Bool) (seq : Nat) (s : State) :
    exec (.journalAck auth seq) s = execJournalAck auth seq s := rfl
theorem exec_resync (auth : Bool) (m : ResyncMsg) (s : State) :
    exec (.resync auth m) s = execResync auth m s := rfl
theorem exec_resyncComplete (s : State) :
    exec (.resyncComplete) s = execResyncComplete s := rfl
theorem exec_relinquish (auth : Bool) (seq : Nat) (s : State) :
    exec (.relinquish auth seq) s = execRelinquish auth seq s := rfl
theorem exec_control (auth : Bool) (m : ControlMsg) (s : State) :
    exec (.control auth m) s = execControl auth m s := rfl
theorem exec_heartbeatLoss (s : State) :
    exec (.heartbeatLoss) s = execHeartbeatLoss s := rfl
theorem exec_journalAckTimeout (s : State) :
    exec (.journalAckTimeout) s = execJournalAckTimeout s := rfl
theorem exec_pairTimeoutExpiry (s : State) :
    exec (.pairTimeoutExpiry) s = execPairTimeoutExpiry s := rfl
theorem exec_eventRecordWrite (s : State) :
    exec (.eventRecordWrite) s = execEventRecordWrite s := rfl
theorem exec_tokenAdd (code : Nat) (s : State) :
    exec (.tokenAdd code) s = execTokenAdd code s := rfl
theorem exec_suppressionSummary (s : State) :
    exec (.suppressionSummary) s = execSuppressionSummary s := rfl
theorem exec_bwmonWindowEnd (m bytes : Nat) (s : State) :
    exec (.bwmonWindowEnd m bytes) s = execBwmonWindowEnd m bytes s := rfl
theorem exec_dumpPeriodEnd (late : Bool) (s : State) :
    exec (.dumpPeriodEnd late) s = execDumpPeriodEnd late s := rfl
theorem exec_pufReread (ok : Bool) (s : State) :
    exec (.pufReread ok) s = execPufReread ok s := rfl
theorem exec_bootImageVerify (v : BootVerdict) (s : State) :
    exec (.bootImageVerify v) s = execBootImageVerify v s := rfl
theorem exec_deviceReady (selfTestFails : List (Nat × Nat)) (loadFail : Option (Nat × Nat)) (badSlices : List Nat) (s : State) :
    exec (.deviceReady selfTestFails loadFail badSlices) s = execDeviceReady selfTestFails loadFail badSlices s := rfl
theorem exec_status (f : SvcFrame) (s : State) :
    exec (.status f) s = execStatus f s := rfl
theorem exec_svcLogRead (f : SvcFrame) (s : State) :
    exec (.svcLogRead f) s = execSvcLogRead f s := rfl
theorem exec_pkgBegin (f : SvcFrame) (s : State) :
    exec (.pkgBegin f) s = execPkgBegin f s := rfl
theorem exec_pkgData (f : SvcFrame) (s : State) :
    exec (.pkgData f) s = execPkgData f s := rfl
theorem exec_pkgEnd (f : SvcFrame) (v : PkgVerdict) (s : State) :
    exec (.pkgEnd f v) s = execPkgEnd f v s := rfl
theorem exec_pkgAbort (f : SvcFrame) (s : State) :
    exec (.pkgAbort f) s = execPkgAbort f s := rfl
theorem exec_activate (f : SvcFrame) (s : State) :
    exec (.activate f) s = execActivate f s := rfl
theorem exec_test (f : SvcFrame) (s : State) :
    exec (.test f) s = execTest f s := rfl
theorem exec_svcResponseRead (s : State) :
    exec (.svcResponseRead) s = execSvcResponseRead s := rfl
theorem exec_svcBootStatusRead (s : State) :
    exec (.svcBootStatusRead) s = execSvcBootStatusRead s := rfl
theorem exec_svcResponseTimeout (s : State) :
    exec (.svcResponseTimeout) s = execSvcResponseTimeout s := rfl
theorem exec_svcTransactionTimeout (s : State) :
    exec (.svcTransactionTimeout) s = execSvcTransactionTimeout s := rfl
theorem exec_svcReceptionTimeout (s : State) :
    exec (.svcReceptionTimeout) s = execSvcReceptionTimeout s := rfl
theorem exec_activationDrainExpiry (s : State) :
    exec (.activationDrainExpiry) s = execActivationDrainExpiry s := rfl
theorem exec_activationBankCommit (s : State) :
    exec (.activationBankCommit) s = execActivationBankCommit s := rfl
theorem exec_activationLoadComplete (failedCores : List Nat) (s : State) :
    exec (.activationLoadComplete failedCores) s = execActivationLoadComplete failedCores s := rfl

end Sys2Proof.Machine
end

