-- ==== Sys2Proof/Laws/State.lean ====
section
/-! SUPPORT. What the shared operations on the device leave unchanged: one lemma for each field, so that no proof unfolds an update. -/

namespace Sys2Proof.Machine

/-! ## Plain updates -/

@[simp] theorem emit_sys (x : Out) (d : Dev) : (emit x d).sys = d.sys := rfl
@[simp] theorem emit_fen (x : Out) (d : Dev) : (emit x d).fen = d.fen := rfl
@[simp] theorem emit_hif (x : Out) (d : Dev) : (emit x d).hif = d.hif := rfl
@[simp] theorem emit_slices (x : Out) (d : Dev) : (emit x d).slices = d.slices := rfl
@[simp] theorem emit_sched (x : Out) (d : Dev) : (emit x d).sched = d.sched := rfl
@[simp] theorem emit_keys (x : Out) (d : Dev) : (emit x d).keys = d.keys := rfl
@[simp] theorem emit_eng (x : Out) (d : Dev) : (emit x d).eng = d.eng := rfl
@[simp] theorem emit_rng (x : Out) (d : Dev) : (emit x d).rng = d.rng := rfl
@[simp] theorem emit_mg (x : Out) (d : Dev) : (emit x d).mg = d.mg := rfl
@[simp] theorem emit_goose (x : Out) (d : Dev) : (emit x d).goose = d.goose := rfl
@[simp] theorem emit_dbg (x : Out) (d : Dev) : (emit x d).dbg = d.dbg := rfl
@[simp] theorem emit_pair (x : Out) (d : Dev) : (emit x d).pair = d.pair := rfl
@[simp] theorem emit_store (x : Out) (d : Dev) : (emit x d).store = d.store := rfl
@[simp] theorem emit_log (x : Out) (d : Dev) : (emit x d).log = d.log := rfl
@[simp] theorem emit_ctr (x : Out) (d : Dev) : (emit x d).ctr = d.ctr := rfl
@[simp] theorem emit_fw (x : Out) (d : Dev) : (emit x d).fw = d.fw := rfl

@[simp] theorem emit_out (x : Out) (d : Dev) : (emit x d).out = x :: d.out := rfl

@[simp] theorem modSlice_sys (n : Nat) (f : Slice → Slice) (d : Dev) : (modSlice n f d).sys = d.sys := rfl
@[simp] theorem modSlice_fen (n : Nat) (f : Slice → Slice) (d : Dev) : (modSlice n f d).fen = d.fen := rfl
@[simp] theorem modSlice_hif (n : Nat) (f : Slice → Slice) (d : Dev) : (modSlice n f d).hif = d.hif := rfl
@[simp] theorem modSlice_sched (n : Nat) (f : Slice → Slice) (d : Dev) : (modSlice n f d).sched = d.sched := rfl
@[simp] theorem modSlice_keys (n : Nat) (f : Slice → Slice) (d : Dev) : (modSlice n f d).keys = d.keys := rfl
@[simp] theorem modSlice_eng (n : Nat) (f : Slice → Slice) (d : Dev) : (modSlice n f d).eng = d.eng := rfl
@[simp] theorem modSlice_rng (n : Nat) (f : Slice → Slice) (d : Dev) : (modSlice n f d).rng = d.rng := rfl
@[simp] theorem modSlice_mg (n : Nat) (f : Slice → Slice) (d : Dev) : (modSlice n f d).mg = d.mg := rfl
@[simp] theorem modSlice_goose (n : Nat) (f : Slice → Slice) (d : Dev) : (modSlice n f d).goose = d.goose := rfl
@[simp] theorem modSlice_dbg (n : Nat) (f : Slice → Slice) (d : Dev) : (modSlice n f d).dbg = d.dbg := rfl
@[simp] theorem modSlice_pair (n : Nat) (f : Slice → Slice) (d : Dev) : (modSlice n f d).pair = d.pair := rfl
@[simp] theorem modSlice_store (n : Nat) (f : Slice → Slice) (d : Dev) : (modSlice n f d).store = d.store := rfl
@[simp] theorem modSlice_log (n : Nat) (f : Slice → Slice) (d : Dev) : (modSlice n f d).log = d.log := rfl
@[simp] theorem modSlice_ctr (n : Nat) (f : Slice → Slice) (d : Dev) : (modSlice n f d).ctr = d.ctr := rfl
@[simp] theorem modSlice_fw (n : Nat) (f : Slice → Slice) (d : Dev) : (modSlice n f d).fw = d.fw := rfl
@[simp] theorem modSlice_out (n : Nat) (f : Slice → Slice) (d : Dev) : (modSlice n f d).out = d.out := rfl

@[simp] theorem modRing_sys (n r : Nat) (f : RingDyn → RingDyn) (d : Dev) : (modRing n r f d).sys = d.sys := rfl
@[simp] theorem modRing_fen (n r : Nat) (f : RingDyn → RingDyn) (d : Dev) : (modRing n r f d).fen = d.fen := rfl
@[simp] theorem modRing_hif (n r : Nat) (f : RingDyn → RingDyn) (d : Dev) : (modRing n r f d).hif = d.hif := rfl
@[simp] theorem modRing_sched (n r : Nat) (f : RingDyn → RingDyn) (d : Dev) : (modRing n r f d).sched = d.sched := rfl
@[simp] theorem modRing_keys (n r : Nat) (f : RingDyn → RingDyn) (d : Dev) : (modRing n r f d).keys = d.keys := rfl
@[simp] theorem modRing_eng (n r : Nat) (f : RingDyn → RingDyn) (d : Dev) : (modRing n r f d).eng = d.eng := rfl
@[simp] theorem modRing_rng (n r : Nat) (f : RingDyn → RingDyn) (d : Dev) : (modRing n r f d).rng = d.rng := rfl
@[simp] theorem modRing_mg (n r : Nat) (f : RingDyn → RingDyn) (d : Dev) : (modRing n r f d).mg = d.mg := rfl
@[simp] theorem modRing_goose (n r : Nat) (f : RingDyn → RingDyn) (d : Dev) : (modRing n r f d).goose = d.goose := rfl
@[simp] theorem modRing_dbg (n r : Nat) (f : RingDyn → RingDyn) (d : Dev) : (modRing n r f d).dbg = d.dbg := rfl
@[simp] theorem modRing_pair (n r : Nat) (f : RingDyn → RingDyn) (d : Dev) : (modRing n r f d).pair = d.pair := rfl
@[simp] theorem modRing_store (n r : Nat) (f : RingDyn → RingDyn) (d : Dev) : (modRing n r f d).store = d.store := rfl
@[simp] theorem modRing_log (n r : Nat) (f : RingDyn → RingDyn) (d : Dev) : (modRing n r f d).log = d.log := rfl
@[simp] theorem modRing_ctr (n r : Nat) (f : RingDyn → RingDyn) (d : Dev) : (modRing n r f d).ctr = d.ctr := rfl
@[simp] theorem modRing_fw (n r : Nat) (f : RingDyn → RingDyn) (d : Dev) : (modRing n r f d).fw = d.fw := rfl
@[simp] theorem modRing_out (n r : Nat) (f : RingDyn → RingDyn) (d : Dev) : (modRing n r f d).out = d.out := rfl

@[simp] theorem modSlot_sys (n k : Nat) (f : Slot → Slot) (d : Dev) : (modSlot n k f d).sys = d.sys := rfl
@[simp] theorem modSlot_fen (n k : Nat) (f : Slot → Slot) (d : Dev) : (modSlot n k f d).fen = d.fen := rfl
@[simp] theorem modSlot_hif (n k : Nat) (f : Slot → Slot) (d : Dev) : (modSlot n k f d).hif = d.hif := rfl
@[simp] theorem modSlot_sched (n k : Nat) (f : Slot → Slot) (d : Dev) : (modSlot n k f d).sched = d.sched := rfl
@[simp] theorem modSlot_keys (n k : Nat) (f : Slot → Slot) (d : Dev) : (modSlot n k f d).keys = d.keys := rfl
@[simp] theorem modSlot_eng (n k : Nat) (f : Slot → Slot) (d : Dev) : (modSlot n k f d).eng = d.eng := rfl
@[simp] theorem modSlot_rng (n k : Nat) (f : Slot → Slot) (d : Dev) : (modSlot n k f d).rng = d.rng := rfl
@[simp] theorem modSlot_mg (n k : Nat) (f : Slot → Slot) (d : Dev) : (modSlot n k f d).mg = d.mg := rfl
@[simp] theorem modSlot_goose (n k : Nat) (f : Slot → Slot) (d : Dev) : (modSlot n k f d).goose = d.goose := rfl
@[simp] theorem modSlot_dbg (n k : Nat) (f : Slot → Slot) (d : Dev) : (modSlot n k f d).dbg = d.dbg := rfl
@[simp] theorem modSlot_pair (n k : Nat) (f : Slot → Slot) (d : Dev) : (modSlot n k f d).pair = d.pair := rfl
@[simp] theorem modSlot_store (n k : Nat) (f : Slot → Slot) (d : Dev) : (modSlot n k f d).store = d.store := rfl
@[simp] theorem modSlot_log (n k : Nat) (f : Slot → Slot) (d : Dev) : (modSlot n k f d).log = d.log := rfl
@[simp] theorem modSlot_ctr (n k : Nat) (f : Slot → Slot) (d : Dev) : (modSlot n k f d).ctr = d.ctr := rfl
@[simp] theorem modSlot_fw (n k : Nat) (f : Slot → Slot) (d : Dev) : (modSlot n k f d).fw = d.fw := rfl
@[simp] theorem modSlot_out (n k : Nat) (f : Slot → Slot) (d : Dev) : (modSlot n k f d).out = d.out := rfl

@[simp] theorem modBox_sys (m : Nat) (f : Mailbox → Mailbox) (d : Dev) : (modBox m f d).sys = d.sys := rfl
@[simp] theorem modBox_fen (m : Nat) (f : Mailbox → Mailbox) (d : Dev) : (modBox m f d).fen = d.fen := rfl
@[simp] theorem modBox_hif (m : Nat) (f : Mailbox → Mailbox) (d : Dev) : (modBox m f d).hif = d.hif := rfl
@[simp] theorem modBox_slices (m : Nat) (f : Mailbox → Mailbox) (d : Dev) : (modBox m f d).slices = d.slices := rfl
@[simp] theorem modBox_sched (m : Nat) (f : Mailbox → Mailbox) (d : Dev) : (modBox m f d).sched = d.sched := rfl
@[simp] theorem modBox_keys (m : Nat) (f : Mailbox → Mailbox) (d : Dev) : (modBox m f d).keys = d.keys := rfl
@[simp] theorem modBox_eng (m : Nat) (f : Mailbox → Mailbox) (d : Dev) : (modBox m f d).eng = d.eng := rfl
@[simp] theorem modBox_rng (m : Nat) (f : Mailbox → Mailbox) (d : Dev) : (modBox m f d).rng = d.rng := rfl
@[simp] theorem modBox_goose (m : Nat) (f : Mailbox → Mailbox) (d : Dev) : (modBox m f d).goose = d.goose := rfl
@[simp] theorem modBox_dbg (m : Nat) (f : Mailbox → Mailbox) (d : Dev) : (modBox m f d).dbg = d.dbg := rfl
@[simp] theorem modBox_pair (m : Nat) (f : Mailbox → Mailbox) (d : Dev) : (modBox m f d).pair = d.pair := rfl
@[simp] theorem modBox_store (m : Nat) (f : Mailbox → Mailbox) (d : Dev) : (modBox m f d).store = d.store := rfl
@[simp] theorem modBox_log (m : Nat) (f : Mailbox → Mailbox) (d : Dev) : (modBox m f d).log = d.log := rfl
@[simp] theorem modBox_ctr (m : Nat) (f : Mailbox → Mailbox) (d : Dev) : (modBox m f d).ctr = d.ctr := rfl
@[simp] theorem modBox_fw (m : Nat) (f : Mailbox → Mailbox) (d : Dev) : (modBox m f d).fw = d.fw := rfl
@[simp] theorem modBox_out (m : Nat) (f : Mailbox → Mailbox) (d : Dev) : (modBox m f d).out = d.out := rfl

@[simp] theorem modHif_sys (f : Hif → Hif) (d : Dev) : (modHif f d).sys = d.sys := rfl
@[simp] theorem modHif_fen (f : Hif → Hif) (d : Dev) : (modHif f d).fen = d.fen := rfl
@[simp] theorem modHif_slices (f : Hif → Hif) (d : Dev) : (modHif f d).slices = d.slices := rfl
@[simp] theorem modHif_sched (f : Hif → Hif) (d : Dev) : (modHif f d).sched = d.sched := rfl
@[simp] theorem modHif_keys (f : Hif → Hif) (d : Dev) : (modHif f d).keys = d.keys := rfl
@[simp] theorem modHif_eng (f : Hif → Hif) (d : Dev) : (modHif f d).eng = d.eng := rfl
@[simp] theorem modHif_rng (f : Hif → Hif) (d : Dev) : (modHif f d).rng = d.rng := rfl
@[simp] theorem modHif_mg (f : Hif → Hif) (d : Dev) : (modHif f d).mg = d.mg := rfl
@[simp] theorem modHif_goose (f : Hif → Hif) (d : Dev) : (modHif f d).goose = d.goose := rfl
@[simp] theorem modHif_dbg (f : Hif → Hif) (d : Dev) : (modHif f d).dbg = d.dbg := rfl
@[simp] theorem modHif_pair (f : Hif → Hif) (d : Dev) : (modHif f d).pair = d.pair := rfl
@[simp] theorem modHif_store (f : Hif → Hif) (d : Dev) : (modHif f d).store = d.store := rfl
@[simp] theorem modHif_log (f : Hif → Hif) (d : Dev) : (modHif f d).log = d.log := rfl
@[simp] theorem modHif_ctr (f : Hif → Hif) (d : Dev) : (modHif f d).ctr = d.ctr := rfl
@[simp] theorem modHif_fw (f : Hif → Hif) (d : Dev) : (modHif f d).fw = d.fw := rfl
@[simp] theorem modHif_out (f : Hif → Hif) (d : Dev) : (modHif f d).out = d.out := rfl

@[simp] theorem modHif_hif (f : Hif → Hif) (d : Dev) : (modHif f d).hif = f d.hif := rfl

@[simp] theorem modRng_sys (f : Rng → Rng) (d : Dev) : (modRng f d).sys = d.sys := rfl
@[simp] theorem modRng_fen (f : Rng → Rng) (d : Dev) : (modRng f d).fen = d.fen := rfl
@[simp] theorem modRng_hif (f : Rng → Rng) (d : Dev) : (modRng f d).hif = d.hif := rfl
@[simp] theorem modRng_slices (f : Rng → Rng) (d : Dev) : (modRng f d).slices = d.slices := rfl
@[simp] theorem modRng_sched (f : Rng → Rng) (d : Dev) : (modRng f d).sched = d.sched := rfl
@[simp] theorem modRng_keys (f : Rng → Rng) (d : Dev) : (modRng f d).keys = d.keys := rfl
@[simp] theorem modRng_eng (f : Rng → Rng) (d : Dev) : (modRng f d).eng = d.eng := rfl
@[simp] theorem modRng_mg (f : Rng → Rng) (d : Dev) : (modRng f d).mg = d.mg := rfl
@[simp] theorem modRng_goose (f : Rng → Rng) (d : Dev) : (modRng f d).goose = d.goose := rfl
@[simp] theorem modRng_dbg (f : Rng → Rng) (d : Dev) : (modRng f d).dbg = d.dbg := rfl
@[simp] theorem modRng_pair (f : Rng → Rng) (d : Dev) : (modRng f d).pair = d.pair := rfl
@[simp] theorem modRng_store (f : Rng → Rng) (d : Dev) : (modRng f d).store = d.store := rfl
@[simp] theorem modRng_log (f : Rng → Rng) (d : Dev) : (modRng f d).log = d.log := rfl
@[simp] theorem modRng_ctr (f : Rng → Rng) (d : Dev) : (modRng f d).ctr = d.ctr := rfl
@[simp] theorem modRng_fw (f : Rng → Rng) (d : Dev) : (modRng f d).fw = d.fw := rfl
@[simp] theorem modRng_out (f : Rng → Rng) (d : Dev) : (modRng f d).out = d.out := rfl

@[simp] theorem modRng_rng (f : Rng → Rng) (d : Dev) : (modRng f d).rng = f d.rng := rfl

@[simp] theorem modGoose_sys (f : Goose → Goose) (d : Dev) : (modGoose f d).sys = d.sys := rfl
@[simp] theorem modGoose_fen (f : Goose → Goose) (d : Dev) : (modGoose f d).fen = d.fen := rfl
@[simp] theorem modGoose_hif (f : Goose → Goose) (d : Dev) : (modGoose f d).hif = d.hif := rfl
@[simp] theorem modGoose_slices (f : Goose → Goose) (d : Dev) : (modGoose f d).slices = d.slices := rfl
@[simp] theorem modGoose_sched (f : Goose → Goose) (d : Dev) : (modGoose f d).sched = d.sched := rfl
@[simp] theorem modGoose_keys (f : Goose → Goose) (d : Dev) : (modGoose f d).keys = d.keys := rfl
@[simp] theorem modGoose_eng (f : Goose → Goose) (d : Dev) : (modGoose f d).eng = d.eng := rfl
@[simp] theorem modGoose_rng (f : Goose → Goose) (d : Dev) : (modGoose f d).rng = d.rng := rfl
@[simp] theorem modGoose_mg (f : Goose → Goose) (d : Dev) : (modGoose f d).mg = d.mg := rfl
@[simp] theorem modGoose_dbg (f : Goose → Goose) (d : Dev) : (modGoose f d).dbg = d.dbg := rfl
@[simp] theorem modGoose_pair (f : Goose → Goose) (d : Dev) : (modGoose f d).pair = d.pair := rfl
@[simp] theorem modGoose_store (f : Goose → Goose) (d : Dev) : (modGoose f d).store = d.store := rfl
@[simp] theorem modGoose_log (f : Goose → Goose) (d : Dev) : (modGoose f d).log = d.log := rfl
@[simp] theorem modGoose_ctr (f : Goose → Goose) (d : Dev) : (modGoose f d).ctr = d.ctr := rfl
@[simp] theorem modGoose_fw (f : Goose → Goose) (d : Dev) : (modGoose f d).fw = d.fw := rfl
@[simp] theorem modGoose_out (f : Goose → Goose) (d : Dev) : (modGoose f d).out = d.out := rfl

@[simp] theorem modGoose_goose (f : Goose → Goose) (d : Dev) : (modGoose f d).goose = f d.goose := rfl

@[simp] theorem modPair_sys (f : Pair → Pair) (d : Dev) : (modPair f d).sys = d.sys := rfl
@[simp] theorem modPair_fen (f : Pair → Pair) (d : Dev) : (modPair f d).fen = d.fen := rfl
@[simp] theorem modPair_hif (f : Pair → Pair) (d : Dev) : (modPair f d).hif = d.hif := rfl
@[simp] theorem modPair_slices (f : Pair → Pair) (d : Dev) : (modPair f d).slices = d.slices := rfl
@[simp] theorem modPair_sched (f : Pair → Pair) (d : Dev) : (modPair f d).sched = d.sched := rfl
@[simp] theorem modPair_keys (f : Pair → Pair) (d : Dev) : (modPair f d).keys = d.keys := rfl
@[simp] theorem modPair_eng (f : Pair → Pair) (d : Dev) : (modPair f d).eng = d.eng := rfl
@[simp] theorem modPair_rng (f : Pair → Pair) (d : Dev) : (modPair f d).rng = d.rng := rfl
@[simp] theorem modPair_mg (f : Pair → Pair) (d : Dev) : (modPair f d).mg = d.mg := rfl
@[simp] theorem modPair_goose (f : Pair → Pair) (d : Dev) : (modPair f d).goose = d.goose := rfl
@[simp] theorem modPair_dbg (f : Pair → Pair) (d : Dev) : (modPair f d).dbg = d.dbg := rfl
@[simp] theorem modPair_store (f : Pair → Pair) (d : Dev) : (modPair f d).store = d.store := rfl
@[simp] theorem modPair_log (f : Pair → Pair) (d : Dev) : (modPair f d).log = d.log := rfl
@[simp] theorem modPair_ctr (f : Pair → Pair) (d : Dev) : (modPair f d).ctr = d.ctr := rfl
@[simp] theorem modPair_fw (f : Pair → Pair) (d : Dev) : (modPair f d).fw = d.fw := rfl
@[simp] theorem modPair_out (f : Pair → Pair) (d : Dev) : (modPair f d).out = d.out := rfl

@[simp] theorem modPair_pair (f : Pair → Pair) (d : Dev) : (modPair f d).pair = f d.pair := rfl

@[simp] theorem modSched_sys (f : Sched → Sched) (d : Dev) : (modSched f d).sys = d.sys := rfl
@[simp] theorem modSched_fen (f : Sched → Sched) (d : Dev) : (modSched f d).fen = d.fen := rfl
@[simp] theorem modSched_hif (f : Sched → Sched) (d : Dev) : (modSched f d).hif = d.hif := rfl
@[simp] theorem modSched_slices (f : Sched → Sched) (d : Dev) : (modSched f d).slices = d.slices := rfl
@[simp] theorem modSched_keys (f : Sched → Sched) (d : Dev) : (modSched f d).keys = d.keys := rfl
@[simp] theorem modSched_eng (f : Sched → Sched) (d : Dev) : (modSched f d).eng = d.eng := rfl
@[simp] theorem modSched_rng (f : Sched → Sched) (d : Dev) : (modSched f d).rng = d.rng := rfl
@[simp] theorem modSched_mg (f : Sched → Sched) (d : Dev) : (modSched f d).mg = d.mg := rfl
@[simp] theorem modSched_goose (f : Sched → Sched) (d : Dev) : (modSched f d).goose = d.goose := rfl
@[simp] theorem modSched_dbg (f : Sched → Sched) (d : Dev) : (modSched f d).dbg = d.dbg := rfl
@[simp] theorem modSched_pair (f : Sched → Sched) (d : Dev) : (modSched f d).pair = d.pair := rfl
@[simp] theorem modSched_store (f : Sched → Sched) (d : Dev) : (modSched f d).store = d.store := rfl
@[simp] theorem modSched_log (f : Sched → Sched) (d : Dev) : (modSched f d).log = d.log := rfl
@[simp] theorem modSched_ctr (f : Sched → Sched) (d : Dev) : (modSched f d).ctr = d.ctr := rfl
@[simp] theorem modSched_fw (f : Sched → Sched) (d : Dev) : (modSched f d).fw = d.fw := rfl
@[simp] theorem modSched_out (f : Sched → Sched) (d : Dev) : (modSched f d).out = d.out := rfl

@[simp] theorem modSched_sched (f : Sched → Sched) (d : Dev) : (modSched f d).sched = f d.sched := rfl

@[simp] theorem count_sys (ev n : Nat) (sl ma : Option Nat) (cpw : Bool) (x : Option (Nat × Nat)) (d : Dev) : (count ev n sl ma cpw x d).sys = d.sys := rfl
@[simp] theorem count_fen (ev n : Nat) (sl ma : Option Nat) (cpw : Bool) (x : Option (Nat × Nat)) (d : Dev) : (count ev n sl ma cpw x d).fen = d.fen := rfl
@[simp] theorem count_hif (ev n : Nat) (sl ma : Option Nat) (cpw : Bool) (x : Option (Nat × Nat)) (d : Dev) : (count ev n sl ma cpw x d).hif = d.hif := rfl
@[simp] theorem count_slices (ev n : Nat) (sl ma : Option Nat) (cpw : Bool) (x : Option (Nat × Nat)) (d : Dev) : (count ev n sl ma cpw x d).slices = d.slices := rfl
@[simp] theorem count_sched (ev n : Nat) (sl ma : Option Nat) (cpw : Bool) (x : Option (Nat × Nat)) (d : Dev) : (count ev n sl ma cpw x d).sched = d.sched := rfl
@[simp] theorem count_keys (ev n : Nat) (sl ma : Option Nat) (cpw : Bool) (x : Option (Nat × Nat)) (d : Dev) : (count ev n sl ma cpw x d).keys = d.keys := rfl
@[simp] theorem count_eng (ev n : Nat) (sl ma : Option Nat) (cpw : Bool) (x : Option (Nat × Nat)) (d : Dev) : (count ev n sl ma cpw x d).eng = d.eng := rfl
@[simp] theorem count_rng (ev n : Nat) (sl ma : Option Nat) (cpw : Bool) (x : Option (Nat × Nat)) (d : Dev) : (count ev n sl ma cpw x d).rng = d.rng := rfl
@[simp] theorem count_mg (ev n : Nat) (sl ma : Option Nat) (cpw : Bool) (x : Option (Nat × Nat)) (d : Dev) : (count ev n sl ma cpw x d).mg = d.mg := rfl
@[simp] theorem count_goose (ev n : Nat) (sl ma : Option Nat) (cpw : Bool) (x : Option (Nat × Nat)) (d : Dev) : (count ev n sl ma cpw x d).goose = d.goose := rfl
@[simp] theorem count_dbg (ev n : Nat) (sl ma : Option Nat) (cpw : Bool) (x : Option (Nat × Nat)) (d : Dev) : (count ev n sl ma cpw x d).dbg = d.dbg := rfl
@[simp] theorem count_pair (ev n : Nat) (sl ma : Option Nat) (cpw : Bool) (x : Option (Nat × Nat)) (d : Dev) : (count ev n sl ma cpw x d).pair = d.pair := rfl
@[simp] theorem count_store (ev n : Nat) (sl ma : Option Nat) (cpw : Bool) (x : Option (Nat × Nat)) (d : Dev) : (count ev n sl ma cpw x d).store = d.store := rfl
@[simp] theorem count_log (ev n : Nat) (sl ma : Option Nat) (cpw : Bool) (x : Option (Nat × Nat)) (d : Dev) : (count ev n sl ma cpw x d).log = d.log := rfl
@[simp] theorem count_fw (ev n : Nat) (sl ma : Option Nat) (cpw : Bool) (x : Option (Nat × Nat)) (d : Dev) : (count ev n sl ma cpw x d).fw = d.fw := rfl
@[simp] theorem count_out (ev n : Nat) (sl ma : Option Nat) (cpw : Bool) (x : Option (Nat × Nat)) (d : Dev) : (count ev n sl ma cpw x d).out = d.out := rfl

@[simp] theorem setFault_fen (b : Nat) (d : Dev) : (setFault b d).fen = d.fen := rfl
@[simp] theorem setFault_hif (b : Nat) (d : Dev) : (setFault b d).hif = d.hif := rfl
@[simp] theorem setFault_slices (b : Nat) (d : Dev) : (setFault b d).slices = d.slices := rfl
@[simp] theorem setFault_sched (b : Nat) (d : Dev) : (setFault b d).sched = d.sched := rfl
@[simp] theorem setFault_keys (b : Nat) (d : Dev) : (setFault b d).keys = d.keys := rfl
@[simp] theorem setFault_eng (b : Nat) (d : Dev) : (setFault b d).eng = d.eng := rfl
@[simp] theorem setFault_rng (b : Nat) (d : Dev) : (setFault b d).rng = d.rng := rfl
@[simp] theorem setFault_mg (b : Nat) (d : Dev) : (setFault b d).mg = d.mg := rfl
@[simp] theorem setFault_goose (b : Nat) (d : Dev) : (setFault b d).goose = d.goose := rfl
@[simp] theorem setFault_dbg (b : Nat) (d : Dev) : (setFault b d).dbg = d.dbg := rfl
@[simp] theorem setFault_pair (b : Nat) (d : Dev) : (setFault b d).pair = d.pair := rfl
@[simp] theorem setFault_store (b : Nat) (d : Dev) : (setFault b d).store = d.store := rfl
@[simp] theorem setFault_log (b : Nat) (d : Dev) : (setFault b d).log = d.log := rfl
@[simp] theorem setFault_ctr (b : Nat) (d : Dev) : (setFault b d).ctr = d.ctr := rfl
@[simp] theorem setFault_fw (b : Nat) (d : Dev) : (setFault b d).fw = d.fw := rfl
@[simp] theorem setFault_out (b : Nat) (d : Dev) : (setFault b d).out = d.out := rfl

/-! ## Records and interrupts -/

theorem raise_only (code source p1 p2 : Nat) (d : Dev) : ∃ g, raise code source p1 p2 d = { d with log := g } :=
  by unfold raise; simp only [accept, suppress]; repeat' (first | exact ⟨_, rfl⟩ | split)
@[simp] theorem raise_sys (code source p1 p2 : Nat) (d : Dev) : (raise code source p1 p2 d).sys = d.sys := by
  obtain ⟨g, h⟩ := raise_only code source p1 p2 d; rw [h]
@[simp] theorem raise_fen (code source p1 p2 : Nat) (d : Dev) : (raise code source p1 p2 d).fen = d.fen := by
  obtain ⟨g, h⟩ := raise_only code source p1 p2 d; rw [h]
@[simp] theorem raise_hif (code source p1 p2 : Nat) (d : Dev) : (raise code source p1 p2 d).hif = d.hif := by
  obtain ⟨g, h⟩ := raise_only code source p1 p2 d; rw [h]
@[simp] theorem raise_slices (code source p1 p2 : Nat) (d : Dev) : (raise code source p1 p2 d).slices = d.slices := by
  obtain ⟨g, h⟩ := raise_only code source p1 p2 d; rw [h]
@[simp] theorem raise_sched (code source p1 p2 : Nat) (d : Dev) : (raise code source p1 p2 d).sched = d.sched := by
  obtain ⟨g, h⟩ := raise_only code source p1 p2 d; rw [h]
@[simp] theorem raise_keys (code source p1 p2 : Nat) (d : Dev) : (raise code source p1 p2 d).keys = d.keys := by
  obtain ⟨g, h⟩ := raise_only code source p1 p2 d; rw [h]
@[simp] theorem raise_eng (code source p1 p2 : Nat) (d : Dev) : (raise code source p1 p2 d).eng = d.eng := by
  obtain ⟨g, h⟩ := raise_only code source p1 p2 d; rw [h]
@[simp] theorem raise_rng (code source p1 p2 : Nat) (d : Dev) : (raise code source p1 p2 d).rng = d.rng := by
  obtain ⟨g, h⟩ := raise_only code source p1 p2 d; rw [h]
@[simp] theorem raise_mg (code source p1 p2 : Nat) (d : Dev) : (raise code source p1 p2 d).mg = d.mg := by
  obtain ⟨g, h⟩ := raise_only code source p1 p2 d; rw [h]
@[simp] theorem raise_goose (code source p1 p2 : Nat) (d : Dev) : (raise code source p1 p2 d).goose = d.goose := by
  obtain ⟨g, h⟩ := raise_only code source p1 p2 d; rw [h]
@[simp] theorem raise_dbg (code source p1 p2 : Nat) (d : Dev) : (raise code source p1 p2 d).dbg = d.dbg := by
  obtain ⟨g, h⟩ := raise_only code source p1 p2 d; rw [h]
@[simp] theorem raise_pair (code source p1 p2 : Nat) (d : Dev) : (raise code source p1 p2 d).pair = d.pair := by
  obtain ⟨g, h⟩ := raise_only code source p1 p2 d; rw [h]
@[simp] theorem raise_store (code source p1 p2 : Nat) (d : Dev) : (raise code source p1 p2 d).store = d.store := by
  obtain ⟨g, h⟩ := raise_only code source p1 p2 d; rw [h]
@[simp] theorem raise_ctr (code source p1 p2 : Nat) (d : Dev) : (raise code source p1 p2 d).ctr = d.ctr := by
  obtain ⟨g, h⟩ := raise_only code source p1 p2 d; rw [h]
@[simp] theorem raise_fw (code source p1 p2 : Nat) (d : Dev) : (raise code source p1 p2 d).fw = d.fw := by
  obtain ⟨g, h⟩ := raise_only code source p1 p2 d; rw [h]
@[simp] theorem raise_out (code source p1 p2 : Nat) (d : Dev) : (raise code source p1 p2 d).out = d.out := by
  obtain ⟨g, h⟩ := raise_only code source p1 p2 d; rw [h]


theorem signal_only (v : Nat) (d : Dev) : ∃ h o, signal v d = { d with hif := h, out := o } :=
  by unfold signal emit; dsimp only; repeat' (first | exact ⟨_, _, rfl⟩ | split)
@[simp] theorem signal_sys (v : Nat) (d : Dev) : (signal v d).sys = d.sys := by
  obtain ⟨h, o, e⟩ := signal_only v d; rw [e]
@[simp] theorem signal_fen (v : Nat) (d : Dev) : (signal v d).fen = d.fen := by
  obtain ⟨h, o, e⟩ := signal_only v d; rw [e]
@[simp] theorem signal_slices (v : Nat) (d : Dev) : (signal v d).slices = d.slices := by
  obtain ⟨h, o, e⟩ := signal_only v d; rw [e]
@[simp] theorem signal_sched (v : Nat) (d : Dev) : (signal v d).sched = d.sched := by
  obtain ⟨h, o, e⟩ := signal_only v d; rw [e]
@[simp] theorem signal_keys (v : Nat) (d : Dev) : (signal v d).keys = d.keys := by
  obtain ⟨h, o, e⟩ := signal_only v d; rw [e]
@[simp] theorem signal_eng (v : Nat) (d : Dev) : (signal v d).eng = d.eng := by
  obtain ⟨h, o, e⟩ := signal_only v d; rw [e]
@[simp] theorem signal_rng (v : Nat) (d : Dev) : (signal v d).rng = d.rng := by
  obtain ⟨h, o, e⟩ := signal_only v d; rw [e]
@[simp] theorem signal_mg (v : Nat) (d : Dev) : (signal v d).mg = d.mg := by
  obtain ⟨h, o, e⟩ := signal_only v d; rw [e]
@[simp] theorem signal_goose (v : Nat) (d : Dev) : (signal v d).goose = d.goose := by
  obtain ⟨h, o, e⟩ := signal_only v d; rw [e]
@[simp] theorem signal_dbg (v : Nat) (d : Dev) : (signal v d).dbg = d.dbg := by
  obtain ⟨h, o, e⟩ := signal_only v d; rw [e]
@[simp] theorem signal_pair (v : Nat) (d : Dev) : (signal v d).pair = d.pair := by
  obtain ⟨h, o, e⟩ := signal_only v d; rw [e]
@[simp] theorem signal_store (v : Nat) (d : Dev) : (signal v d).store = d.store := by
  obtain ⟨h, o, e⟩ := signal_only v d; rw [e]
@[simp] theorem signal_log (v : Nat) (d : Dev) : (signal v d).log = d.log := by
  obtain ⟨h, o, e⟩ := signal_only v d; rw [e]
@[simp] theorem signal_ctr (v : Nat) (d : Dev) : (signal v d).ctr = d.ctr := by
  obtain ⟨h, o, e⟩ := signal_only v d; rw [e]
@[simp] theorem signal_fw (v : Nat) (d : Dev) : (signal v d).fw = d.fw := by
  obtain ⟨h, o, e⟩ := signal_only v d; rw [e]

/-- A signalled vector is the newest message, or stays in the pending bits. -/
theorem signal_shows (v : Nat) (d : Dev) : (signal v d).out = .msix v :: d.out ∨ v ∈ (signal v d).hif.pba := by
  unfold signal
  dsimp only
  split
  · exact .inl rfl
  · split
    · next h => exact .inr (by simpa using h)
    · exact .inr (by simp)

/-- `watch` is its change, or that change with vector 8 signalled. -/
theorem watch_cases (f : Dev → Dev) (d : Dev) : watch f d = f d ∨ watch f d = signal 8 (f d) := by
  unfold watch; split
  · exact .inl rfl
  · exact .inr rfl

/-- Where `DEV_STATUS` stays, `watch` is the change alone. -/
theorem watch_same (f : Dev → Dev) (d : Dev) (h : devStatus (f d) = devStatus d) : watch f d = f d := by simp [watch, h]

@[simp] theorem watch_sys (f : Dev → Dev) (d : Dev) : (watch f d).sys = (f d).sys := by
  rcases watch_cases f d with h | h <;> (rw [h]; try simp)
@[simp] theorem watch_fen (f : Dev → Dev) (d : Dev) : (watch f d).fen = (f d).fen := by
  rcases watch_cases f d with h | h <;> (rw [h]; try simp)
@[simp] theorem watch_slices (f : Dev → Dev) (d : Dev) : (watch f d).slices = (f d).slices := by
  rcases watch_cases f d with h | h <;> (rw [h]; try simp)
@[simp] theorem watch_sched (f : Dev → Dev) (d : Dev) : (watch f d).sched = (f d).sched := by
  rcases watch_cases f d with h | h <;> (rw [h]; try simp)
@[simp] theorem watch_keys (f : Dev → Dev) (d : Dev) : (watch f d).keys = (f d).keys := by
  rcases watch_cases f d with h | h <;> (rw [h]; try simp)
@[simp] theorem watch_eng (f : Dev → Dev) (d : Dev) : (watch f d).eng = (f d).eng := by
  rcases watch_cases f d with h | h <;> (rw [h]; try simp)
@[simp] theorem watch_rng (f : Dev → Dev) (d : Dev) : (watch f d).rng = (f d).rng := by
  rcases watch_cases f d with h | h <;> (rw [h]; try simp)
@[simp] theorem watch_mg (f : Dev → Dev) (d : Dev) : (watch f d).mg = (f d).mg := by
  rcases watch_cases f d with h | h <;> (rw [h]; try simp)
@[simp] theorem watch_goose (f : Dev → Dev) (d : Dev) : (watch f d).goose = (f d).goose := by
  rcases watch_cases f d with h | h <;> (rw [h]; try simp)
@[simp] theorem watch_dbg (f : Dev → Dev) (d : Dev) : (watch f d).dbg = (f d).dbg := by
  rcases watch_cases f d with h | h <;> (rw [h]; try simp)
@[simp] theorem watch_pair (f : Dev → Dev) (d : Dev) : (watch f d).pair = (f d).pair := by
  rcases watch_cases f d with h | h <;> (rw [h]; try simp)
@[simp] theorem watch_store (f : Dev → Dev) (d : Dev) : (watch f d).store = (f d).store := by
  rcases watch_cases f d with h | h <;> (rw [h]; try simp)
@[simp] theorem watch_log (f : Dev → Dev) (d : Dev) : (watch f d).log = (f d).log := by
  rcases watch_cases f d with h | h <;> (rw [h]; try simp)
@[simp] theorem watch_ctr (f : Dev → Dev) (d : Dev) : (watch f d).ctr = (f d).ctr := by
  rcases watch_cases f d with h | h <;> (rw [h]; try simp)
@[simp] theorem watch_fw (f : Dev → Dev) (d : Dev) : (watch f d).fw = (f d).fw := by
  rcases watch_cases f d with h | h <;> (rw [h]; try simp)

/-! ## Entries of the tables -/

@[simp] theorem find_put_same {α : Type} (t : Tab α) (k : Nat) (v : α) : Tab.find (Tab.put t k v) k = some v := by
  induction t with
  | nil => simp [Tab.put, Tab.find]
  | cons e t ih =>
    obtain ⟨j, w⟩ := e
    simp only [Tab.put]
    split
    · simp [Tab.find]
    · split
      · simp [Tab.find]
      · next h1 h2 => simp [Tab.find, show j ≠ k from fun h => h2 h.symm, ih]

@[simp] theorem Tab.getD_put_same {α : Type} (t : Tab α) (k : Nat) (v d : α) : Tab.getD (Tab.put t k v) k d = v := by
  simp [Tab.getD]

theorem Tab.find_put_ne {α : Type} (t : Tab α) {j k : Nat} (v : α) (h : j ≠ k) : Tab.find (Tab.put t k v) j = Tab.find t j := by
  induction t with
  | nil => simp [Tab.put, Tab.find, h.symm]
  | cons e t ih =>
    obtain ⟨i, w⟩ := e
    simp only [Tab.put]
    split
    · simp [Tab.find, h.symm]
    · split
      · next h2 => subst h2; simp [Tab.find, h.symm]
      · simp only [Tab.find]; split
        · rfl
        · exact ih

@[simp] theorem sliceOf_modSlice (n : Nat) (f : Slice → Slice) (d : Dev) : sliceOf (modSlice n f d) n = f (sliceOf d n) := by
  simp [sliceOf, modSlice, Tab.upd]

theorem sliceOf_modSlice_ne {n m : Nat} (f : Slice → Slice) (d : Dev) (h : m ≠ n) : sliceOf (modSlice n f d) m = sliceOf d m := by
  simp [sliceOf, modSlice, Tab.upd, Tab.getD, Tab.find_put_ne _ _ h]

@[simp] theorem mailboxOf_modBox (m : Nat) (f : Mailbox → Mailbox) (d : Dev) : mailboxOf (modBox m f d) m = f (mailboxOf d m) := by
  simp [mailboxOf, modBox, Tab.upd]

theorem mailboxOf_modBox_ne {m k : Nat} (f : Mailbox → Mailbox) (d : Dev) (h : k ≠ m) : mailboxOf (modBox m f d) k = mailboxOf d k := by
  simp [mailboxOf, modBox, Tab.upd, Tab.getD, Tab.find_put_ne _ _ h]

/-! ## The context a command works on -/

@[simp] theorem State.cx_d (s : State) : s.cx.d = s.dev := rfl
@[simp] theorem State.cx_f (s : State) : s.cx.f = s.fuse := rfl
@[simp] theorem Cx.mod_d (f : Dev → Dev) (c : Cx) : (c.mod f).d = f c.d := rfl
@[simp] theorem Cx.mod_f (f : Dev → Dev) (c : Cx) : (c.mod f).f = c.f := rfl

/-- Watching compares only with the device as it was. -/
theorem watch_const (f : Dev → Dev) (d : Dev) : watch f d = watch (fun _ => f d) d := rfl

/-- A command that leaves the device as it was completes without a trace. -/
theorem watch_id (d : Dev) : watch (fun _ => d) d = d := watch_same _ _ rfl

/-- A context put back unchanged leaves the state. -/
theorem withCx_same (s : State) : withCx s s.cx = .next s := by
  unfold withCx; rw [show (fun _ => s.cx.d) = (fun _ => s.dev) from rfl, watch_id]; rfl

end Sys2Proof.Machine
end

