-- ==== Sys2Proof/Laws/Mem.lean ====
section
/-! SUPPORT. Tables and the addressed buffers of the mailbox windows: every operation keeps the canonical form, a read after a write gives
what was written, and a write leaves every other place alone. -/

namespace Sys2Proof

theorem Tab.sortedFrom_weaken {α : Type} {a b : Nat} : ∀ {t : Tab α}, Tab.sortedFrom b t = true → a ≤ b → Tab.sortedFrom a t = true
  | [], _, _ => rfl
  | (k, v) :: t, h, hab => by
    simp only [Tab.sortedFrom, Bool.and_eq_true, decide_eq_true_eq] at h ⊢
    exact ⟨by omega, h.2⟩

/-- Nothing lies under a key below the first. -/
theorem Tab.find_below {α : Type} {lo j : Nat} : ∀ {t : Tab α}, Tab.sortedFrom lo t = true → j < lo → Tab.find t j = none
  | [], _, _ => rfl
  | (k, v) :: t, h, hj => by
    simp only [Tab.sortedFrom, Bool.and_eq_true, decide_eq_true_eq] at h
    have hk : ¬ k = j := by omega
    simp only [Tab.find, hk, if_false]
    exact Tab.find_below h.2 (by omega)

theorem Tab.sortedFrom_put {α : Type} (k : Nat) (v : α) :
    ∀ {lo : Nat} {t : Tab α}, Tab.sortedFrom lo t = true → lo ≤ k → Tab.sortedFrom lo (Tab.put t k v) = true
  | lo, [], _, hk => by simp [Tab.put, Tab.sortedFrom, hk]
  | lo, (j, w) :: t, h, hk => by
    simp only [Tab.sortedFrom, Bool.and_eq_true, decide_eq_true_eq] at h
    simp only [Tab.put]
    split
    · simp only [Tab.sortedFrom, Bool.and_eq_true, decide_eq_true_eq]
      exact ⟨hk, by omega, h.2⟩
    · split
      · subst k; simp only [Tab.sortedFrom, Bool.and_eq_true, decide_eq_true_eq]; exact h
      · simp only [Tab.sortedFrom, Bool.and_eq_true, decide_eq_true_eq]
        exact ⟨h.1, Tab.sortedFrom_put k v h.2 (by omega)⟩

theorem Tab.sortedFrom_del {α : Type} (k : Nat) :
    ∀ {lo : Nat} {t : Tab α}, Tab.sortedFrom lo t = true → Tab.sortedFrom lo (Tab.del t k) = true
  | lo, [], _ => rfl
  | lo, (j, w) :: t, h => by
    simp only [Tab.sortedFrom, Bool.and_eq_true, decide_eq_true_eq] at h
    simp only [Tab.del]
    split
    · exact Tab.sortedFrom_del k (Tab.sortedFrom_weaken h.2 (by omega))
    · simp only [Tab.sortedFrom, Bool.and_eq_true, decide_eq_true_eq]
      exact ⟨h.1, Tab.sortedFrom_del k h.2⟩

/-- Storing an entry keeps a table canonical. -/
theorem Tab.wf_put {α : Type} {t : Tab α} (k : Nat) (v : α) (h : Tab.wf t = true) : Tab.wf (Tab.put t k v) = true :=
  Tab.sortedFrom_put k v h (Nat.zero_le k)

/-- Removing an entry keeps a table canonical. -/
theorem Tab.wf_del {α : Type} {t : Tab α} (k : Nat) (h : Tab.wf t = true) : Tab.wf (Tab.del t k) = true := Tab.sortedFrom_del k h

/-- Changing an entry keeps a table canonical. -/
theorem Tab.wf_upd {α : Type} {t : Tab α} (k : Nat) (d : α) (f : α → α) (h : Tab.wf t = true) : Tab.wf (Tab.upd t k d f) = true :=
  Tab.wf_put k _ h

theorem Tab.find_del_same {α : Type} (k : Nat) : ∀ (t : Tab α), Tab.find (Tab.del t k) k = none
  | [] => rfl
  | (j, w) :: t => by
    simp only [Tab.del]
    split
    · exact Tab.find_del_same k t
    · rename_i e; simp only [Tab.find, e, if_false]; exact Tab.find_del_same k t

theorem Tab.find_del_ne {α : Type} {j k : Nat} (h : j ≠ k) : ∀ (t : Tab α), Tab.find (Tab.del t k) j = Tab.find t j
  | [] => rfl
  | (i, w) :: t => by
    by_cases e : i = k
    · have : ¬ i = j := by omega
      simp only [Tab.del, Tab.find, e, if_true]
      subst e; simp [this, Tab.find_del_ne h t]
    · simp only [Tab.del, e, if_false, Tab.find]
      split
      · rfl
      · exact Tab.find_del_ne h t

theorem Mem.noZero_put (k : Nat) (b : Byte) (hb : b ≠ 0) : ∀ {t : Mem}, Mem.noZero t = true → Mem.noZero (Tab.put t k b) = true
  | [], _ => by simp only [Tab.put, Mem.noZero, Bool.and_true, decide_eq_true_eq]; exact hb
  | (j, w) :: t, h => by
    simp only [Mem.noZero, Bool.and_eq_true, decide_eq_true_eq] at h
    simp only [Tab.put]
    split
    · simp only [Mem.noZero, Bool.and_eq_true, decide_eq_true_eq]; exact ⟨hb, h⟩
    · split
      · simp only [Mem.noZero, Bool.and_eq_true, decide_eq_true_eq]; exact ⟨hb, h.2⟩
      · simp only [Mem.noZero, Bool.and_eq_true, decide_eq_true_eq]; exact ⟨h.1, Mem.noZero_put k b hb h.2⟩

theorem Mem.noZero_del (k : Nat) : ∀ {t : Mem}, Mem.noZero t = true → Mem.noZero (Tab.del t k) = true
  | [], _ => rfl
  | (j, w) :: t, h => by
    simp only [Mem.noZero, Bool.and_eq_true, decide_eq_true_eq] at h
    simp only [Tab.del]
    split
    · exact Mem.noZero_del k h.2
    · simp only [Mem.noZero, Bool.and_eq_true, decide_eq_true_eq]; exact ⟨h.1, Mem.noZero_del k h.2⟩

/-- Writing a byte keeps a buffer canonical. -/
theorem Mem.wf_write {m : Mem} (a : Nat) (b : Byte) (h : Mem.wf m = true) : Mem.wf (Mem.write m a b) = true := by
  simp only [Mem.wf, Bool.and_eq_true] at h ⊢
  unfold Mem.write
  split
  · exact ⟨Tab.wf_del a h.1, Mem.noZero_del a h.2⟩
  · rename_i hb; exact ⟨Tab.wf_put a b h.1, Mem.noZero_put a b hb h.2⟩

/-- Writing a run of bytes keeps a buffer canonical. -/
theorem Mem.wf_writeAll : ∀ {m : Mem} (a : Nat) (l : List Byte), Mem.wf m = true → Mem.wf (Mem.writeAll m a l) = true
  | _, _, [], h => h
  | _, a, b :: bs, h => Mem.wf_writeAll (a + 1) bs (Mem.wf_write a b h)

/-- An empty buffer is canonical. -/
theorem Mem.wf_nil : Mem.wf [] = true := rfl

/-- A read after a write to the same place gives the byte written. -/
theorem Mem.read_write_same {m : Mem} (a : Nat) (b : Byte) : Mem.read (Mem.write m a b) a = b := by
  unfold Mem.write Mem.read Tab.getD
  split
  · rename_i hb; rw [Tab.find_del_same a m, hb]; rfl
  · rw [Machine.find_put_same]; rfl

/-- A write leaves every other place alone. -/
theorem Mem.read_write_ne {m : Mem} {a x : Nat} (b : Byte) (hx : x ≠ a) : Mem.read (Mem.write m a b) x = Mem.read m x := by
  unfold Mem.write Mem.read Tab.getD
  split
  · rw [Tab.find_del_ne hx]
  · rw [Machine.Tab.find_put_ne _ _ hx]

/-- A run of bytes leaves every place outside it alone. -/
theorem Mem.read_writeAll_ne {x : Nat} : ∀ {m : Mem} {a : Nat} (l : List Byte), (x < a ∨ a + l.length ≤ x) →
    Mem.read (Mem.writeAll m a l) x = Mem.read m x
  | _, _, [], _ => rfl
  | m, a, b :: bs, h => by
    simp only [List.length_cons] at h
    simp only [Mem.writeAll]
    rw [Mem.read_writeAll_ne (m := Mem.write m a b) (a := a + 1) bs (by omega), Mem.read_write_ne b (by omega)]

/-- A run of bytes reads back. -/
theorem Mem.readAll_writeAll : ∀ {m : Mem} {a : Nat} (l : List Byte), Mem.wf m = true →
    Mem.readAll (Mem.writeAll m a l) a l.length = l
  | _, _, [], _ => rfl
  | m, a, b :: bs, h => by
    simp only [Mem.writeAll, List.length_cons, Mem.readAll]
    rw [Mem.read_writeAll_ne bs (by omega), Mem.read_write_same a b,
      Mem.readAll_writeAll (m := Mem.write m a b) bs (Mem.wf_write a b h)]

/-! ## Byte strings -/

@[simp] theorem Machine.length_takeFill (n : Nat) (l : List Byte) : (Machine.takeFill n l).length = n := by
  induction n generalizing l with
  | zero => rfl
  | succ n ih => cases l <;> simp [Machine.takeFill, ih]

theorem Machine.getD_takeFill (n i : Nat) (l : List Byte) : (Machine.takeFill n l).getD i 0 = if i < n then l.getD i 0 else 0 := by
  induction n generalizing l i with
  | zero => simp [Machine.takeFill]
  | succ n ih =>
    cases l with
    | nil => cases i <;> simp only [Machine.takeFill, List.getD_cons_zero, List.getD_cons_succ, List.getD_nil, ih, ite_self]
    | cons b l => cases i <;> simp only [Machine.takeFill, List.getD_cons_zero, List.getD_cons_succ, ih, Nat.zero_lt_succ, if_true, Nat.succ_lt_succ_iff]

/-- A slice has the length it is asked for. -/
@[simp] theorem Machine.length_slice8 (l : List Byte) (o n : Nat) : (Machine.slice8 l o n).length = n := by simp [Machine.slice8]

/-- Its bytes are those of the list from the offset on, and zeros past the end. -/
theorem Machine.getD_slice8 (l : List Byte) (o n i : Nat) : (Machine.slice8 l o n).getD i 0 = if i < n then l.getD (o + i) 0 else 0 := by
  unfold Machine.slice8
  rw [Machine.getD_takeFill]
  simp [List.getD_eq_getElem?_getD, List.getElem?_drop]

end Sys2Proof
end

