-- ==== Sys2Proof/Laws/Mgmt.lean ====
section
/-! SUPPORT. Management requests: one law that takes a request past its checks to its body, and what a body's three answers come to. -/

namespace Sys2Proof.Machine

theorem nextSeq_modBox (m : Nat) (f : Mailbox → Mailbox) (d : Dev) : nextSeq (modBox m f d) = nextSeq d := rfl

/-- A request that passes steps 1 to 7 is served by its body. -/
theorem serve_passes {op : MOp} {q : MbReq} {c0 c : Cx} {r : Req} (h : Passes op q c0 r c) :
    serve op q c0 = perform op r (nextSeq c0.d) c := by
  obtain ⟨h1, h2, h3, rfl, rfl⟩ := h
  unfold serve
  have e : earlyCheck op { q with tagOk := q.tagOk && decide (q.quorumLen + 16 ≤ q.bodyLen + q.inLen) } c0 = none := h1
  simp only [e]
  rw [if_neg (by rcases h2 with h2 | h2 <;> simp [h2])]
  rcases hx : authorise op (reqOf q) (taken op q c0) with ⟨c1, st, off⟩
  rw [hx] at h3
  simp only at h3
  subst h3
  unfold reqOf taken at hx
  erw [hx]
  rfl

/-- A request that is admitted is served by its body. -/
theorem runMgmt_admits {op : MOp} {q : MbReq} {s : State} {r : Req} {c : Cx} (h : Admits op q s r c) :
    runMgmt op q s = withCx s (perform op r (nextSeq s.dev) c) := by
  obtain ⟨hb, hs, h⟩ := h
  unfold runMgmt
  have hb' : barsOpen s.cx.d = true := hb
  have hs' : boxesServe s.cx.d = true := hs
  cases hq : q.spdm with
  | none =>
    rw [hq] at h
    obtain ⟨hm, hi, h⟩ := h
    simp only [hm, if_true]
    congr 1
    unfold overMailbox
    have hi' : ¬ ((s.cx.d.hif.ideRequired && !q.ide) = true) := by
      rcases hi with hi | hi
      · rw [show s.cx.d.hif.ideRequired = false from hi]; simp
      · simp [hi]
    simp only [hb', hs', Bool.not_true, Bool.false_eq_true, if_false, if_neg hi']
    rcases h with ⟨h1, h2⟩ | ⟨h1, h2, h3, h4⟩
    · rw [show (mailboxOf s.cx.d q.mailbox).state = .idle from h1]
      exact serve_passes h2
    · rw [show (mailboxOf s.cx.d q.mailbox).state = .busy from h1]
      simp only [show (mailboxOf s.cx.d q.mailbox).wait = .submitted from h2, if_true,
        show windowOpcode (mailboxOf s.cx.d q.mailbox) = opCode op from h3]
      exact serve_passes h4
  | some k =>
    rw [hq] at h
    obtain ⟨x, h1, h2, h3, h4, h5, h6, h7, rfl⟩ := h
    simp only
    congr 1
    unfold overSpdm
    simp only [show Tab.find s.cx.d.hif.spdm k = some x from h1, hb', hs', h2, Bool.not_true, Bool.false_eq_true, if_false,
      Bool.or_self, show (mailboxOf s.cx.d (spdmBox k)).state = .idle from h3, bne_self_eq_false]
    have e : ((spdmHeader q).orElse (fun _ => stateCheck (s.cx.mod (fun d => modBox (spdmBox k) (fun b => { b with cur := some (op, q) })
        (goBox (spdmBox k) q.reqId d))) op)).orElse (fun _ => firstFail [(q.session == 0, .session)]) = none := by
      rw [show stateCheck (s.cx.mod (fun d => modBox (spdmBox k) (fun b => { b with cur := some (op, q) })
        (goBox (spdmBox k) q.reqId d))) op = stateCheck s.cx op from rfl, h4, h5, h6]; rfl
    erw [e]
    simp only [h7]
    rfl

/-- A body that is done is answered `ST_OK`, its output within `OUT_CAP`. -/
theorem answers_done {i : Instr} {op : MOp} {q : MbReq} {s : State} {r : Req} {c c1 : Cx} {b out : List Byte}
    (hi : exec i s = runMgmt op q s) (h : Admits op q s r c) (hb : body op r c = .done c1 b out) (ho : out.length ≤ r.q.outCap) :
    Answers i s r .ok b out c1 := by
  unfold Answers DoesAll
  rw [hi, runMgmt_admits h]
  unfold withCx perform
  rw [hb]
  simp only [if_neg (Nat.not_lt.mpr ho)]

/-- A body that fails is answered with its status and diagnostic. -/
theorem answers_fail {i : Instr} {op : MOp} {q : MbReq} {s : State} {r : Req} {c c1 : Cx} {st : Status} {b : List Byte}
    (hi : exec i s = runMgmt op q s) (h : Admits op q s r c) (hb : body op r c = .fail st c1 b) : Answers i s r st b [] c1 := by
  unfold Answers DoesAll
  rw [hi, runMgmt_admits h]
  unfold withCx perform
  rw [hb]

/-- A body that waits leaves its request in service. -/
theorem waits_of {i : Instr} {op : MOp} {q : MbReq} {s : State} {r : Req} {c c1 : Cx} {w : MbWait}
    (hi : exec i s = runMgmt op q s) (h : Admits op q s r c) (hb : body op r c = .wait w c1) : Waits i s r w c1 := by
  unfold Waits DoesAll
  rw [hi, runMgmt_admits h]
  unfold withCx perform
  rw [hb]

/-! ## Rows, mailboxes and requests turned away -/

/-- A row of a management command runs its operation. -/
theorem exec_rowOf (op : MOp) (q : MbReq) (s : State) : exec (rowOf op q) s = runMgmt op q s := by cases op <;> rfl

/-- A mailbox depends on the management unit alone. -/
theorem mailboxOf_same {d d' : Dev} (h : d'.mg = d.mg) (m : Nat) : mailboxOf d' m = mailboxOf d m := by unfold mailboxOf; rw [h]

/-- A request to an IDLE mailbox is served at once. -/
theorem exec_idle (op q s) (h1 : q.spdm = none) (h2 : q.mailbox < 8) (h4 : barsOpen s.dev = true) (h5 : boxesServe s.dev = true)
    (h6 : s.dev.hif.ideRequired = false) (h7 : (mailboxOf s.dev q.mailbox).state = .idle) :
    exec (rowOf op q) s = withCx s (serve op q (s.cx.mod (submitBox op q))) := by
  rw [exec_rowOf]; unfold runMgmt; simp only [h1, h2, if_true]; unfold overMailbox
  have hb' : barsOpen s.cx.d = true := h4
  have hs' : boxesServe s.cx.d = true := h5
  have hi' : s.cx.d.hif.ideRequired = false := h6
  have hj : (mailboxOf s.cx.d q.mailbox).state = .idle := h7
  simp only [hb', hs', hi', hj, Bool.not_true, Bool.false_eq_true, if_false, Bool.false_and]


/-- A request answered with a status alone is turned away. -/
theorem turned_away (i : Instr) (s : State) (m st) (c : Cx) (op q b) (hm : m < 256) (hi : exec i s = withCx s (c.mod (answer m st [] [] false b)))
   (hc : (mailboxOf c.d m).cur = some (op, q)) (hq : q.session = 0) (hh : c.d.log.held = []) (hf : c.f = s.fuse)
   (h1 : c.d.slices = s.dev.slices) (h2 : c.d.mg.officers = s.dev.mg.officers) (h3 : c.d.store = s.dev.store) (h4 : c.d.fw = s.dev.fw) :
   ∃ t, TurnsAway i s m st t ∧ (mailboxOf t.dev m).nonce = (mailboxOf c.d m).nonce ∧ (mailboxOf t.dev m).qseq = (mailboxOf c.d m).qseq := by
  have hm' : ¬ 256 ≤ m := by omega
  have ea : (answer m st [] [] false b c.d) = writeResponse m { status := st, opcode := opCode op, reqId := q.reqId, body := [], unmirrored := false, eventSeq := lastRecord m b c.d, outLen := 0 } c.d := by
    unfold answer; simp only [hc, hq, if_true]
    unfold respond; simp [hh]
  generalize hr : ({ status := st, opcode := opCode op, reqId := q.reqId, body := [], unmirrored := false, eventSeq := lastRecord m b c.d, outLen := 0 } : Resp) = r at ea
  have hrs : r.status = st := by rw [← hr]
  have mg : ∀ x : Bool, ∀ y, (if x = true then signal m y else y).mg = y.mg := by intro x y; split; exact signal_mg _ _; rfl
  have sl : ∀ x : Bool, ∀ y, (if x = true then signal m y else y).slices = y.slices := by intro x y; split; exact signal_slices _ _; rfl
  have fwx : ∀ x : Bool, ∀ y, (if x = true then signal m y else y).fw = y.fw := by intro x y; split; exact signal_fw _ _; rfl
  have stx : ∀ x : Bool, ∀ y, (if x = true then signal m y else y).store = y.store := by intro x y; split; exact signal_store _ _; rfl
  have e2 : (Cx.mod (answer m st [] [] false b) c).d = writeResponse m r c.d := ea
  refine ⟨_, ⟨hi, hf, ?_, ?_, ?_, ?_, ?_, ?_, ?_⟩, ?_, ?_⟩
  · dsimp only; rw [watch_slices, e2]; unfold writeResponse; simp only [hm', if_false]; rw [sl]; exact h1
  · dsimp only; rw [watch_mg, e2]; unfold writeResponse; simp only [hm', if_false]; rw [mg]; exact h2
  · dsimp only; rw [watch_store, e2]; unfold writeResponse; simp only [hm', if_false]; rw [stx]; exact h3
  · dsimp only; rw [watch_fw, e2]; unfold writeResponse; simp only [hm', if_false]; rw [fwx]; exact h4
  all_goals (dsimp only; rw [mailboxOf_same (watch_mg _ _), e2]; unfold writeResponse; simp only [hm', if_false]; rw [mailboxOf_same (mg _ _), mailboxOf_modBox])
  · refine ⟨respHeader (mailboxOf c.d m).qseq r 0 |>.drop 2, ?_⟩
    simp [respHeader, leBytes, ← hr]


/-! ## Mirrored commands -/

/-- A list of checks finds no failure where each of them passes. -/
theorem firstFail_none {l : List (Bool × Status)} : firstFail l = none ↔ ∀ e ∈ l, e.1 = true := by
  unfold firstFail; simp [List.find?_eq_none]

/-- A mirrored effect behind checks that pass. -/
theorem eff_ok {r l c k} (h : ∀ e ∈ l, e.1 = true) : eff r l c k = .ok k := by unfold eff; rw [firstFail_none.2 h]

/-- A slice that serves commands passes their two slice checks. -/
theorem thawed_checks {r : MReq} {c : Cx} {n} (hr : r = { force := false, scope := n, inp := r.inp, data := r.data }) (h : thawed n c) : (mSlice r).1 = true ∧ (mState r c unfrozen).1 = true := by
  rw [hr]; obtain ⟨h1, h2, h3⟩ := h
  refine ⟨by simp [mSlice, h1], ?_⟩
  simp only [mState, unfrozen, Bool.false_eq_true, if_false]
  cases hs : (sliceOf c.d n).state <;> simp_all

/-- An authority that serves passes the checks of an Officer command. -/
theorem authOk_checks {r : MReq} {c : Cx} {n} (hr : r = { force := false, scope := n, inp := r.inp, data := r.data }) (h : authOk n c) : (mAuth r).1 = true ∧ (mSetState r c).1 = true := by
  rcases h with h | h
  · rw [hr, h]; simp [mAuth, mSetState]
  · have := thawed_checks hr h; rw [hr] at this ⊢; refine ⟨by simp [mAuth, h.1], ?_⟩
    unfold mSetState; split; rfl; exact this.2

/-- What a mirrored command's row and its commit do, from its checks and its effect. -/
theorem mirrors_of {row : MbReq → Instr} {op : MOp} {good : Nat → List Byte → List Byte → Cx → Prop} {post : Nat → List Byte → List Byte → Cx → Cx}
    {bd out : Nat → List Byte → List Byte → Cx → List Byte}
    (hrow : ∀ q s, exec (row q) s = runMgmt op q s)
    (hbody : ∀ r c, good r.q.scope r.inp (dataOf op r c) c → body op r c = mirroredCmd op r c)
    (heff : ∀ n inp dat c, good n inp dat c → effect op { force := false, scope := n, inp := inp, data := dat } c = .ok (post n inp dat c, bd n inp dat c, out n inp dat c))
    (hfl : ∀ r c, good r.q.scope r.inp (dataOf op r c) c → ¬ ((op = .sliceReset ∨ op = .sliceRemove) ∧ inflight (sliceOf c.d r.q.scope) ≠ 0)) :
    Mirrors row op good post bd out := by
  refine ⟨?_, ?_⟩
  · intro q s r c ha hg ho
    have hb := hbody r c hg
    have he := heff _ _ _ _ hg
    have hf := hfl r c hg
    refine ⟨?_, ?_⟩
    · intro hd
      refine waits_of (hrow q s) ha ?_
      rw [hb]; unfold mirroredCmd; simp only [he, hf, if_false, hd, if_true]
      simp [behind, firstFail, outCap, ho]
    · intro hd hnf hs
      refine waits_of (hrow q s) ha ?_
      rw [hb]; unfold mirroredCmd; simp only [he, hf, if_false, hd]
      simp [behind, firstFail, outCap, ho, withRandom, hnf, hs]
  · intro s p rest m scope inp dat hc hp hk hg
    obtain ⟨h1, h2, h3, h4, h5, h6, h7, h8⟩ := hc
    have he := heff _ _ _ _ hg
    unfold DoesAll; rw [exec_skerryCommit]; unfold execSkerryCommit
    congr 1
    unfold commitFirst
    have a1 : alive s.cx.d = true := h1
    have a2 : s.cx.d.sys.ksk = true := h2
    have a3 : devFault s.cx.d = false := h3
    have a5 : s.cx.d.pair.steps = p :: rest := h5
    simp only [a1, a2, a3, a5, Bool.not_true, Bool.or_self, Bool.false_eq_true, if_false]
    have t1 : takeStep (fun x => x.phase == .committing && (!isReserve x.step && !blocked s.dev x.step)) (p :: rest) = some (p, rest) := by
      unfold takeStep
      have : isReserve p.step = false := by unfold isReserve; rw [hk]
      have b : blocked s.dev p.step = false := by unfold blocked replaces; rw [hk]
      simp [h6, this, b]
    rw [t1]; simp only
    unfold commitPend; simp only [h7, Bool.false_eq_true, if_false]
    have fx : ∀ d, fixReserve p.step d = p.step := by intro d; unfold fixReserve; rw [hk]
    simp only [fx]
    have pu : (Cx.mod (fun d => count 0x9001 1 none (some 0x301) false none (modPair (fun y => { y with steps := rest }) d)) s.cx) = committed s rest := rfl
    rw [pu]
    have pu2 : (committed s rest).d.pair.state = .unpaired := h4
    simp only [pu2, if_true]
    unfold applyStep; simp only [hk, h8, he]
    simp [hp]
    rfl

end Sys2Proof.Machine
end

