-- ==== Sys2Proof/Laws/Port.lean ====
section
/-! SUPPORT. Frames at the service port, and the steps of a pair with none under way. -/

namespace Sys2Proof.Machine

/-- A frame at a port that is shut or still owes an answer changes nothing. -/
theorem port_shut {ty f l k} {s : State} (h : portUp s.dev = false ∨ s.dev.fw.response ≠ none ∨ s.dev.fw.unanswered ≠ none) : onPort ty f l k s = .next s := by
  unfold onPort withCx
  have : (!portUp s.dev || s.dev.fw.response.isSome || s.dev.fw.unanswered.isSome) = true := by
    rcases h with h | h | h
    · simp [h]
    · cases hh : s.dev.fw.response <;> simp_all
    · cases hh : s.dev.fw.unanswered <;> simp_all
  rw [if_pos this]; exact withCx_same s

/-- A bad CRC or `SYNC` answers 1. -/
theorem port_bad {ty f l k} {s : State} (o : portUp s.dev = true ∧ s.dev.fw.response = none ∧ s.dev.fw.unanswered = none) (h : frameOk ty f = false) :
   onPort ty f l k s = withCx s (s.cx.mod (portAnswer ty f.seq 1 [])) := by
  unfold onPort; simp [o.1, o.2.1, o.2.2, h]

/-- A payload of the wrong length answers 3. -/
theorem port_length {ty f l k} {s : State} (o : portUp s.dev = true ∧ s.dev.fw.response = none ∧ s.dev.fw.unanswered = none) (h : frameOk ty f = true) (hl : l f.payload.length = false) :
   onPort ty f l k s = withCx s (s.cx.mod (portAnswer ty f.seq 3 [])) := by
  unfold onPort; simp [o.1, o.2.1, o.2.2, h, hl]

/-- A frame that is served answers as its body says. -/
theorem port_served {ty f l k} {s : State} {c st p} (o : portUp s.dev = true ∧ s.dev.fw.response = none ∧ s.dev.fw.unanswered = none) (h : frameOk ty f = true) (hl : l f.payload.length = true)
   (hk : k s.cx = (c, some (st, p))) :
   onPort ty f l k s = withCx s (c.mod (portAnswer ty f.seq st p)) := by
  unfold onPort; simp [o.1, o.2.1, o.2.2, h, hl, hk]

/-- The port serves frames of the CP or the boot ROM. -/
theorem portState_none {d : Dev} (h : alive d = true ∧ d.sys.cpRestart = false ∧ (d.sys.cpUp = true ∨ d.sys.stage = 5)) : portState d = none := by
  obtain ⟨a, b, c⟩ := h
  unfold portState portServed; rcases c with c | c <;> simp [a, b, c]

/-- The port serves package frames. -/
theorem packageState_none {d : Dev} (l : d.sys.lc ≠ 2) (h : alive d = true ∧ d.sys.cpRestart = false ∧ (d.sys.cpUp = true ∨ d.sys.stage = 5)) (q : d.fw.staging ≠ .activating ∧ d.fw.staging ≠ .verifying) : packageState d = none := by
  unfold packageState; rw [portState_none h]; simp [l, q.1, q.2]

/-- With no step under way nothing is submitted anew. -/
theorem resubmit_nil {d : Dev} (h : d.pair.steps = []) : resubmit d = d := by
  unfold resubmit; simp only [h, List.filter_nil, List.foldl_nil]
  rw [← h]

theorem askAgain_nil {d : Dev} (h : d.pair.steps = []) : askAgain d = d := by
  unfold askAgain modPair; simp only [h, List.map_nil]
  rw [← h]; exact resubmit_nil h

theorem abortRequested_nil {d : Dev} (h : d.pair.steps = []) : abortRequested d = d := by
  unfold abortRequested modPair; simp only [h, List.filter_nil, List.foldl_nil, List.filterMap_nil]
  rw [← h]

end Sys2Proof.Machine
end

