-- ==== Sys2Proof/Laws/Shape.lean ====
section
/-! SUPPORT. Everything a command can answer: a next state with the queue in place, whose status word has been watched unless a reset begins
or ends; else a fault or a refusal. -/

namespace Sys2Proof.Machine

/-- The eight commands that begin or end a reset. -/
def beginsOrEndsReset : Instr → Bool
  | .resetNAssert _ | .resetNRelease _ | .powerLoss | .perstNAssert | .perstNRelease _ | .hotReset _ | .linkDown _
  | .devResetStart _ => true
  | _ => false

/-- An answer that is a watched next state, or none. -/
def Watched (s : State) (o : Ans) : Prop :=
  ∀ t, o = .next t → ∃ d f, t = { s with dev := watch (fun _ => d) s.dev, fuse := f }

/-- An answer that is a watched next state with the fuses in place, or none. -/
def WatchedDev (s : State) (o : Ans) : Prop :=
  ∀ t, o = .next t → ∃ d, t = { s with dev := watch (fun _ => d) s.dev }

theorem WatchedDev.watched {s : State} {o : Ans} (h : WatchedDev s o) : Watched s o := by
  intro t ht; obtain ⟨d, rfl⟩ := h t ht; exact ⟨d, s.fuse, rfl⟩

theorem watched_withCx (s : State) (c : Cx) : Watched s (withCx s c) := by
  intro t h; cases h; exact ⟨c.d, c.f, rfl⟩

theorem watched_onDev (s : State) (f : Dev → Dev) : WatchedDev s (onDev f s) := by
  intro t h; cases h; exact ⟨f s.dev, rfl⟩

theorem watched_onUnit (s : State) (ok : Bool) (f : Dev → Dev) : WatchedDev s (onUnit ok f s) := by
  intro t h; unfold onUnit at h; split at h
  · cases h; exact ⟨f s.dev, rfl⟩
  · cases h

theorem watched_runTx (s : State) (op : Nat) (r : Run) (b : Ctx → M Act) : WatchedDev s (runTx op r b s) := watched_onUnit s _ _

theorem watched_runMgmt (s : State) (op : MOp) (q : MbReq) : Watched s (runMgmt op q s) := by
  intro t h; unfold runMgmt at h
  split at h
  · exact watched_withCx s _ t h
  · split at h
    · exact watched_withCx s _ t h
    · cases h

theorem watched_onDoe (s : State) (n : Nat) (r : DoeReq) (f : Dev → Option (Dev × List Byte)) : WatchedDev s (onDoe n r f s) :=
  watched_onDev s _

theorem watched_onPort (s : State) (ty : Nat) (f : SvcFrame) (l : Nat → Bool) (k : Cx → PortRes) : Watched s (onPort ty f l k s) :=
  watched_withCx s _

theorem watched_onFrame (s : State) (ty : Nat) (a : Bool) (f : Cx → Cx) : Watched s (onFrame ty a f s) := watched_withCx s _

theorem watched_same (s : State) : WatchedDev s (.next s) := by
  intro t h; cases h; exact ⟨s.dev, by rw [watch_same (fun _ => s.dev) s.dev rfl]⟩

theorem watched_fault (s : State) (b : Bool) (x : Fault) {o : Ans} (h : Watched s o) : Watched s (if b then .fault x else o) := by
  intro t ht; split at ht
  · cases ht
  · exact h t ht

theorem watched_if {s : State} {p : Prop} [Decidable p] {a b : Ans} (ha : Watched s a) (hb : Watched s b) :
    Watched s (if p then a else b) := by
  split
  · exact ha
  · exact hb

theorem watched_stop {s : State} {x : Fault} : Watched s (.fault x) := by intro t h; cases h

theorem watched_refused {s : State} {x : Refusal} : Watched s (.refused x) := by intro t h; cases h

/-- What every command answers where it begins or ends no reset. -/
theorem exec_watched (c : Instr) (s : State) (h : beginsOrEndsReset c = false) : Watched s (exec c s) := by
  cases c with
  | resetNAssert _ => cases h
  | resetNRelease _ => cases h
  | powerLoss => cases h
  | perstNAssert => cases h
  | perstNRelease _ => cases h
  | hotReset _ => cases h
  | linkDown _ => cases h
  | linkRetrain _ _ => rw [exec_linkRetrain]; exact (watched_onUnit s _ _).watched
  | configurationRequest _ => rw [exec_configurationRequest]; exact (watched_onDev s _).watched
  | unsupportedRequest _ => rw [exec_unsupportedRequest]; exact (watched_onDev s _).watched
  | barAccessRejected _ => rw [exec_barAccessRejected]; exact (watched_onUnit s _ _).watched
  | registerWrite _ => rw [exec_registerWrite]; exact (watched_onUnit s _ _).watched
  | sqTailWrite _ => rw [exec_sqTailWrite]; exact (watched_onUnit s _ _).watched
  | cqHeadWrite _ => rw [exec_cqHeadWrite]; exact (watched_onUnit s _ _).watched
  | interruptMessageStoreWrite _ => rw [exec_interruptMessageStoreWrite]; exact (watched_onUnit s _ _).watched
  | descriptorFetch => rw [exec_descriptorFetch]; exact (watched_onDev s _).watched
  | descriptorArrival _ _ _ => rw [exec_descriptorArrival]; exact (watched_onUnit s _ _).watched
  | dmaReadFault _ _ _ => rw [exec_dmaReadFault]; exact (watched_onUnit s _ _).watched
  | pcieCompletionTimeout _ _ => rw [exec_pcieCompletionTimeout]; exact (watched_onUnit s _ _).watched
  | ideCheckFail _ _ => rw [exec_ideCheckFail]; exact (watched_onUnit s _ _).watched
  | doeDiscovery _ => rw [exec_doeDiscovery]; exact (watched_onDoe s _ _ _).watched
  | getVersion _ => rw [exec_getVersion]; exact (watched_onDoe s _ _ _).watched
  | getCapabilities _ => rw [exec_getCapabilities]; exact (watched_onDoe s _ _ _).watched
  | negotiateAlgorithms _ => rw [exec_negotiateAlgorithms]; exact (watched_onDoe s _ _ _).watched
  | getDigests _ => rw [exec_getDigests]; exact (watched_onDoe s _ _ _).watched
  | getCertificate _ => rw [exec_getCertificate]; exact (watched_onDoe s _ _ _).watched
  | challenge _ => rw [exec_challenge]; exact (watched_onDoe s _ _ _).watched
  | getMeasurements _ => rw [exec_getMeasurements]; exact (watched_onDoe s _ _ _).watched
  | keyExchange _ => rw [exec_keyExchange]; exact (watched_onDoe s _ _ _).watched
  | finish _ => rw [exec_finish]; exact (watched_onDev s _).watched
  | heartbeatSpdm _ => rw [exec_heartbeatSpdm]; exact (watched_onDoe s _ _ _).watched
  | keyUpdate _ => rw [exec_keyUpdate]; exact (watched_onDoe s _ _ _).watched
  | endSession _ => rw [exec_endSession]; exact (watched_onDoe s _ _ _).watched
  | ideKm _ => rw [exec_ideKm]; exact (watched_onDoe s _ _ _).watched
  | itemDispatch => rw [exec_itemDispatch]; exact (watched_onDev s _).watched
  | preemptSave _ _ => rw [exec_preemptSave]; exact (watched_onUnit s _ _).watched
  | itemFinish _ _ => rw [exec_itemFinish]; exact (watched_onUnit s _ _).watched
  | drainCeilingExpiry _ => rw [exec_drainCeilingExpiry]; exact (watched_onUnit s _ _).watched
  | coreFence _ _ => rw [exec_coreFence]; exact (watched_onUnit s _ _).watched
  | engineFence _ _ _ => rw [exec_engineFence]; exact (watched_onUnit s _ _).watched
  | pkEngineFence _ _ => rw [exec_pkEngineFence]; exact (watched_onUnit s _ _).watched
  | keyCacheBankFence _ _ _ => rw [exec_keyCacheBankFence]; exact (watched_onUnit s _ _).watched
  | sliceError _ _ => rw [exec_sliceError]; exact (watched_onUnit s _ _).watched
  | deviceFaultStop _ => rw [exec_deviceFaultStop]; exact (watched_onDev s _).watched
  | cpLockstepMismatch => rw [exec_cpLockstepMismatch]; exact (watched_onDev s _).watched
  | cpWatchdogKick => rw [exec_cpWatchdogKick]; exact (watched_onDev s _).watched
  | cpWatchdogExpiry => rw [exec_cpWatchdogExpiry]; exact (watched_onDev s _).watched
  | cpRestartComplete => rw [exec_cpRestartComplete]; exact watched_withCx s _
  | gateViolation _ => rw [exec_gateViolation]; exact (watched_onUnit s _ _).watched
  | engineRequestStart _ => rw [exec_engineRequestStart]; exact (watched_onDev s _).watched
  | engineRequestComplete _ _ => rw [exec_engineRequestComplete]; exact (watched_onUnit s _ _).watched
  | engineAbortComplete _ _ => rw [exec_engineAbortComplete]; exact (watched_onUnit s _ _).watched
  | pkAbortComplete _ => rw [exec_pkAbortComplete]; exact (watched_onUnit s _ _).watched
  | keyImport _ => rw [exec_keyImport]; exact (watched_runTx s _ _ _).watched
  | keyExport _ => rw [exec_keyExport]; exact (watched_runTx s _ _ _).watched
  | keyGenerate _ => rw [exec_keyGenerate]; exact (watched_runTx s _ _ _).watched
  | keyCheckValue _ => rw [exec_keyCheckValue]; exact (watched_runTx s _ _ _).watched
  | keyStore _ => rw [exec_keyStore]; exact (watched_runTx s _ _ _).watched
  | keyDelete _ => rw [exec_keyDelete]; exact (watched_runTx s _ _ _).watched
  | keyDerive _ => rw [exec_keyDerive]; exact (watched_runTx s _ _ _).watched
  | keyTranslate _ => rw [exec_keyTranslate]; exact (watched_runTx s _ _ _).watched
  | keyLoadEphemeral _ => rw [exec_keyLoadEphemeral]; exact (watched_runTx s _ _ _).watched
  | keyRelease _ => rw [exec_keyRelease]; exact (watched_runTx s _ _ _).watched
  | keySlotInfo _ => rw [exec_keySlotInfo]; exact (watched_runTx s _ _ _).watched
  | reservationCommit _ _ => rw [exec_reservationCommit]; exact watched_if watched_stop (watched_withCx s _)
  | pinTranslate _ => rw [exec_pinTranslate]; exact (watched_runTx s _ _ _).watched
  | pinVerifyOffset _ => rw [exec_pinVerifyOffset]; exact (watched_runTx s _ _ _).watched
  | pinOffsetGenerate _ => rw [exec_pinOffsetGenerate]; exact (watched_runTx s _ _ _).watched
  | pinVerifyPvv _ => rw [exec_pinVerifyPvv]; exact (watched_runTx s _ _ _).watched
  | pvvGenerate _ => rw [exec_pvvGenerate]; exact (watched_runTx s _ _ _).watched
  | pinVerifyReference _ => rw [exec_pinVerifyReference]; exact (watched_runTx s _ _ _).watched
  | pinReferenceGenerate _ => rw [exec_pinReferenceGenerate]; exact (watched_runTx s _ _ _).watched
  | arqcVerify _ => rw [exec_arqcVerify]; exact (watched_runTx s _ _ _).watched
  | arpcGenerate _ => rw [exec_arpcGenerate]; exact (watched_runTx s _ _ _).watched
  | emvScriptMac _ => rw [exec_emvScriptMac]; exact (watched_runTx s _ _ _).watched
  | emvScriptPin _ => rw [exec_emvScriptPin]; exact (watched_runTx s _ _ _).watched
  | ccvGenerate _ => rw [exec_ccvGenerate]; exact (watched_runTx s _ _ _).watched
  | ccvVerify _ => rw [exec_ccvVerify]; exact (watched_runTx s _ _ _).watched
  | macGenerate _ => rw [exec_macGenerate]; exact (watched_runTx s _ _ _).watched
  | macVerify _ => rw [exec_macVerify]; exact (watched_runTx s _ _ _).watched
  | dataEncrypt _ => rw [exec_dataEncrypt]; exact (watched_runTx s _ _ _).watched
  | dataDecrypt _ => rw [exec_dataDecrypt]; exact (watched_runTx s _ _ _).watched
  | bulkMacGenerate _ => rw [exec_bulkMacGenerate]; exact (watched_runTx s _ _ _).watched
  | bulkMacVerify _ => rw [exec_bulkMacVerify]; exact (watched_runTx s _ _ _).watched
  | digest _ => rw [exec_digest]; exact (watched_runTx s _ _ _).watched
  | digestVerify _ => rw [exec_digestVerify]; exact (watched_runTx s _ _ _).watched
  | hmacDeriveKey _ => rw [exec_hmacDeriveKey]; exact (watched_runTx s _ _ _).watched
  | rsaSign _ => rw [exec_rsaSign]; exact (watched_runTx s _ _ _).watched
  | rsaVerify _ => rw [exec_rsaVerify]; exact (watched_runTx s _ _ _).watched
  | rsaDecrypt _ => rw [exec_rsaDecrypt]; exact (watched_runTx s _ _ _).watched
  | ecdsaSign _ => rw [exec_ecdsaSign]; exact (watched_runTx s _ _ _).watched
  | ecdsaVerify _ => rw [exec_ecdsaVerify]; exact (watched_runTx s _ _ _).watched
  | ecdhDerive _ => rw [exec_ecdhDerive]; exact (watched_runTx s _ _ _).watched
  | eddsaSign _ => rw [exec_eddsaSign]; exact (watched_runTx s _ _ _).watched
  | eddsaVerify _ => rw [exec_eddsaVerify]; exact (watched_runTx s _ _ _).watched
  | mlkemEncapsulate _ => rw [exec_mlkemEncapsulate]; exact (watched_runTx s _ _ _).watched
  | mlkemDecapsulate _ => rw [exec_mlkemDecapsulate]; exact (watched_runTx s _ _ _).watched
  | mldsaSign _ => rw [exec_mldsaSign]; exact (watched_runTx s _ _ _).watched
  | mldsaVerify _ => rw [exec_mldsaVerify]; exact (watched_runTx s _ _ _).watched
  | pkKeyGenerate _ => rw [exec_pkKeyGenerate]; exact (watched_runTx s _ _ _).watched
  | randomGenerate _ => rw [exec_randomGenerate]; exact (watched_runTx s _ _ _).watched
  | rngStatus _ => rw [exec_rngStatus]; exact (watched_runTx s _ _ _).watched
  | conditionedBlock => rw [exec_conditionedBlock]; exact (watched_onDev s _).watched
  | aptWindowClose => rw [exec_aptWindowClose]; exact (watched_onDev s _).watched
  | healthTestFailure _ => rw [exec_healthTestFailure]; exact (watched_onUnit s _ _).watched
  | sourceStartupPass => rw [exec_sourceStartupPass]; exact (watched_onDev s _).watched
  | sourceStartupTimeout => rw [exec_sourceStartupTimeout]; exact (watched_onDev s _).watched
  | instanceInstantiate => rw [exec_instanceInstantiate]; exact watched_withCx s _
  | drbgGenerate _ => rw [exec_drbgGenerate]; exact (watched_onUnit s _ _).watched
  | reseedDue _ => rw [exec_reseedDue]; exact (watched_onUnit s _ _).watched
  | reseedComplete => rw [exec_reseedComplete]; exact (watched_onDev s _).watched
  | conditionerMismatch => rw [exec_conditionerMismatch]; exact (watched_onDev s _).watched
  | drbgInstanceFence _ _ _ => rw [exec_drbgInstanceFence]; exact (watched_onUnit s _ _).watched
  | rawSampleRunEnd _ => rw [exec_rawSampleRunEnd]; exact (watched_onDev s _).watched
  | mbAck _ => rw [exec_mbAck]; exact (watched_onUnit s _ _).watched
  | executionLimitExpiry _ => rw [exec_executionLimitExpiry]; exact (watched_onUnit s _ _).watched
  | devInfo _ => rw [exec_devInfo]; exact watched_runMgmt s _ _
  | devReset _ => rw [exec_devReset]; exact watched_runMgmt s _ _
  | devResetStart _ => cases h
  | timeSet _ => rw [exec_timeSet]; exact watched_runMgmt s _ _
  | nonceGet _ => rw [exec_nonceGet]; exact watched_runMgmt s _ _
  | sessionOpen _ _ _ => rw [exec_sessionOpen]; exact watched_runMgmt s _ _
  | sessionClose _ => rw [exec_sessionClose]; exact watched_runMgmt s _ _
  | sessionIdleExpiry _ => rw [exec_sessionIdleExpiry]; exact (watched_onDev s _).watched
  | hifPolicySet _ => rw [exec_hifPolicySet]; exact watched_runMgmt s _ _
  | rngSelfTest _ _ => rw [exec_rngSelfTest]; exact watched_runMgmt s _ _
  | rngRawSample _ => rw [exec_rngRawSample]; exact watched_runMgmt s _ _
  | sliceCreate _ => rw [exec_sliceCreate]; exact watched_runMgmt s _ _
  | sliceBind _ => rw [exec_sliceBind]; exact watched_runMgmt s _ _
  | sliceRingSetup _ => rw [exec_sliceRingSetup]; exact watched_runMgmt s _ _
  | sliceActivate _ => rw [exec_sliceActivate]; exact watched_runMgmt s _ _
  | sliceQuiesce _ => rw [exec_sliceQuiesce]; exact watched_runMgmt s _ _
  | sliceFreeze _ => rw [exec_sliceFreeze]; exact watched_runMgmt s _ _
  | sliceResume _ => rw [exec_sliceResume]; exact watched_runMgmt s _ _
  | sliceReset _ => rw [exec_sliceReset]; exact watched_runMgmt s _ _
  | sliceRemove _ => rw [exec_sliceRemove]; exact watched_runMgmt s _ _
  | sliceSave _ => rw [exec_sliceSave]; exact watched_runMgmt s _ _
  | sliceRestore _ _ _ => rw [exec_sliceRestore]; exact watched_runMgmt s _ _
  | slicePolicySet _ => rw [exec_slicePolicySet]; exact watched_runMgmt s _ _
  | sliceStatus _ => rw [exec_sliceStatus]; exact watched_runMgmt s _ _
  | migrationKeyOffer _ => rw [exec_migrationKeyOffer]; exact watched_runMgmt s _ _
  | migrationKeyAccept _ _ => rw [exec_migrationKeyAccept]; exact watched_runMgmt s _ _
  | migrationKeyComplete _ _ => rw [exec_migrationKeyComplete]; exact watched_runMgmt s _ _
  | migrationKeyExpiry _ => rw [exec_migrationKeyExpiry]; exact (watched_onUnit s _ _).watched
  | tenantPolicySet _ => rw [exec_tenantPolicySet]; exact watched_runMgmt s _ _
  | officerEnroll _ _ => rw [exec_officerEnroll]; exact watched_runMgmt s _ _
  | officerRemove _ => rw [exec_officerRemove]; exact watched_runMgmt s _ _
  | quorumSet _ => rw [exec_quorumSet]; exact watched_runMgmt s _ _
  | officerList _ => rw [exec_officerList]; exact watched_runMgmt s _ _
  | lmkComponentLoad _ => rw [exec_lmkComponentLoad]; exact watched_runMgmt s _ _
  | lmkCommit _ => rw [exec_lmkCommit]; exact watched_runMgmt s _ _
  | lmkTr34Load _ _ => rw [exec_lmkTr34Load]; exact watched_runMgmt s _ _
  | lmkActivate _ => rw [exec_lmkActivate]; exact watched_runMgmt s _ _
  | lmkRemove _ => rw [exec_lmkRemove]; exact watched_runMgmt s _ _
  | lmkInfo _ => rw [exec_lmkInfo]; exact watched_runMgmt s _ _
  | tr34KrdInit _ _ => rw [exec_tr34KrdInit]; exact watched_runMgmt s _ _
  | tr34AnchorSet _ _ => rw [exec_tr34AnchorSet]; exact watched_runMgmt s _ _
  | curveLoad _ _ => rw [exec_curveLoad]; exact watched_runMgmt s _ _
  | curveClear _ => rw [exec_curveClear]; exact watched_runMgmt s _ _
  | slotImport _ => rw [exec_slotImport]; exact watched_runMgmt s _ _
  | slotDelete _ => rw [exec_slotDelete]; exact watched_runMgmt s _ _
  | logRead _ => rw [exec_logRead]; exact watched_runMgmt s _ _
  | logClear _ => rw [exec_logClear]; exact watched_runMgmt s _ _
  | logRateSet _ => rw [exec_logRateSet]; exact watched_runMgmt s _ _
  | ctrSelect _ => rw [exec_ctrSelect]; exact watched_runMgmt s _ _
  | ctrRead _ => rw [exec_ctrRead]; exact watched_runMgmt s _ _
  | ctrDumpSet _ => rw [exec_ctrDumpSet]; exact watched_runMgmt s _ _
  | bwmonSet _ => rw [exec_bwmonSet]; exact watched_runMgmt s _ _
  | ctrGrant _ => rw [exec_ctrGrant]; exact watched_runMgmt s _ _
  | ctrRevoke _ => rw [exec_ctrRevoke]; exact watched_runMgmt s _ _
  | tamperStatus _ => rw [exec_tamperStatus]; exact watched_runMgmt s _ _
  | tamperUnlock _ => rw [exec_tamperUnlock]; exact watched_runMgmt s _ _
  | tamperConfig _ => rw [exec_tamperConfig]; exact watched_runMgmt s _ _
  | tamperFuseDisable _ => rw [exec_tamperFuseDisable]; exact watched_runMgmt s _ _
  | lcClose _ => rw [exec_lcClose]; exact watched_runMgmt s _ _
  | lcScrap _ => rw [exec_lcScrap]; exact watched_runMgmt s _ _
  | lcScrapStart => rw [exec_lcScrapStart]; exact watched_withCx s _
  | debugChallenge _ => rw [exec_debugChallenge]; exact watched_runMgmt s _ _
  | debugChallengeExpiry => rw [exec_debugChallengeExpiry]; exact (watched_onDev s _).watched
  | debugReopen _ _ => rw [exec_debugReopen]; exact watched_runMgmt s _ _
  | debugReopenStart => rw [exec_debugReopenStart]; exact watched_withCx s _
  | fwStatus _ => rw [exec_fwStatus]; exact watched_runMgmt s _ _
  | fwActivate _ => rw [exec_fwActivate]; exact watched_runMgmt s _ _
  | fwDiscard _ => rw [exec_fwDiscard]; exact watched_runMgmt s _ _
  | pairFound _ => rw [exec_pairFound]; exact watched_runMgmt s _ _
  | pairJoin _ => rw [exec_pairJoin]; exact watched_runMgmt s _ _
  | pairAdmit _ => rw [exec_pairAdmit]; exact watched_runMgmt s _ _
  | pairResolve _ => rw [exec_pairResolve]; exact watched_runMgmt s _ _
  | unpair _ => rw [exec_unpair]; exact watched_runMgmt s _ _
  | pairStatus _ => rw [exec_pairStatus]; exact watched_runMgmt s _ _
  | pairTimeoutSet _ => rw [exec_pairTimeoutSet]; exact watched_runMgmt s _ _
  | pairSwap _ => rw [exec_pairSwap]; exact watched_runMgmt s _ _
  | pairTakeOver _ => rw [exec_pairTakeOver]; exact watched_runMgmt s _ _
  | tamperAlarm _ _ => rw [exec_tamperAlarm]; exact watched_withCx s _
  | eraseVolatileComplete => rw [exec_eraseVolatileComplete]; exact watched_withCx s _
  | eraseShareComplete => rw [exec_eraseShareComplete]; exact watched_withCx s _
  | tamperSourceClear _ => rw [exec_tamperSourceClear]; exact (watched_onUnit s _ _).watched
  | extTamperEdge _ _ => rw [exec_extTamperEdge]; exact watched_withCx s _
  | extTamperPhaseTimeout _ => rw [exec_extTamperPhaseTimeout]; exact watched_withCx s _
  | extTamperPowerupCheck => rw [exec_extTamperPowerupCheck]; exact watched_withCx s _
  | fuseResense _ => rw [exec_fuseResense]; exact watched_withCx s _
  | shieldPatternRenew _ => rw [exec_shieldPatternRenew]; exact watched_withCx s _
  | jtagInstructionLoad _ => rw [exec_jtagInstructionLoad]; exact watched_withCx s _
  | muleCheckerTest _ _ => rw [exec_muleCheckerTest]; exact watched_if watched_stop (watched_withCx s _)
  | muleProgress => rw [exec_muleProgress]; exact (watched_onDev s _).watched
  | muleProgressTimeout => rw [exec_muleProgressTimeout]; exact (watched_onDev s _).watched
  | scrubPass _ _ _ => rw [exec_scrubPass]; exact (watched_onUnit s _ _).watched
  | skerryScrub _ _ => rw [exec_skerryScrub]; exact (watched_onUnit s _ _).watched
  | skerryCommit => rw [exec_skerryCommit]; exact watched_withCx s _
  | straitTrainingStart => rw [exec_straitTrainingStart]; exact (watched_onDev s _).watched
  | straitTrainingComplete _ => rw [exec_straitTrainingComplete]; exact (watched_onUnit s _ _).watched
  | straitTrainingRetry => rw [exec_straitTrainingRetry]; exact (watched_onDev s _).watched
  | heartbeatSend => rw [exec_heartbeatSend]; exact (watched_onDev s _).watched
  | hello _ _ => rw [exec_hello]; exact watched_withCx s _
  | heartbeat _ _ => rw [exec_heartbeat]; exact watched_withCx s _
  | journalReq _ _ => rw [exec_journalReq]; exact watched_onFrame s _ _ _
  | journal _ _ => rw [exec_journal]; exact watched_onFrame s _ _ _
  | journalAck _ _ => rw [exec_journalAck]; exact watched_onFrame s _ _ _
  | resync _ _ => rw [exec_resync]; exact watched_onFrame s _ _ _
  | resyncComplete => rw [exec_resyncComplete]; exact watched_withCx s _
  | relinquish _ _ => rw [exec_relinquish]; exact watched_onFrame s _ _ _
  | control _ _ => rw [exec_control]; exact watched_onFrame s _ _ _
  | heartbeatLoss => rw [exec_heartbeatLoss]; exact watched_withCx s _
  | journalAckTimeout => rw [exec_journalAckTimeout]; exact watched_withCx s _
  | pairTimeoutExpiry => rw [exec_pairTimeoutExpiry]; exact (watched_onDev s _).watched
  | eventRecordWrite => rw [exec_eventRecordWrite]; exact (watched_onDev s _).watched
  | tokenAdd _ => rw [exec_tokenAdd]; exact (watched_onDev s _).watched
  | suppressionSummary => rw [exec_suppressionSummary]; exact (watched_onDev s _).watched
  | bwmonWindowEnd _ _ => rw [exec_bwmonWindowEnd]; exact (watched_onUnit s _ _).watched
  | dumpPeriodEnd _ => rw [exec_dumpPeriodEnd]; exact (watched_onDev s _).watched
  | pufReread _ => rw [exec_pufReread]; exact watched_withCx s _
  | bootImageVerify _ => rw [exec_bootImageVerify]; exact watched_withCx s _
  | deviceReady _ _ _ => rw [exec_deviceReady]; exact (watched_onUnit s _ _).watched
  | status _ => rw [exec_status]; exact watched_onPort s _ _ _ _
  | svcLogRead _ => rw [exec_svcLogRead]; exact watched_onPort s _ _ _ _
  | pkgBegin _ => rw [exec_pkgBegin]; exact watched_onPort s _ _ _ _
  | pkgData _ => rw [exec_pkgData]; exact watched_onPort s _ _ _ _
  | pkgEnd _ _ => rw [exec_pkgEnd]; exact watched_onPort s _ _ _ _
  | pkgAbort _ => rw [exec_pkgAbort]; exact watched_onPort s _ _ _ _
  | activate _ => rw [exec_activate]; exact watched_onPort s _ _ _ _
  | test _ => rw [exec_test]; exact watched_if watched_refused (watched_onPort s _ _ _ _)
  | svcResponseRead => rw [exec_svcResponseRead]; exact (watched_onDev s _).watched
  | svcBootStatusRead => rw [exec_svcBootStatusRead]; exact (watched_onDev s _).watched
  | svcResponseTimeout => rw [exec_svcResponseTimeout]; exact (watched_onDev s _).watched
  | svcTransactionTimeout => rw [exec_svcTransactionTimeout]; exact (watched_same s).watched
  | svcReceptionTimeout => rw [exec_svcReceptionTimeout]; exact (watched_onDev s _).watched
  | activationDrainExpiry => rw [exec_activationDrainExpiry]; exact (watched_onDev s _).watched
  | activationBankCommit => rw [exec_activationBankCommit]; exact (watched_onDev s _).watched
  | activationLoadComplete _ => rw [exec_activationLoadComplete]; exact watched_if watched_stop (watched_withCx s _)

/-- No command changes the queue. -/
theorem exec_pending {c : Instr} {s t : State} (h : exec c s = .next t) : t.pending = s.pending := by
  cases hr : beginsOrEndsReset c with
  | false => obtain ⟨d, f, rfl⟩ := exec_watched c s hr t h; rfl
  | true =>
    have key : ∀ c' : Cx, resetTo s c' = .next t → t.pending = s.pending := by intro c' h'; cases h'; rfl
    cases c <;> first | (cases hr; done) | exact key _ h

end Sys2Proof.Machine
end

