-- ==== Sys2Proof/Laws/Tx.lean ====
section
/-! SUPPORT. Commands of transaction opcodes: how reading operands composes, and one law that turns a run of a command's body into the
next state of its row. -/

namespace Sys2Proof.Machine

theorem Reads.pure {α : Type} (a : α) (d : Dev) : Reads (Pure.pure a : M α) d a d := rfl

/-- A run whose first part is known. -/
theorem run_bind {α β : Type} {m : M α} {f : α → M β} {d d1 : Dev} {a : α} (h : Reads m d a d1) :
    (m >>= f).run.run d = (f a).run.run d1 := by
  unfold Reads at h
  show (ExceptT.run (ExceptT.bind m f)) d = _
  simp only [ExceptT.bind, ExceptT.run, ExceptT.mk] at *
  show (StateT.bind m (ExceptT.bindCont f)) d = _
  simp only [StateT.bind, bind]
  rw [show (m d : Id (Except Stop α × Dev)) = (Except.ok a, d1) from h]
  rfl

/-- Reading goes on with what was read. -/
theorem Reads.bind {α β : Type} {m : M α} {f : α → M β} {d d1 d2 : Dev} {a : α} {b : β}
    (h : Reads m d a d1) (k : Reads (f a) d1 b d2) : Reads (m >>= f) d b d2 := by
  unfold Reads at k ⊢
  rw [run_bind h, k]

/-- A check that passes. -/
theorem Reads.chk {b : Bool} {st : Status} {d : Dev} (h : b = true) : Reads (chk b st) d () d := by subst h; rfl

/-- Reading the device. -/
theorem Reads.get (d : Dev) : Reads (MonadState.get : M Dev) d d d := rfl

/-- A value that is there. -/
theorem Reads.orFail {α : Type} {x : Option α} {a : α} {st : Status} {d : Dev} (h : x = some a) : Reads (orFail x st) d a d := by
  subst h; rfl

theorem Reads.liftS {α : Type} {x : Except Status α} {a : α} {d : Dev} (h : x = .ok a) : Reads (liftS x) d a d := by subst h; rfl

/-- `SLOT` names a slot. -/
theorem Reads.slotOk {c : Ctx} {d : Dev} (h : c.p 0x39 1 < 64) : Reads (slotOk c) d () d := Reads.chk (by simpa using h)

/-- The slice's policy allows a write to a slot. -/
theorem Reads.slotWritePolicy {c : Ctx} {dest : Nat} {d : Dev}
    (h : dest = 1 → bitAt (sliceOf d c.i.slice).per.policy 0 = true) : Reads (slotWritePolicy c dest) d () d := by
  refine Reads.bind (Reads.get d) (Reads.chk ?_)
  by_cases e : dest = 1 <;> simp [e, h]

/-- The run of a body as the way it ends. -/
def asRun (o : Except Res Act) : Except Stop Act :=
  match o with
  | .ok a => .ok a
  | .error r => .error (.fail r)

/-- A command at work whose body ends as `o` completes its row so. -/
theorem runTx_ends {s : State} {r : Run} {op : Nat} {c : Ctx} {body : Ctx → M Act} {o : Except Res Act} {d : Dev}
    (h : AtWork s r op c) (hb : (body c).run.run (begun s c) = (asRun o, d)) :
    runTx op r body s = .next { s with dev := watch (fun _ => ends c o (charge (c.r.core % 15) (d.rng.drawn - s.dev.rng.drawn) d)) s.dev } := by
  obtain ⟨hs, hc, ht, i, hi, ho, h1, h2, h3, h4, h5, h6⟩ := h
  have hd : (begun s c).rng.drawn = s.dev.rng.drawn := by
    unfold begun modItem; split <;> rfl
  unfold runTx onUnit
  simp only [hc, ht, decide_true, Bool.and_self, if_true]
  rw [show ∀ f : Dev → Dev, watch f s.dev = watch (fun _ => f s.dev) s.dev from fun _ => rfl]
  have hcc : ({ id := c.id, i := { i with wait := .none }, r := i.run.getD r } : Ctx) = c := by rw [← h5, ← h6]
  have hn : ¬ (dOpcode i.desc ≠ op ∨ i.res.isSome = true ∨ i.abort = true ∨ i.queued.isSome = true ∨
      (i.wait ≠ .none ∧ i.wait ≠ .rng) ∨ (i.wait = .rng ∧ (!rngForItems s.dev) = true ∧ (!s.dev.rng.failed) = true)) := by
    rw [ho, h1, h2, h3]
    rcases h4 with h4 | ⟨h4, h4'⟩
    · simp [h4]
    · rcases h4' with h4' | h4' <;> simp [h4, h4']
  simp only [hs, hi, Bool.not_true, Bool.false_eq_true, if_false, if_neg hn, hcc]
  unfold settle
  rw [show (modItem c.id (fun i => { i with wait := .none }) s.dev) = begun s c from rfl, hb, hd]
  cases o with
  | error r => rfl
  | ok a => cases a <;> rfl

/-! ## Running a body step by step -/

theorem run_chk {β} (b : Bool) (st : Status) (f : Unit → M β) (d : Dev) (h : b = true) : (chk b st >>= f).run.run d = (f ()).run.run d :=
  run_bind (Reads.chk h)

theorem run_get {β} (f : Dev → M β) (d : Dev) : ((MonadState.get : M Dev) >>= f).run.run d = (f d).run.run d := run_bind (Reads.get d)

theorem run_liftS {α β} {x : Except Status α} {a : α} (f : α → M β) (d : Dev) (h : x = .ok a) : (liftS x >>= f).run.run d = (f a).run.run d :=
  run_bind (Reads.liftS h)

theorem run_orFail {α β} {x : Option α} {a : α} {st} (f : α → M β) (d : Dev) (h : x = some a) : (orFail x st >>= f).run.run d = (f a).run.run d :=
  run_bind (Reads.orFail h)

theorem run_pure {α β} (a : α) (f : α → M β) (d : Dev) : ((pure a : M α) >>= f).run.run d = (f a).run.run d := run_bind (Reads.pure a d)

theorem begun_slice (s : State) (c : Ctx) (n) : sliceOf (begun s c) n = sliceOf s.dev n := by unfold begun modItem; split <;> rfl

/-- A row whose body ends as `o` does so. -/
theorem txDoes_of {s r op c body o d} (i : Instr) (e : exec i s = runTx op r body s) (h : AtWork s r op c)
   (hb : (body c).run.run (begun s c) = (asRun o, d)) : TxDoes i s c o d := by
  unfold TxDoes Does; rw [e]; exact runTx_ends h hb

end Sys2Proof.Machine
end

