-- ==== Sys2Proof/WellFormed.lean ====
section
/-! DEFINITION. Well-formed commands: operands within the fields that carry them and within the largest part of the family. -/

namespace Sys2Proof

/-- A core and one of its four threads (R71). -/
def threadWf (core thread : Nat) : Bool := decide (core < Config.cores false) && decide (thread < 4)

/-- A fence cause (R327). -/
def causeWf (cause : Nat) : Bool := decide (1 ≤ cause) && decide (cause ≤ 8)

/-- Engines of a pool in the larger part (R2). -/
def poolMax : Pool → Nat
  | .cipher => Config.cipherEngines false
  | .digest => Config.digestEngines false
  | .pk => Config.pkEngines false

/-- A unit of a class of R328. -/
def unitWf (cls unit : Nat) : Bool :=
  match cls with
  | 1 => decide (unit < Config.cores false)
  | 2 => decide (unit < Config.cipherEngines false)
  | 3 => decide (unit < Config.digestEngines false)
  | 4 => decide (unit < Config.pkEngines false)
  | 5 | 6 => decide (unit < 16)
  | _ => false

def ReadFor.wf : ReadFor → Bool
  | .input c t | .keyBlock c t => threadWf c t
  | .descriptor slice ring => decide (slice < 4096) && decide (ring < 8)

/-- An access lies in its BAR and its value in its bytes (R36). -/
def BarAccess.wf (a : BarAccess) : Bool :=
  ((a.bar == 0 && decide (a.off + a.size ≤ 2 ^ 20)) || (a.bar == 2 && decide (a.off + a.size ≤ 2 ^ 24))
    || (a.bar == 4 && decide (a.off + a.size ≤ 2 ^ 16)))
  && decide (a.value < 2 ^ (8 * a.size)) && a.pasid.all (fun p => decide (p < 2 ^ 20))

def ConfigOp.wf : ConfigOp → Bool
  | .completionTimeout v => decide (v < 16)
  | .read | .relaxedOrdering _ | .virtualChannel _ _ | .msixEnable _ | .otherWrite => true

/-- Straps and the two start-up test sets (R254). -/
def Pins.wf (p : Pins) : Bool := decide (p.katFails < 4)

def Run.wf (r : Run) : Bool := threadWf r.core r.thread

def DoeReq.wf (r : DoeReq) : Bool := decide (r.len < 2 ^ 20) && r.session.all (fun k => decide (k < 2 ^ 32))

/-- A management request's fields fit their places in the request header (R265). -/
def MbReq.wf (r : MbReq) : Bool :=
  decide (r.mailbox < 8) && decide (r.scope < 2 ^ 16) && decide (r.reqId < 2 ^ 32) && decide (r.bodyLen < 2 ^ 32)
    && decide (r.session < 2 ^ 32) && decide (r.inAddr < 2 ^ 64) && decide (r.inLen < 2 ^ 32) && decide (r.outCap < 2 ^ 32)
    && decide (r.outAddr < 2 ^ 64) && decide (r.quorumLen < 2 ^ 32) && decide (r.rsv < 2 ^ 32)

def GateAccess.wf (a : GateAccess) : Bool := decide (a.master < 2 ^ 16) && decide (a.addr < 2 ^ 64) && decide (1 ≤ a.size)

def Checker.wf : Checker → Bool
  | .core n | .secdedCore n => decide (n < Config.cores false)
  | .secdedBank n | .drbg n => decide (n < 16)
  | .cipher n => decide (n < Config.cipherEngines false)
  | .digest n => decide (n < Config.digestEngines false)
  | .pk n => decide (n < Config.pkEngines false)
  | .health n => decide (n < 6)
  | .secdedUnspared | .conditioner | .gates | .lockstep | .goose | .unspared => true

def Arr.wf : Arr → Bool
  | .core n => decide (n < Config.cores false)
  | .cipher n => decide (n < Config.cipherEngines false)
  | .digest n => decide (n < Config.digestEngines false)
  | .pk n => decide (n < Config.pkEngines false)
  | .bank n | .drbg n => decide (n < 16)
  | .sliceState n => decide (n < 4096)
  | .cpMemory | .unspared _ => true

/-- A step names a slice, or the device. -/
def Step.wf (s : Step) : Bool := decide (s.slice < 4096) || s.slice == 0xFFFF

/-- A journal entry spans 1 to 16 records (R385). -/
def Entry.wf (e : Entry) : Bool :=
  decide (1 ≤ e.records) && decide (e.records ≤ 16) && decide (e.origin ≤ 1) && decide (e.seq < 2 ^ 64) && e.step.wf

def HelloMsg.wf (m : HelloMsg) : Bool :=
  decide (m.serial < 2 ^ 64) && m.nonce.length == 32 && decide (m.journalSeq < 2 ^ 64) && m.pairMode.all (fun k => decide (k ≤ 3))

def ControlMsg.wf : ControlMsg → Bool
  | .swap n => decide (n < 2 ^ 64)
  | .setTime t => decide (t < 2 ^ 63)
  | .rekey => true

/-- A service-port frame's one-byte fields (R432). -/
def SvcFrame.wf (f : SvcFrame) : Bool :=
  decide (f.sync < 256) && decide (f.seq < 256) && decide (f.spStatus < 256) && decide (f.payload.length ≤ 4096) && decide (f.crc < 2 ^ 32)

/-- A command is well formed. -/
def Instr.wf : Instr → Bool
  | .resetNAssert _ => true
  | .resetNRelease r => r.wf
  | .powerLoss | .perstNAssert => true
  | .perstNRelease r | .hotReset r | .linkDown r => r.wf
  | .linkRetrain speed width => [64, 32, 16, 8, 5, 2].contains speed && [16, 8, 4, 2, 1].contains width
  | .configurationRequest op => op.wf
  | .unsupportedRequest _ => true
  | .barAccessRejected a => a.wf
  | .registerWrite a => a.wf && a.write
  | .sqTailWrite a => a.wf && a.write && a.bar == 2 && decide (a.off % 0x1000 < 0x20)
  | .cqHeadWrite a => a.wf && a.write && a.bar == 2 && decide (0x20 ≤ a.off % 0x1000) && decide (a.off % 0x1000 < 0x40)
  | .interruptMessageStoreWrite a => a.wf && a.write && a.bar == 0 && decide (0x80000 ≤ a.off) && decide (a.off < 0x90000)
  | .descriptorFetch => true
  | .descriptorArrival slice ring desc => decide (slice < 4096) && decide (ring < 8) && desc.length == 128
  | .dmaReadFault r _ addr => r.wf && decide (addr < 2 ^ 64)
  | .pcieCompletionTimeout r addr => r.wf && decide (addr < 2 ^ 64)
  | .ideCheckFail stream reads => decide (stream < 9) && reads.all ReadFor.wf
  | .doeDiscovery r | .getVersion r | .getCapabilities r | .negotiateAlgorithms r | .getDigests r | .getCertificate r |
    .challenge r | .getMeasurements r | .keyExchange r | .finish r | .heartbeatSpdm r | .keyUpdate r | .endSession r |
    .ideKm r => r.wf
  | .itemDispatch => true
  | .preemptSave core thread | .itemFinish core thread => threadWf core thread
  | .drainCeilingExpiry slice => decide (slice < 4096)
  | .coreFence core cause => decide (core < Config.cores false) && causeWf cause
  | .engineFence cipher n cause => decide (n < if cipher then Config.cipherEngines false else Config.digestEngines false) && causeWf cause
  | .pkEngineFence n cause => decide (n < Config.pkEngines false) && causeWf cause
  | .keyCacheBankFence bank cause reader => decide (bank < 16) && causeWf cause && reader.all (fun r => threadWf r.1 r.2)
  | .sliceError slice cause => decide (slice < 4096) && (cause == 1 || cause == 2)
  | .deviceFaultStop block => decide (block < 2 ^ 16)
  | .cpLockstepMismatch | .cpWatchdogKick | .cpWatchdogExpiry | .cpRestartComplete => true
  | .gateViolation a => a.wf
  | .engineRequestStart _ => true
  | .engineRequestComplete pool n => decide (n < poolMax pool)
  | .engineAbortComplete pool n => pool != .pk && decide (n < poolMax pool)
  | .pkAbortComplete n => decide (n < Config.pkEngines false)
  | .keyImport r | .keyExport r | .keyGenerate r | .keyCheckValue r | .keyStore r | .keyDelete r | .keyDerive r |
    .keyTranslate r | .keyLoadEphemeral r | .keyRelease r | .keySlotInfo r => r.wf
  | .reservationCommit slice slot => decide (slice < 4096) && decide (slot < 64)
  | .pinTranslate r | .pinVerifyOffset r | .pinOffsetGenerate r | .pinVerifyPvv r | .pvvGenerate r | .pinVerifyReference r |
    .pinReferenceGenerate r | .arqcVerify r | .arpcGenerate r | .emvScriptMac r | .emvScriptPin r | .ccvGenerate r |
    .ccvVerify r | .macGenerate r | .macVerify r | .dataEncrypt r | .dataDecrypt r | .bulkMacGenerate r | .bulkMacVerify r |
    .digest r | .digestVerify r | .hmacDeriveKey r | .rsaSign r | .rsaVerify r | .rsaDecrypt r | .ecdsaSign r |
    .ecdsaVerify r | .ecdhDerive r | .eddsaSign r | .eddsaVerify r | .mlkemEncapsulate r | .mlkemDecapsulate r |
    .mldsaSign r | .mldsaVerify r | .pkKeyGenerate r | .randomGenerate r | .rngStatus r => r.wf
  | .conditionedBlock | .aptWindowClose => true
  | .healthTestFailure k => k == 1 || k == 2
  | .sourceStartupPass | .sourceStartupTimeout | .instanceInstantiate => true
  | .drbgGenerate n | .reseedDue n => decide (n < 16)
  | .reseedComplete | .conditionerMismatch => true
  | .drbgInstanceFence n cause reader => decide (n < 16) && causeWf cause && reader.all (fun r => threadWf r.1 r.2)
  | .rawSampleRunEnd fails => decide (fails < 2 ^ 32)
  | .mbAck mailbox | .executionLimitExpiry mailbox => decide (mailbox < 8)
  | .devInfo r | .devReset r | .devResetStart r | .timeSet r | .nonceGet r => r.wf
  | .sessionOpen r _ _ => r.wf
  | .sessionClose r => r.wf
  | .sessionIdleExpiry _ => true
  | .hifPolicySet r => r.wf
  | .rngSelfTest r fails => r.wf && decide (fails < 4)
  | .rngRawSample r | .sliceCreate r | .sliceBind r | .sliceRingSetup r | .sliceActivate r | .sliceQuiesce r |
    .sliceFreeze r | .sliceResume r | .sliceReset r | .sliceRemove r | .sliceSave r => r.wf
  | .sliceRestore r body _ => r.wf && decide (body.length < 2 ^ 32)
  | .slicePolicySet r | .sliceStatus r | .migrationKeyOffer r => r.wf
  | .migrationKeyAccept r _ | .migrationKeyComplete r _ => r.wf
  | .migrationKeyExpiry entry => decide (entry < 16)
  | .tenantPolicySet r => r.wf
  | .officerEnroll r v => r.wf && decide (v.length ≤ 32)
  | .officerRemove r | .quorumSet r | .officerList r | .lmkComponentLoad r | .lmkCommit r => r.wf
  | .lmkTr34Load r v => r.wf && decide (v.random.length ≤ 64) && decide (v.key.length ≤ 256)
  | .lmkActivate r | .lmkRemove r | .lmkInfo r => r.wf
  | .tr34KrdInit r pub => r.wf && pub.length == 1960
  | .tr34AnchorSet r _ | .curveLoad r _ => r.wf
  | .curveClear r | .slotImport r | .slotDelete r | .logRead r | .logClear r | .logRateSet r | .ctrSelect r | .ctrRead r |
    .ctrDumpSet r | .bwmonSet r | .ctrGrant r | .ctrRevoke r | .tamperStatus r | .tamperUnlock r | .tamperConfig r |
    .tamperFuseDisable r | .lcClose r | .lcScrap r => r.wf
  | .lcScrapStart => true
  | .debugChallenge r => r.wf
  | .debugChallengeExpiry => true
  | .debugReopen r _ => r.wf
  | .debugReopenStart => true
  | .fwStatus r | .fwActivate r | .fwDiscard r | .pairFound r | .pairJoin r | .pairAdmit r | .pairResolve r | .unpair r |
    .pairStatus r | .pairTimeoutSet r | .pairSwap r | .pairTakeOver r => r.wf
  | .tamperAlarm _ _ => true
  | .eraseVolatileComplete | .eraseShareComplete => true
  | .tamperSourceClear n => decide (n < 12)
  | .extTamperEdge _ _ => true
  | .extTamperPhaseTimeout _ => true
  | .extTamperPowerupCheck => true
  | .fuseResense _ | .shieldPatternRenew _ => true
  | .jtagInstructionLoad ir => decide (ir < 32)
  | .muleCheckerTest c _ => c.wf
  | .muleProgress | .muleProgressTimeout => true
  | .scrubPass a _ word => a.wf && decide (word < 2 ^ 32)
  | .skerryScrub r _ => decide (1 ≤ r.region) && decide (r.region ≤ 9)
  | .skerryCommit | .straitTrainingStart => true
  | .straitTrainingComplete lanes => decide (lanes ≤ 8)
  | .straitTrainingRetry | .heartbeatSend => true
  | .hello _ m => m.wf
  | .heartbeat _ m => decide (m.time < 2 ^ 63) && decide (m.journalSeq < 2 ^ 64)
  | .journalReq _ step => step.wf
  | .journal _ e => e.wf
  | .journalAck _ seq => decide (seq < 2 ^ 64)
  | .resync _ m => decide (m.journalSeq < 2 ^ 64) && m.slices.all (fun e => decide (e.1 < 4096))
  | .resyncComplete => true
  | .relinquish _ seq => decide (seq < 2 ^ 64)
  | .control _ m => m.wf
  | .heartbeatLoss | .journalAckTimeout | .pairTimeoutExpiry | .eventRecordWrite => true
  | .tokenAdd code => decide (code < 2 ^ 16)
  | .suppressionSummary => true
  | .bwmonWindowEnd m _ => decide (m < 8)
  | .dumpPeriodEnd _ | .pufReread _ | .bootImageVerify _ => true
  | .deviceReady fails load bad =>
    fails.all (fun u => unitWf u.1 u.2) && load.all (fun u => unitWf u.1 u.2) && bad.all (fun n => decide (n < 4096))
  | .status r | .svcLogRead r | .pkgBegin r | .pkgData r => r.wf
  | .pkgEnd r _ => r.wf
  | .pkgAbort r | .activate r | .test r => r.wf
  | .svcResponseRead | .svcBootStatusRead | .svcResponseTimeout | .svcTransactionTimeout | .svcReceptionTimeout |
    .activationDrainExpiry | .activationBankCommit => true
  | .activationLoadComplete failed => failed.all (fun n => decide (n < Config.cores false))

end Sys2Proof
end

