-- ==== Sys2Proof/Tests/Slice0.lean ====
section
/-! SUPPORT. Tests: an ill-formed command for each check of well-formedness; values worked out from the manual by hand; and for every
obligation with hypotheses a concrete state and operands that meet them together, clause by clause. -/

namespace Sys2Proof.Tests
open Sys2Proof Sys2Proof.Machine

set_option Elab.async false

/-! ## A device in service -/

/-- Sixteen seeded DRBG instances. -/
def seeded : Tab Drbg := (List.range 16).map (fun n => (n, { seeded := true }))

/-- A slice with one ring pair of 64 entries, three Officers of whom two authorise, and every policy bit set. -/
def slice5 : Slice :=
  { per := { pasid := 0x1234, policy := 7, migratable := true, rings := [{ log2 := 6, sqBase := 0x10000, cqBase := 0x20000 }]
             officers := { k := 2, members := [⟨1, 1, []⟩, ⟨2, 1, []⟩, ⟨3, 1, []⟩] } }
    state := .active, intake := true, rings := [(0, { enabled := true })] }

/-- The state after reset with its start-up run through: keys formed, an image running, an Officer set of two of three, a mailbox session of
the device's authority and one of slice 5's, and slice 5 in service. -/
def ready : State :=
  { State.reset with dev := { State.reset.dev with
      sys := { State.reset.dev.sys with perstHigh := true, stage := 4, ready := true, cpUp := true, ksk := true, share := .written }
      rng := { src := [.active, .standby, .standby, .standby, .standby, .standby], kat := true, inst := seeded }
      mg := { officers := { k := 2, members := [⟨1, 1, []⟩, ⟨2, 1, []⟩, ⟨3, 1, []⟩] }
              sessions := [(1, { scope := 0xFFFF, officer := 1 }), (2, { scope := 5, officer := 1 })], nextSession := 3
              boxes := [(0, { nonce := some (List.replicate 32 7), qseq := 3 })] }
      fw := { bank0 := some { fw := 0x0402, sec := 1, digest := [] }, active := some 0 }
      slices := [(5, slice5)] } }

/-- The same device with a changed part. -/
def State.with (f : Dev → Dev) (s : State) : State := { s with dev := f s.dev }

/-- Its system part changed. -/
def sys (f : Sys → Sys) (s : State) : State := { s with dev := { s.dev with sys := f s.dev.sys } }

/-- The next state an answer holds, if it holds one. -/
def nextOf : Ans → Option State
  | .next t => some t
  | _ => none

/-- The host interface changed. -/
def hif (f : Hif → Hif) (s : State) : State := { s with dev := { s.dev with hif := f s.dev.hif } }

/-- Slice 5 changed. -/
def five (f : Slice → Slice) (s : State) : State := { s with dev := modSlice 5 f s.dev }

/-- Ring pair 0 of slice 5 changed. -/
def ring0 (f : RingDyn → RingDyn) (s : State) : State := { s with dev := modRing 5 0 f s.dev }

/-- A descriptor with chosen bytes, by offset (R51). -/
def descWith (m : Mem) : List Byte := Mem.readAll m 0 128

/-- An item of slice 5 alone on thread 0 of core 0. -/
def running (i : Item) : State :=
  State.with (fun d => { d with sched := { items := [(0, i)], nextItem := 1, threads := [(0, { item := some 0, last := some 5, active := .slice 5 })]
                                           flows := [(flowKey 5 0, { kind := flowType i, nextSeq := 1 })] } }) ready

/-- That item as it is dispatched, with a descriptor. -/
def itemWith (m : Mem) : Item := { slice := 5, ring := 0, desc := descWith m, seq := some 0, place := .running 0 0 }

/-! ## Transaction commands at work -/

/-- A descriptor of slice 5: opcode, flags, input length, output capacity, two handles and the parameter block (R51). Both buffers lie at
address 0 of the host unless they are inline. -/
def descOf (op flags inLen outCap keyA keyB : Nat) (params : List Byte) : List Byte :=
  fit (leBytes 2 op ++ leBytes 2 flags ++ leBytes 2 5 ++ leBytes 2 0 ++ leBytes 8 0 ++ leBytes 8 0 ++ leBytes 4 inLen ++ leBytes 4 outCap
    ++ leBytes 8 0 ++ leBytes 8 keyA ++ leBytes 8 keyB ++ params) 128

/-- The handle of a slot of slice 5, of a key block at an offset of the input, and of a kind 2 key (R54). -/
def slotH (k : Nat) : Nat := 5 * 2 ^ 48 + k
def blockH (o : Nat) : Nat := 2 ^ 60 + 5 * 2 ^ 48 + o
def ephH (k : Nat) : Nat := 2 * 2 ^ 60 + 5 * 2 ^ 48 + k

/-- An item with a descriptor, running. -/
def jobOf (desc : List Byte) : Item := { slice := 5, ring := 0, desc, seq := some 0, place := .running 0 0 }

/-- Slice 5 with live keys in its slots, each with counts to draw, and an active LMK of both kinds. -/
def keyed (ks : List Key) : State :=
  five (fun x => { x with per := { x.per with
    slots := ks.zipIdx.map (fun e => (e.2, { st := .live, version := 1, key := e.1, ceiling := 100000, resEnd := 1000, ranges := [(0, 1000)] }))
    lmk := [{ aes := some (List.replicate 32 0x11), tdes := some (List.replicate 8 0x11 ++ List.replicate 8 0x22 ++ List.replicate 8 0x33) }]
    lmkActive := some 0 } }) ready

/-- A KEK, an exportable data key, a key for derivation. -/
def kekA : Key := { attr := { usage := .K1, alg := .A, mode := .B }, bytes := List.replicate 32 0x21 }
def dataKey : Key := { attr := { usage := .D0, alg := .A, mode := .B, expo := .E }, bytes := List.replicate 16 0x31 }
def baseKey : Key := { attr := { usage := .B1, alg := .A, mode := .X }, bytes := List.replicate 32 0x41 }

/-- A key of a usage, algorithm and mode. -/
def methodKeyOf (u : Usage) (a : Alg) (m : KMode) : Key := { attr := { usage := u, alg := a, mode := m }, bytes := List.replicate 8 0x61 ++ List.replicate 8 0x62 }

/-- ASCII text. -/
def text (s : String) : List Byte := s.toList.map (fun c => BitVec.ofNat 8 c.toNat)

/-- `dataKey` in an exchange block under `kekA`. -/
def exampleBlock : List Byte :=
  text "D0112D0AB00E000001A247903C224A69905F9432C254C60915D68A44890F71D4FA0E321D5B0E39D342F1B39FDE1BC743175EC6204562D811"

/-- The item at work in a state with keys; the key cache holds the example block's key for kind 1 lookups and
as the kind 2 handle 1, and the keys of the state as kind 2 handles from 2 on. -/
def job (ks : List Key) (i : Item) : State :=
  let s := keyed ks
  { s with dev := { s.dev with
    sched := (running i).dev.sched
    keys := { cache := [(0, { slice := 5, src := .block 0 (exampleBlock.drop 16), key := dataKey }),
                        (1, { slice := 5, src := .eph 1, key := dataKey, pinned := true })]
                       ++ ks.zipIdx.map (fun e => (e.2 + 2, { slice := 5, src := .eph (e.2 + 2), key := e.1, pinned := true })), nextEnt := 100 } } }

/-- The command in hand. -/
def ctx (i : Item) (r : Run) : Ctx := { id := 0, i, r }

/-- An item of an opcode is at work on thread 0 of core 0. -/
def atJob (op : Nat) (ks : List Key) (i : Item) (r : Run) : Bool :=
  serving (job ks i).dev && decide (r.core = 0) && decide (r.thread = 0) && decide (0 < coreCount (job ks i).dev)
    && runningOn (job ks i).dev 0 0 == some (0, i) && dOpcode i.desc == op && i.res == none && !i.abort && i.queued == none
    && i.wait == .none && i.run == none

theorem atWork_job {op ks i r} (h : atJob op ks i r = true) : AtWork (job ks i) r op (ctx i r) := by
  simp only [atJob, Bool.and_eq_true, decide_eq_true_eq, beq_iff_eq, Bool.not_eq_true'] at h
  obtain ⟨⟨⟨⟨⟨⟨⟨⟨⟨⟨h1, h2⟩, h3⟩, h4⟩, h5⟩, h6⟩, h7⟩, h8⟩, h9⟩, h10⟩, h11⟩ := h
  refine ⟨h1, by rw [h2]; exact h4, by rw [h3]; decide, i, by rw [h2, h3]; exact h5, h6, h7, h8, h9, .inl h10, ?_, ?_⟩
  · show i = _; rw [← h10]
  · show r = _; rw [h11]; rfl

/-- `m` reads operands that meet `p`. -/
def thenOk {α : Type} (m : M α) (d : Dev) (p : α → Dev → Bool) : Bool :=
  match m.run.run d with
  | (.ok a, d1) => p a d1
  | _ => false

theorem reads_of_thenOk {α : Type} {m : M α} {d : Dev} {p : α → Dev → Bool} (h : thenOk m d p = true) :
    ∃ a d1, Reads m d a d1 ∧ p a d1 = true := by
  unfold thenOk at h
  unfold Reads
  split at h
  · next a d1 e => exact ⟨a, d1, e, h⟩
  · cases h

/-- The device as such a command begins. -/
def start (ks : List Key) (i : Item) (r : Run) : Dev := begun (job ks i) (ctx i r)

/-- What remains of the premises once a new key is to be delivered. -/
def deliverable (c : Ctx) (dest : Nat) (k : Key) (before after : List Byte) (d : Dev) : Bool :=
  !weakTdes k.attr.alg k.bytes &&
    (if dest = 0 then
      (match activeLmk (sliceOf d c.i.slice).per with
        | some (g, lmk) => thenOk (random (padLen false k.bytes.length)) d (fun pad _ =>
            outLenOk c (before ++ writeBlock false lmk (some g) k pad ++ after).length)
        | none => false)
    else outLenOk c (before ++ after).length)


/-! ## Management requests -/

/-- A request of a session (0 none) for a scope with an input, inline where it fits, through mailbox 0; with `quorum`, signed by Officers 1
and 2 over the nonce of `ready`. -/
def ask (session scope : Nat) (quorum : Bool) (inp : List Byte) : MbReq :=
  let extra := (if quorum then 204 else 0) + (if session = 0 then 0 else 16)
  let inline := decide (inp.length + extra ≤ 2000)
  let r : MbReq := { mailbox := 0, session, scope, reqId := 1, bodyLen := if inline then inp.length + extra else extra
                     inLen := if inline then 0 else inp.length, outCap := 65536, outAddr := 0x40000, input := inp }
  if quorum then { r with quorumLen := 204, quorum := [⟨1, 1, 96, true⟩, ⟨2, 1, 96, true⟩], nonce := List.replicate 32 7, qseq := 3 } else r

/-- An open request, one of the device's session, one of slice 5's, one that the device's Officers sign and one that slice 5's sign. -/
def openly (inp : List Byte) : MbReq := ask 0 0xFFFF false inp
def devAsks (inp : List Byte) : MbReq := ask 1 0xFFFF false inp
def devAsksFor (n : Nat) (inp : List Byte) : MbReq := ask 1 n false inp
def fiveAsks (inp : List Byte) : MbReq := ask 2 5 false inp
def devSigns (inp : List Byte) : MbReq := ask 0 0xFFFF true inp
def fiveSigns (inp : List Byte) : MbReq := ask 0 5 true inp

/-- How a request's body meets it, where it passes its checks. -/
def passed (op : MOp) (q : MbReq) (c0 : Cx) : Option (Req × Cx) :=
  let x := authorise op (reqOf q) (taken op q c0)
  if earlyCheck op (reqOf q).q c0 == none && (q.inLen == 0 || q.dmaFail == none) && x.2.1 == none then
    some ({ reqOf q with officer := x.2.2 }, x.1) else none

/-- How the body of a request to an IDLE mailbox meets it. -/
def met (op : MOp) (q : MbReq) (s : State) : Option (Req × Cx) :=
  if barsOpen s.dev && boxesServe s.dev && q.spdm == none && decide (q.mailbox < 8) && (!s.dev.hif.ideRequired || q.ide)
      && (mailboxOf s.dev q.mailbox).state == .idle then passed op q (s.cx.mod (submitBox op q)) else none

/-- A request reaches its body, which meets it so that `p` holds. -/
def reached (op : MOp) (q : MbReq) (s : State) (p : Req → Cx → Bool) : Bool := (met op q s).any (fun x => p x.1 x.2)

theorem admits_of_reached {op q s} {p : Req → Cx → Bool} (h : reached op q s p = true) : ∃ r c, Admits op q s r c ∧ p r c = true := by
  unfold reached met passed at h
  simp only [Option.any_eq_true] at h
  obtain ⟨x, hx, hp⟩ := h
  split at hx
  · next hc =>
    simp only [Bool.and_eq_true, beq_iff_eq, decide_eq_true_eq, Bool.or_eq_true, Bool.not_eq_true'] at hc
    obtain ⟨⟨⟨⟨⟨h1, h2⟩, h3⟩, h4⟩, h5⟩, h6⟩ := hc
    split at hx
    · next hd =>
      simp only [Bool.and_eq_true, beq_iff_eq, Bool.or_eq_true] at hd
      obtain ⟨⟨g1, g2⟩, g3⟩ := hd
      cases hx
      refine ⟨_, _, ⟨h1, h2, ?_⟩, hp⟩
      rw [h3]
      exact ⟨h4, h5, .inl ⟨h6, g1, g2, g3, rfl, rfl⟩⟩
    · cases hx
  · cases hx

/-- A state in which a mirrored command's step commits next. -/
def pended (op : MOp) (scope : Nat) (inp dat : List Byte) (s : State) : State :=
  { s with dev := modPair (fun y => { y with
      steps := [{ step := { slice := scope, kind := .mgmt op scope inp dat }, origin := .mailbox 0, phase := .committing }] }) s.dev }

/-- A mirrored command's premises hold of a request, and of the commit of its step. -/
def mirrored (op : MOp) (q : MbReq) (s : State) (good : Nat → List Byte → List Byte → Cx → Bool) : Bool :=
  reached op q s (fun r c =>
    let dat := dataOf op r c
    let t := pended op r.q.scope r.inp dat s
    good r.q.scope r.inp dat c && decide (1 ≤ r.q.outCap) && !c.d.rng.failed && rngServing c.d &&
      alive t.dev && t.dev.sys.ksk && !devFault t.dev && t.dev.pair.state == .unpaired && good r.q.scope r.inp dat (committed t []))

theorem commits_pended {op scope inp dat s} (h1 : alive s.dev = true) (h2 : s.dev.sys.ksk = true) (h3 : devFault s.dev = false)
    (h4 : s.dev.pair.state = .unpaired) : ∃ p, Commits (pended op scope inp dat s) p [] ∧ p.origin = .mailbox 0 ∧
      p.step.kind = .mgmt op scope inp dat := ⟨_, ⟨h1, h2, h3, h4, rfl, rfl, rfl, rfl⟩, rfl, rfl⟩

/-- A secured SPDM session 1, finished and bound to Officer 1 of the device, with a nonce. -/
def withSpdm (s : State) : State :=
  hif (fun h => { h with spdm := [(1, { finished := true, nonce := some (List.replicate 32 9), bound := some (0xFFFF, 1) })] }) s

/-- A request inside that session. -/
def spdmAsks (inp : List Byte) : MbReq := { mailbox := 0, spdm := some 1, reqId := 1, bodyLen := inp.length, input := inp }

/-- How a request inside SPDM session 1 meets its body. -/
def reachedSpdm (op : MOp) (q : MbReq) (s : State) (p : Req → Cx → Bool) : Bool :=
  match Tab.find s.dev.hif.spdm 1 with
  | none => false
  | some x =>
    let r0 : Req := { m := spdmBox 1, q, inp := fit q.input (q.bodyLen - q.quorumLen), officer := (x.bound.map (·.2)).getD 0 }
    let c0 := s.cx.mod (fun d => modBox (spdmBox 1) (fun b => { b with cur := some (op, q) }) (goBox (spdmBox 1) q.reqId d))
    barsOpen s.dev && boxesServe s.dev && q.spdm == some 1 && x.finished && (mailboxOf s.dev (spdmBox 1)).state == .idle
      && spdmHeader q == none && stateCheck s.cx op == none && q.session == 0 && (spdmAuthorise op 1 x r0 c0).2 == none
      && p r0 (spdmAuthorise op 1 x r0 c0).1

theorem admits_of_reachedSpdm {op q s} {p : Req → Cx → Bool} (h : reachedSpdm op q s p = true) :
    ∃ r c, Admits op q s r c ∧ p r c = true := by
  unfold reachedSpdm at h
  split at h
  · cases h
  · next x hx =>
    simp only [Bool.and_eq_true, beq_iff_eq] at h
    obtain ⟨⟨⟨⟨⟨⟨⟨⟨⟨h1, h2⟩, h3⟩, h4⟩, h5⟩, h6⟩, h7⟩, h8⟩, h9⟩, h10⟩ := h
    refine ⟨_, _, ⟨h1, h2, ?_⟩, h10⟩
    rw [h3]
    exact ⟨x, hx, h4, h5, h6, h7, h8, Prod.ext rfl h9, rfl⟩

/-- Little-endian input fields. -/
def le (n v : Nat) : List Byte := leBytes n v

/-- The premises on the state of a thawed slice. -/
def thawedB (n : Nat) (c : Cx) : Bool := decide (n < 4096 ∧ (sliceOf c.d n).state ≠ .free ∧ (sliceOf c.d n).state ≠ .frozen)

/-- A migration key of a role for key identifier 1 and partner 9. -/
def keyedFor (role : MigRole) (s : State) : State :=
  State.with (fun d => { d with mg := { d.mg with migration := [(0, { keyId := 1, role, partner := 9, key := List.replicate 32 5 })] } }) s

/-- In CLOSED. -/
def closed (s : State) : State := sys (fun x => { x with lc := 1 }) s

/-! ## Ill-formed commands, one for each check -/

/-- A request with a field past its place. -/
def badRequests : List MbReq :=
  let r : MbReq := { mailbox := 0 }
  [{ r with mailbox := 8 }, { r with scope := 2 ^ 16 }, { r with reqId := 2 ^ 32 }, { r with bodyLen := 2 ^ 32 }, { r with session := 2 ^ 32 },
   { r with inAddr := 2 ^ 64 }, { r with inLen := 2 ^ 32 }, { r with outCap := 2 ^ 32 }, { r with outAddr := 2 ^ 64 }, { r with quorumLen := 2 ^ 32 },
   { r with rsv := 2 ^ 32 }]

theorem test_wf_requests : badRequests.all (fun r => !(Instr.devInfo r).wf && !(Instr.sliceRestore r [] true).wf) = true ∧
    (Instr.devInfo { mailbox := 7 }).wf = true := by decide +kernel

theorem test_wf_interface : ([
    .resetNRelease { katFails := 4 }, .perstNRelease { katFails := 4 }, .hotReset { katFails := 4 }, .linkDown { katFails := 4 },
    .devResetStart { katFails := 4 }, .linkRetrain 7 16, .linkRetrain 64 3, .configurationRequest (.completionTimeout 16),
    .barAccessRejected { bar := 1, off := 0 }, .barAccessRejected { bar := 0, off := 2 ^ 20 }, .barAccessRejected { bar := 2, off := 2 ^ 24 },
    .barAccessRejected { bar := 4, off := 2 ^ 16 }, .barAccessRejected { bar := 0, off := 0, size := 1, value := 256 },
    .barAccessRejected { bar := 0, off := 0, pasid := some (2 ^ 20) }, .registerWrite { bar := 0, off := 0, write := false },
    .sqTailWrite { bar := 0, off := 0 }, .sqTailWrite { bar := 2, off := 0x20 }, .cqHeadWrite { bar := 2, off := 0 }, .cqHeadWrite { bar := 2, off := 0x40 },
    .interruptMessageStoreWrite { bar := 0, off := 0x7FFF8 }, .interruptMessageStoreWrite { bar := 0, off := 0x90000 },
    .descriptorArrival 4096 0 (List.replicate 128 0), .descriptorArrival 0 8 (List.replicate 128 0), .descriptorArrival 0 0 [],
    .dmaReadFault (.input 64 0) .abort 0, .dmaReadFault (.keyBlock 0 4) .abort 0, .dmaReadFault (.descriptor 4096 0) .abort 0,
    .dmaReadFault (.descriptor 0 8) .abort 0, .dmaReadFault (.input 0 0) .abort (2 ^ 64), .pcieCompletionTimeout (.input 0 0) (2 ^ 64),
    .ideCheckFail 9 [], .ideCheckFail 0 [.input 64 0], .doeDiscovery { len := 2 ^ 20 }, .keyUpdate { session := some (2 ^ 32) }] : List Instr).all
      (fun i => !i.wf) = true := by decide +kernel

theorem test_wf_units : ([
    .preemptSave 64 0, .itemFinish 0 4, .drainCeilingExpiry 4096, .coreFence 64 1, .coreFence 0 0, .coreFence 0 9, .engineFence true 16 1,
    .engineFence false 8 1, .pkEngineFence 24 1, .keyCacheBankFence 16 1 none, .keyCacheBankFence 0 1 (some (64, 0)), .sliceError 4096 1,
    .sliceError 0 3, .deviceFaultStop (2 ^ 16), .gateViolation { master := 2 ^ 16, target := 0, addr := 0 },
    .gateViolation { master := 0, target := 0, addr := 2 ^ 64 }, .gateViolation { master := 0, target := 0, addr := 0, size := 0 },
    .engineRequestComplete .cipher 16, .engineRequestComplete .digest 8, .engineRequestComplete .pk 24, .engineAbortComplete .pk 0,
    .engineAbortComplete .digest 8, .pkAbortComplete 24, .keyImport { core := 64, thread := 0 }, .rngStatus { core := 0, thread := 4 },
    .reservationCommit 4096 0, .reservationCommit 0 64, .healthTestFailure 3, .drbgGenerate 16, .reseedDue 16, .drbgInstanceFence 16 1 none,
    .drbgInstanceFence 0 9 none, .drbgInstanceFence 0 1 (some (0, 4)), .rawSampleRunEnd (2 ^ 32), .mbAck 8, .executionLimitExpiry 8,
    .migrationKeyExpiry 16] : List Instr).all (fun i => !i.wf) = true := by decide +kernel

theorem test_wf_operands : ([
    .rngSelfTest { mailbox := 0 } 4, .officerEnroll { mailbox := 0 } (List.replicate 33 .good), .lmkTr34Load { mailbox := 0 } { random := List.replicate 65 0 },
    .lmkTr34Load { mailbox := 0 } { key := List.replicate 257 0 }, .tr34KrdInit { mailbox := 0 } [], .tamperSourceClear 12, .jtagInstructionLoad 32,
    .muleCheckerTest (.core 64) true, .muleCheckerTest (.secdedBank 16) true, .muleCheckerTest (.cipher 16) true, .muleCheckerTest (.digest 8) true,
    .muleCheckerTest (.pk 24) true, .muleCheckerTest (.health 6) true, .scrubPass (.core 64) .clean 0, .scrubPass (.cipher 16) .clean 0,
    .scrubPass (.digest 8) .clean 0, .scrubPass (.pk 24) .clean 0, .scrubPass (.bank 16) .clean 0, .scrubPass (.sliceState 4096) .clean 0,
    .scrubPass .cpMemory .clean (2 ^ 32), .skerryScrub ⟨0, 0⟩ true, .skerryScrub ⟨10, 0⟩ true, .straitTrainingComplete 9,
    .hello true { serial := 2 ^ 64, nonce := List.replicate 32 0 }, .hello true { serial := 0 },
    .hello true { serial := 0, nonce := List.replicate 32 0, journalSeq := 2 ^ 64 },
    .hello true { serial := 0, nonce := List.replicate 32 0, pairMode := some 4 }, .heartbeat true { journalSeq := 0, time := 2 ^ 63 },
    .heartbeat true { journalSeq := 2 ^ 64 }, .journalReq true ⟨4096, .slotDelete 0⟩, .journal true { seq := 0, records := 0, step := ⟨0, .slotDelete 0⟩ },
    .journal true { seq := 0, records := 17, step := ⟨0, .slotDelete 0⟩ }, .journal true { seq := 0, origin := 2, step := ⟨0, .slotDelete 0⟩ },
    .journal true { seq := 2 ^ 64, step := ⟨0, .slotDelete 0⟩ }, .journal true { seq := 0, step := ⟨4096, .slotDelete 0⟩ }, .journalAck true (2 ^ 64),
    .resync true { journalSeq := 2 ^ 64 }, .resync true { slices := [(4096, {})] }, .relinquish true (2 ^ 64), .control true (.swap (2 ^ 64)),
    .control true (.setTime (2 ^ 63)), .tokenAdd (2 ^ 16), .bwmonWindowEnd 8 0, .deviceReady [(1, 64)] none [], .deviceReady [(7, 0)] none [],
    .deviceReady [] (some (4, 24)) [], .deviceReady [] none [4096], .status { sync := 256 }, .svcLogRead { seq := 256 }, .pkgBegin { spStatus := 256 },
    .pkgData { payload := List.replicate 4097 0 }, .pkgEnd { crc := 2 ^ 32 } {}, .activationLoadComplete [64]] : List Instr).all
      (fun i => !i.wf) = true := by decide +kernel

/-! ## The machine as a whole, resets and start-up -/

theorem witness_empty_queue : State.reset.pending = [] ∧ State.reset.dev.sys.powered = true ∧ State.reset.dev.sys.inReset = false ∧
    ¬ (State.reset.dev.pair.state = .paired) ∧ (sys (fun x => { x with inReset := true }) State.reset).dev.sys.inReset = true ∧
    (sys (fun x => { x with powered := false }) State.reset).dev.sys.powered = false ∧
    (let s := State.with (fun d => { d with pair := { state := .paired, role := .secondary, ahead := 10 } }) ready
     s.pending = [] ∧ s.dev.sys.powered = true ∧ s.dev.pair.state = .paired ∧ s.dev.pair.role = .secondary ∧ 0 < s.dev.pair.ahead) := by
  decide +kernel

theorem test_tick_counts_20ns : (nextOf (step State.reset)).map (fun t => (t.dev.sys.time, t.dev.sys.uptime)) = some (20, 20) := by
  decide +kernel

theorem witness_commands_leave_the_queue : ∃ t, exec .muleProgress { ready with pending := [.cpWatchdogKick] } = .next t := ⟨_, rfl⟩

theorem witness_fuses_stay_blown :
    (let s : State := { ready with fuse := { lc0 := 0x7777777777777777#64, raise0 := 0x800#12 }, pending := [.cpWatchdogKick] }
     KeepsFuses { lc0 := 0x7777777777777777#64 } s.fuse ∧ ∃ t, step s = .next t) :=
  ⟨by unfold KeepsFuses KeepsBits; decide +kernel, _, rfl⟩

theorem witness_status_change_signals :
    ∃ t, exec (.configurationRequest (.virtualChannel true true)) ready = .next t ∧ devStatus t.dev ≠ devStatus ready.dev :=
  ⟨_, rfl, by decide +kernel⟩

theorem witness_resets_hold : ready.dev.pair.steps = [] ∧ ready.dev.sys.powered = true ∧ ready.dev.sys.resetLow = false ∧ (100 : Nat) ≤ 100 ∧
    alive ready.dev = true ∧ ready.dev.sys.perstHigh = true ∧ straitKeyed ready.dev = false ∧ (19 : Nat) < 20 ∧ (20 : Nat) ≤ 20 ∧ (99 : Nat) < 100 := by
  decide +kernel

theorem witness_releases_start :
    (let p : Pins := {}
     let s := sys (fun x => { x with resetLow := true, inReset := true }) State.reset
     let s2 := sys (fun x => { x with inReset := true }) State.reset
     p.katFails = 0 ∧ s.dev.sys.ready = false ∧ s.dev.sys.stage = 0 ∧ s.dev.sys.resetLow = true ∧ s.dev.sys.ksk = false ∧
       sensedLc s.fuse ≠ 2 ∧ sensedLc ({ s with fuse := { lc0 := 1, lc1 := 2, lc2 := 0 } } : State).fuse = 2 ∧
       s2.dev.sys.inReset = true ∧ s2.dev.sys.resetLow = false ∧ s2.dev.sys.powered = true ∧ s2.dev.sys.ksk = false ∧
       s2.dev.sys.stage = 0) := by
  decide +kernel

theorem test_no_key_before_the_lines_are_checked :
    (let s := sys (fun x => { x with resetLow := true, inReset := true, ready := false, stage := 0, ksk := false, share := .written }) ready
     let lines := fun (t : State) => ({ t with dev := modGoose (fun g => { g with aPhases := 2, bPhases := 2 }) t.dev } : State)
     (nextOf (exec (.resetNRelease {}) s)).map (fun t => (t.dev.sys.ksk, (nextOf (exec .extTamperPowerupCheck (lines t))).map (fun u =>
       (u.dev.sys.ksk, u.dev.sys.stage, u.dev.goose.latched))))) = some (false, some (true, 1, 0#12)) := by
  decide +kernel

theorem witness_host_resets :
    (let p : Pins := {}
     p.katFails = 0 ∧ ready.dev.pair.steps = [] ∧ alive ready.dev = true ∧ ready.dev.sys.perstHigh = true ∧ straitKeyed ready.dev = false ∧
       ready.dev.sys.share ≠ .erased ∧ sensedLc ready.fuse ≠ 2 ∧
       (sys (fun x => { x with scheduled := some .devReset }) ready).dev.sys.scheduled = some .devReset ∧
       alive (sys (fun x => { x with scheduled := some .devReset }) ready).dev = true ∧
       (sys (fun x => { x with scheduled := some .lcClose }) ready).dev.sys.scheduled = some .lcClose ∧
       alive (sys (fun x => { x with scheduled := some .lcClose }) ready).dev = true) := by
  decide +kernel


/-! ## The host interface -/

theorem witness_configuration : alive ready.dev = true ∧ ready.dev.sys.perstHigh = true ∧ 4 ≤ ready.dev.sys.stage ∧
    (sys (fun x => { x with stage := 3 }) ready).dev.sys.stage < 4 ∧ alive (sys (fun x => { x with stage := 3 }) ready).dev = true ∧
    (64 : Nat) ∈ [64, 32, 16, 8, 5, 2] ∧ (1 : Nat) ∈ [16, 8, 4, 2, 1] := by
  decide +kernel

theorem witness_rejected_accesses : barsOpen ready.dev = true ∧ ready.dev.hif.ideRequired = false ∧
    (let a : BarAccess := { bar := 0, off := 0x18, size := 8, write := false, pasid := some 0x1234 }
     barExists a = true ∧ a.bar ≠ 2 ∧ a.pasid ≠ none ∧ a.write = false ∧ barExists { a with write := true } = true) ∧
    (let a : BarAccess := { bar := 0, off := 0x18, size := 2, write := false }
     barExists a = true ∧ a.bar ≠ 2 ∧ a.pasid = none ∧ accessSizeOk a = false ∧ barExists { a with write := true } = true ∧
       accessSizeOk { a with write := true } = false) ∧
    (let a : BarAccess := { bar := 2, off := 0x5040, size := 8, write := false, pasid := some 0x1233 }
     barExists a = true ∧ a.bar = 2 ∧ a.write = false ∧ a.pasid ≠ some (sliceOf ready.dev (a.off / 0x1000)).per.pasid ∧
       (sliceOf ready.dev ((0x4040 : Nat) / 0x1000)).state = .free) ∧
    (let a : BarAccess := { bar := 2, off := 0x5044, size := 2, write := false, pasid := some 0x1234 }
     barExists a = true ∧ (sliceOf ready.dev (a.off / 0x1000)).state ≠ .free ∧
       a.pasid = some (sliceOf ready.dev (a.off / 0x1000)).per.pasid ∧ sizeOk a = false) ∧
    (let a : BarAccess := { bar := 0, off := 0x18, size := 8, write := false }
     barExists a = true ∧ a.bar ≠ 2 ∧ a.pasid = none ∧ accessSizeOk a = true ∧ a.write = false) := by
  decide +kernel

theorem witness_register_writes : barsOpen ready.dev = true ∧ ready.dev.hif.ideRequired = false ∧ 5 < 4096 ∧
    (sliceOf ready.dev 5).state ≠ .free ∧ (7 : Nat) < 8 ∧ (0x7F8 : Nat) < 0x800 ∧ 0x7F8 % 8 = 0 ∧ (2047 : Nat) < 2048 ∧ ready.dev.hif.pba = [] := by
  decide +kernel

theorem witness_doorbells : barsOpen ready.dev = true ∧ ready.dev.hif.ideRequired = false ∧ 5 < 4096 ∧ (0 : Nat) < 8 ∧
    (let sl := sliceOf ready.dev 5
     let r := ringOf sl 0
     let size := ringSize sl 0
     sl.state = .active ∧ r.enabled = true ∧ r.halted = false ∧ 7 < size ∧
       (r.tail + size - r.head) % size ≤ (7 + size - r.head) % size ∧
       (0 + size - r.cHead) % size ≤ (r.write + size - r.cHead) % size ∧
       size ≤ 64 ∧ (r.write + size - r.cHead) % size < (1 + size - r.cHead) % size) ∧
    (let s := ring0 (fun r => { r with tail := 4, write := 3 }) ready
     let sl := sliceOf s.dev 5
     let r := ringOf sl 0
     let size := ringSize sl 0
     barsOpen s.dev = true ∧ sl.state = .active ∧ r.enabled = true ∧ r.halted = false ∧
       (3 + size - r.head) % size < (r.tail + size - r.head) % size ∧ (4 + size - r.head) % size ≤ (r.tail + size - r.head) % size ∧
       (3 + size - r.cHead) % size ≤ (r.write + size - r.cHead) % size) ∧
    (sliceOf ready.dev 4).state = .free ∧ some 0x1233 ≠ some (sliceOf ready.dev 5).per.pasid ∧
    (ringOf (sliceOf ready.dev 5) 7).enabled = false := by
  decide +kernel

theorem test_doorbell_moves_the_tail :
    (nextOf (exec (.sqTailWrite { bar := 2, off := 0x5000, size := 4, value := 7, pasid := some 0x1234 }) ready)).map
      (fun t => (ringOf (sliceOf t.dev 5) 0).tail) = some 7 := by
  decide +kernel

theorem witness_interrupt_store : barsOpen ready.dev = true ∧ ready.dev.hif.ideRequired = false ∧ (5 : Nat) < 4096 ∧
    (let e := (sliceOf ready.dev 5).irq
     e.pending = false ∧ e.data < 2 ^ 32 ∧ e.addr < 2 ^ 64 ∧ e.vector < 2048 ∧ e.msixMode = false) ∧
    (let e := (sliceOf (five (fun x => { x with irq := { vector := 16, msixMode := true } }) ready).dev 5).irq
     e.pending = false ∧ e.msixMode = true ∧ 16 ≤ e.vector ∧ e.vector < 2048) ∧
    bitAt 0x100004 2 = true ∧ 16 ≤ bits 0x100004 26 16 ∧ bitAt 0xF0004 2 = true ∧ bits 0xF0004 26 16 < 16 ∧
    (let s := five (fun x => { x with irq := { pending := true } }) ready
     let e := (sliceOf s.dev 5).irq
     barsOpen s.dev = true ∧ e.pending = true ∧ e.msixMode = false ∧ e.data < 2 ^ 32 ∧ e.addr < 2 ^ 64 ∧ e.vector < 2048 ∧
       bitAt 0 0 = false ∧ bitAt 0 2 = false) := by
  decide +kernel

theorem witness_fetches : serving ready.dev = true ∧ readAllowed ready.dev = true ∧ nextFetch ready.dev = none ∧
    (let s := ring0 (fun r => { r with tail := 1 }) ready
     serving s.dev = true ∧ readAllowed s.dev = true ∧ nextFetch s.dev = some (5, 0)) := by
  decide +kernel

/-- Slice 5 with one fetch outstanding. -/
def fetched : State := ring0 (fun r => { r with tail := 1, fetches := [0], inflight := 1 }) ready

theorem witness_arrivals : (5 : Nat) < 4096 ∧ (0 : Nat) < 8 ∧ devFault fetched.dev = false ∧ (ringOf (sliceOf fetched.dev 5) 0).fetches = 0 :: [] ∧
    dSlice (fit (descWith [(4, 4)]) 128) % 4096 ≠ 5 ∧
    (let g := fit (descWith [(4, 5), (5, 0x10)]) 128
     dSlice g % 4096 = 5 ∧ dSlice g / 4096 ≠ 0) ∧
    (let g := fit (descWith [(3, 1), (4, 5)]) 128
     dSlice g % 4096 = 5 ∧ dFlags g / 256 ≠ 0) ∧
    (let g := fit (descWith [(2, 3), (4, 5)]) 128
     dSlice g % 4096 = 5 ∧ dFlowType g = 3) := by
  decide +kernel

theorem witness_arrivals_accepted :
    (let g := fit (descWith [(2, 0x1C), (4, 5)]) 128
     dSlice g = 5 ∧ dFlags g / 256 = 0 ∧ dFlowType g ≠ 3 ∧ dPriority g = 7 ∧ (sliceOf fetched.dev 5).per.urgentOk = false) ∧
    (let g := fit (descWith [(2, 0x18), (4, 5)]) 128
     dSlice g = 5 ∧ dFlags g / 256 = 0 ∧ dFlowType g ≠ 3 ∧ dPriority g ≠ 7 ∧ fetched.dev.goose.lock = false ∧
       Tab.find fetched.dev.sched.flows (flowKey 5 (dFlow g)) = none ∧ flowsOf fetched.dev 5 < (sliceOf fetched.dev 5).per.flowQuota ∧
       (let s := five (fun x => { x with per := { x.per with flowQuota := 0 } }) fetched
        devFault s.dev = false ∧ (ringOf (sliceOf s.dev 5) 0).fetches = [0] ∧
          Tab.find s.dev.sched.flows (flowKey 5 (dFlow g)) = none ∧ (sliceOf s.dev 5).per.flowQuota ≤ flowsOf s.dev 5) ∧
       (let s := State.with (fun d => { d with sched := { flows := [(flowKey 5 0, { kind := .unordered }), (flowKey 5 1, { kind := .atomic })] } }) fetched
        (ringOf (sliceOf s.dev 5) 0).fetches = [0] ∧
          Tab.find s.dev.sched.flows (flowKey 5 (dFlow g)) = some { kind := .unordered } ∧ FlowType.unordered = flowType { slice := 5, ring := 0, desc := g } ∧
          Tab.find s.dev.sched.flows (flowKey 5 1) = some { kind := .atomic } ∧
          FlowType.atomic ≠ flowType { slice := 5, ring := 0, desc := fit (descWith [(4, 5), (6, 1)]) 128 })) := by
  decide +kernel

theorem witness_failed_reads :
    (let i := itemWith [(4, 5)]
     let s := running i
     serving s.dev = true ∧ runningOn s.dev 0 0 = some (0, i) ∧ i.res = none ∧ i.wait = .none ∧ i.abort = false ∧ threadExists s.dev 0 0 = true) ∧
    serving fetched.dev = true ∧ (ringOf (sliceOf fetched.dev 5) 0).fetches ≠ [] ∧
    (let s := hif (fun h => { h with ide := [(8, { keyed := true })] }) fetched
     serving s.dev = true ∧ (8 : Nat) < 9 ∧ [ReadFor.descriptor 5 0].all (readUnit s.dev) = true ∧ barsOpen s.dev = true ∧
       (Tab.getD s.dev.hif.ide 8 {}).keyed = true ∧ (Tab.getD s.dev.hif.ide 8 {}).insecure = false) := by
  decide +kernel

theorem witness_spdm_negotiation : barsOpen ready.dev = true ∧ (4096 : Nat) < ({ len := 4097 } : DoeReq).len ∧ ({ len := 4096 } : DoeReq).len ≤ 4096 ∧
    ready.dev.hif.spdmPhase < 2 ∧ 1 ≤ (hif (fun h => { h with spdmPhase := 1 }) ready).dev.hif.spdmPhase ∧
    (let s := hif (fun h => { h with spdmPhase := 3 }) ready
     barsOpen s.dev = true ∧ 2 ≤ s.dev.hif.spdmPhase ∧ 3 ≤ s.dev.hif.spdmPhase ∧ s.dev.sys.lc = 0 ∧
       (sys (fun x => { x with lc := 1 }) s).dev.sys.lc = 1 ∧ (sys (fun x => { x with lc := 2 }) s).dev.sys.lc = 2 ∧
       barsOpen (sys (fun x => { x with lc := 2 }) s).dev = true ∧
       ({} : DoeReq).a = 0 ∧ ({ a := 1 } : DoeReq).a = 1 ∧ 1 ≤ ({ a := 7 } : DoeReq).a ∧ ({ a := 7 } : DoeReq).a ≤ 7 ∧
       ({ a := 7, b := 1 } : DoeReq).b ≠ 0 ∧ ({ a := 0xFF } : DoeReq).a = 0xFF) := by
  decide +kernel

theorem witness_spdm_sessions : barsOpen ready.dev = true ∧ ({} : DoeReq).len ≤ 4096 ∧
    (let s := hif (fun h => { h with spdmPhase := 3 }) ready
     3 ≤ s.dev.hif.spdmPhase ∧ ({} : DoeReq).ok = true ∧ certSlot s.dev 0 = true ∧ s.dev.hif.spdm.length < 4 ∧
       4 ≤ (hif (fun h => { h with spdm := [(1, {}), (2, {}), (3, {}), (4, {})] }) s).dev.hif.spdm.length) ∧
    (let s := hif (fun h => { h with spdmPhase := 3, spdm := [(1, {}), (2, { finished := true })] }) ready
     barsOpen s.dev = true ∧ Tab.find s.dev.hif.spdm 1 = some {} ∧ ({} : SpdmSession).finished = false ∧
       ({ session := some 1 } : DoeReq).session = some 1 ∧ ({ session := some 1, ok := false } : DoeReq).ok = false ∧
       Tab.find s.dev.hif.spdm 2 = some { finished := true } ∧ ({ session := some 2, a := 2, b := 8 } : DoeReq).b < 9) ∧
    ({} : DoeReq).session = none := by
  decide +kernel


/-! ## Sheepdog, fences and engines -/

/-- One item of slice 5 that waits for a thread. -/
def waitingItem : State :=
  State.with (fun d => { d with sched := { items := [(0, { itemWith [(4, 5)] with place := .ready })], nextItem := 1
                                           flows := [(flowKey 5 0, { kind := .unordered, nextSeq := 1 })] } }) ready

/-- An item that Sheepdog has asked to leave its thread. -/
def leaving : Item := { itemWith [(4, 5)] with preempt := true }

theorem witness_dispatch : serving waitingItem.dev = true ∧ (∀ e ∈ itemList waitingItem.dev, e.2.queued = none) ∧
    waitingItem.dev.goose.lock = false ∧ waitingItem.dev.fw.step < 2 ∧ resumable waitingItem.dev = [] ∧
    (let i := { itemWith [(4, 5)] with place := .ready }
     leastBy (fun e => candRank waitingItem.dev e.2) (readyHeads waitingItem.dev) = some (0, i) ∧
       chooseThread waitingItem.dev i = some 0 ∧ itemOf waitingItem.dev 0 = some i ∧ (threadOf waitingItem.dev 0).last ≠ some i.slice) := by
  decide +kernel

theorem witness_preemption :
    (let s := running leaving
     serving s.dev = true ∧ (∀ e ∈ itemList s.dev, e.2.queued = none) ∧ 0 < coreCount s.dev ∧ runningOn s.dev 0 0 = some (0, leaving) ∧
       leaving.preempt = true ∧ leaving.abort = false ∧ engineBusy s.dev 0 = false ∧ freeSlot s.dev 0 = some 0 ∧ s.dev.goose.lock = false ∧
       coreUp s.dev 0 = true ∧
       (let t := State.with (fun d => { d with goose := { d.goose with lock := true } }) s
        serving t.dev = true ∧ t.dev.goose.lock = true ∧ runningOn t.dev 0 0 = some (0, leaving) ∧ freeSlot t.dev 0 = some 0)) := by
  decide +kernel

theorem test_dispatch_takes_thread_0 :
    (nextOf (exec .itemDispatch waitingItem)).map (fun t => ((threadOf t.dev 0).item, (threadOf t.dev 0).active)) = some (some 0, .slice 5) := by
  decide +kernel

/-- An item with its result, one ordered aborted, one of an opcode no chapter defines, and one at work. -/
theorem witness_releases :
    (let i := { itemWith [(0, 1), (1, 1), (4, 5)] with res := some { status := .ok } }
     let s := running i
     devFault s.dev = false ∧ 0 < coreCount s.dev ∧ runningOn s.dev 0 0 = some (0, i) ∧ engineBusy s.dev 0 = false ∧ flowType i ≠ .ordered ∧
       i.res.isSome = true) ∧
    (let i := { itemWith [(0, 1), (1, 1), (4, 5)] with abort := true }
     runningOn (running i).dev 0 0 = some (0, i) ∧ engineBusy (running i).dev 0 = false ∧ flowType i ≠ .ordered ∧ i.abort = true) ∧
    (let i := itemWith [(0, 1), (4, 5)]
     runningOn (running i).dev 0 0 = some (0, i) ∧ engineBusy (running i).dev 0 = false ∧ flowType i ≠ .ordered ∧ opcodeDefined (dOpcode i.desc) = false) ∧
    (let i := itemWith [(0, 1), (1, 1), (4, 5)]
     devFault (running i).dev = false ∧ runningOn (running i).dev 0 0 = some (0, i) ∧ engineBusy (running i).dev 0 = false ∧ i.abort = false ∧ i.res = none ∧
       opcodeDefined (dOpcode i.desc) = true ∧ (∀ e ∈ itemList (running i).dev, e.2.queued = none)) ∧
    (sliceOf (five (fun x => { x with drain := some {} }) ready).dev 5).drain.isSome = true ∧ (sliceOf ready.dev 5).drain = none := by
  decide +kernel

/-- A request of the item on thread 0 to an engine pool. -/
def engReq (p : Pool) : EngReq := { pool := p, item := 0, prio := 0, arrival := 0, res := { status := .ok } }

/-- Engine 0 of each pool at work for that item. -/
def engaged (e : Pool → Engine) (i : Item) : State :=
  State.with (fun d => { d with eng := { ce := [(0, e .cipher)], de := [(0, e .digest)], pk := [(0, e .pk)], arrivals := 1 } }) (running i)

theorem witness_fences :
    (let s := running (itemWith [(4, 5)])
     0 < coreCount s.dev ∧ s.dev.fen.tc.getLsbD 0 = false ∧ (∀ e ∈ itemList s.dev, onCore 0 e.2 = true → e.2.retried = false ∧ e.2.abort = false)) ∧
    (∀ p ∈ [Pool.cipher, .digest, .pk],
      (let i := { itemWith [(4, 5)] with wait := .engine }
       let s := engaged (fun p => { cur := some (engReq p) }) i
       0 < poolSize s.dev p ∧ poolFenced s.dev p 0 = false ∧ 1 < poolSize s.dev p ∧ poolFenced s.dev p 1 = false ∧
         (engineOf ready.dev p 0).cur = none ∧ (engineOf s.dev p 0).cur = some (engReq p) ∧ (engineOf s.dev p 0).aborting = false ∧
         itemOf s.dev (engReq p).item = some i ∧ i.abort = false ∧ i.retried = false ∧ i.place = .running 0 0 ∧
         itemOf (engaged (fun p => { cur := some (engReq p) }) { i with retried := true }).dev 0 = some { i with retried := true })) ∧
    (15 : Nat) < 16 ∧ ready.dev.fen.bank.getLsbD 15 = false ∧ ready.dev.fen.drbg.getLsbD 15 = false ∧ ready.dev.fen.drbg.getLsbD 0 = false := by
  decide +kernel

theorem witness_fenced_bank :
    (let s := State.with (fun d => { d with keys := { cache := [(0, { slice := 5, src := .eph 1 }), (1, { slice := 5, src := .slot 0 1, bank := 3 })] } }) ready
     s.dev.fen.bank.getLsbD 0 = false ∧ Tab.find s.dev.keys.cache 0 = some { slice := 5, src := .eph 1 } ∧
       Tab.find s.dev.keys.cache 1 = some { slice := 5, src := .slot 0 1, bank := 3 }) := by
  decide +kernel

theorem witness_errors : (sliceOf ready.dev 4).state = .free ∧ (sliceOf ready.dev 5).state ≠ .free ∧ (sliceOf ready.dev 5).state ≠ .error ∧
    alive ready.dev = true ∧ devFault ready.dev = false ∧ checkerExists ready.dev .goose = true ∧ checkerExists ready.dev (.core 63) = true ∧
    ready.dev.sys.cpUp = true ∧ arrExists ready.dev (.core 63) = true ∧ ready.dev.sys.ksk = true ∧
    (slotOf (sliceOf ready.dev ((320 : Nat) / 64)) (320 % 64)).st = .empty ∧
    (slotOf (sliceOf (five (fun x => { x with per := { x.per with slots := [(0, { st := .live, version := 1 })] } }) ready).dev (320 / 64)) (320 % 64)).st
      ≠ .empty := by
  decide +kernel

theorem witness_cp_resets :
    ready.dev.sys.cpUp = true ∧ devFault ready.dev = false ∧
    (ready.dev.sys.cpResets.filter (fun t => decide (ready.dev.sys.uptime < t + 1000000000))).length < 2 ∧
    (let s := sys (fun x => { x with cpResets := [1, 2], uptime := 1000000000 }) ready
     s.dev.sys.cpUp = true ∧ devFault s.dev = false ∧ 2 ≤ (s.dev.sys.cpResets.filter (fun t => decide (s.dev.sys.uptime < t + 1000000000))).length) ∧
    (let s := State.with (fun d => { d with mg := { d.mg with boxes := [(7, { state := .busy })] }, fw := { d.fw with staging := .receiving } })
       (sys (fun x => { x with cpRestart := true, cpUp := false }) ready)
     alive s.dev = true ∧ s.dev.sys.cpRestart = true ∧ s.dev.sys.cpActivation = false ∧ s.dev.log.held = [] ∧
       (mailboxOf s.dev 7).state = .busy ∧ s.dev.fw.staging = .receiving) ∧
    ready.dev.fw.staging ≠ .receiving := by
  decide +kernel

/-- The rules active for a master in `running`, where it has any. -/
def activeOf (m : Nat) : Option RuleTag := (activeSet (running (itemWith [(4, 5)])).dev m).map (·.1)

/-- The kind of violation that denies an access in that state, if one does. -/
def denied (a : GateAccess) : Option Nat := gateKind (running (itemWith [(4, 5)])).dev a

theorem witness_gates :
    activeOf 0x100 = some (.slice 5) ∧ denied { master := 0x100, target := 1, addr := 0x8000, write := true } = none ∧
    denied { master := 0x100, target := 1, addr := 0x7FF8, write := true } = some 2 ∧ denied { master := 0x100, target := 4, addr := 0, tag := 6 } = some 3 ∧
    activeOf 0x20F = some .none ∧ denied { master := 0x20F, target := 4, addr := 0 } = some 1 ∧
    activeOf 0x217 = some .none ∧ denied { master := 0x217, target := 5, addr := 0 } = some 1 ∧
    activeOf 0x237 = some .none ∧ denied { master := 0x237, target := 6, addr := 0 } = some 1 ∧
    activeOf 0 = some .none ∧ denied { master := 0, target := 2, addr := 0 } = some 1 ∧
    activeOf 0x302 = some .none ∧ denied { master := 0x302, target := 9, addr := 0, probe := true } = some 1 ∧
    denied { master := 0x302, target := 0x12, addr := 4092, damaged := true } = some 4 ∧
    denied { master := 0x302, target := 0x12, addr := 0, size := 65 } = some 5 ∧
    denied { master := 0x302, target := 0x12, addr := 4088, damaged := true } = some 6 ∧
    (running (itemWith [(4, 5)])).dev.sys.faultStatus.getLsbD 2 = false ∧
    (sys (fun x => { x with faultStatus := 4 }) ready).dev.sys.faultStatus.getLsbD 2 = true := by
  decide +kernel

/-- Two requests of the item in a queue, the later one of higher priority. -/
def queued (p : Pool) : State :=
  State.with (fun d => { d with eng := { queue := [engReq p, { engReq p with prio := 7, arrival := 1 }], arrivals := 2 } })
    (running { itemWith [(4, 5)] with wait := .engine })

theorem witness_engines : ∀ p ∈ [Pool.cipher, .digest, .pk],
    devFault (queued p).dev = false ∧ nextRequest (queued p).dev p = some { engReq p with prio := 7, arrival := 1 } ∧
      idleEngine (queued p).dev p = some 0 ∧ nextRequest ready.dev p = none ∧
      (let i := { itemWith [(4, 5)] with wait := .engine }
       let s := engaged (fun p => { cur := some (engReq p) }) i
       0 < poolSize s.dev p ∧ (engineOf s.dev p 0).cur = some (engReq p) ∧ itemOf s.dev (engReq p).item = some i ∧
         (engineOf s.dev p 0).aborting = false ∧ devFault s.dev = false ∧ i.place = .running 0 0) ∧
      (let i := { itemWith [(4, 5)] with wait := .engine, place := .preempted 0 1 }
       itemOf (engaged (fun p => { cur := some (engReq p) }) i).dev 0 = some i ∧ i.place = .preempted 0 1) ∧
      (let i := { itemWith [(4, 5)] with wait := .engine, abort := true }
       let s := engaged (fun p => { cur := some (engReq p), aborting := true }) i
       (engineOf s.dev p 0).cur = some (engReq p) ∧ itemOf s.dev 0 = some i ∧ (engineOf s.dev p 0).aborting = true ∧ i.abort = true ∧
         i.wait = .engine ∧ devFault s.dev = false) ∧
      (let i := itemWith [(4, 5)]
       (engineOf (engaged (fun p => { cur := some (engReq p), aborting := true }) i).dev p 0).cur = some (engReq p) ∧ i.abort = false) := by
  decide +kernel

theorem test_gate_fences_the_core :
    (nextOf (exec (.gateViolation { master := 0x103, target := 9, addr := 0 }) ready)).map (fun t => (t.dev.fen.tc, t.dev.sys.gateViolCount)) = some (1, 1) := by
  decide +kernel


/-! ## Key management -/

/-- `KEY_IMPORT` of that block for a destination. -/
def importJob (dest : Nat) : Item :=
  jobOf (descOf 0x0101 0 112 4096 (slotH 0) 0 ([byteOf dest, 0, 0, 0] ++ leBytes 4 0 ++ leBytes 4 112))

theorem test_unwrap_exchange_block : (parseBlock exampleBlock).bind (unwrapBlock kekA.bytes) = .ok dataKey := by decide +kernel

theorem witness_key_import : ∀ dest ∈ [0, 1, 2],
    (let i := importJob dest
     let r : Run := { core := 0, thread := 0, input := exampleBlock }
     let c := ctx i r
     atJob 0x0101 [kekA] i r && (fmtOk c 12 1 true && destOk c 2) && decide (c.p 0x38 1 = dest) && decide (c.p 0x39 1 < 64)
       && (inLenOk c 12 20480 && (c.p 0x38 1 == 0 || outLenOk c 0)) && policyBit (job [kekA] i) c 0
       && thenOk (lookupAt c 0 (dKeyA c.i.desc) (c.input 12) allKinds (kekDemand false)) (start [kekA] i r) (fun kek d1 =>
          match blockExtent (c.input 12) (c.p 0x3C 4) with
          | .ok t => decide (t.length = c.p 0x40 4) && (match parseBlock t with
            | .ok b => decide (kek.key.attr.alg = (if b.hdr.tdesForm then .T else .A)) && !asymmetric b.hdr.attr.alg
                && (activeLmk (sliceOf d1 c.i.slice).per).isSome
                && thenOk (drawCounts c [(kek, wrapCounts b.hdr.tdesForm b.hdr.len b.data.length)]) d1 (fun _ d2 =>
                  match unwrapBlock kek.key.bytes b with
                  | .ok k => wrapAllowed d2 c.i.slice k kek.key && slotFits k && deliverable c dest k [] [] d2
                  | .error _ => false)
            | .error _ => false)
          | .error _ => false)) = true := by
  decide +kernel

theorem witness_key_export :
    (let i := jobOf (descOf 0x0102 0 0 4096 (slotH 1) (slotH 0) [])
     let r : Run := { core := 0, thread := 0 }
     let c := ctx i r
     let ks := [kekA, dataKey]
     atJob 0x0102 ks i r && fmtOk c 0 2 false && (inLenOk c 0 20480 && !dInlineOut c.i.desc)
       && thenOk (lookupAt c 0 (dKeyA c.i.desc) (c.input 0) allKinds (fun a => if a.expo = .E then none else some .keyExport)) (start ks i r) (fun k d1 =>
          thenOk (lookupAt c 1 (dKeyB c.i.desc) (c.input 0) allKinds (kekDemand true)) d1 (fun kek d2 =>
            wrapAllowed d2 c.i.slice k.key kek.key
              && thenOk (drawCounts c [({ k with slot := none }, 0), (kek, exchangeCounts kek.key k.key)]) d2 (fun _ d3 =>
                thenOk (random (padLen (kek.key.attr.alg == .T) k.key.bytes.length)) d3 (fun pad _ =>
                  outLenOk c (exchangeBlock kek.key k.key pad).length))))) = true := by
  decide +kernel

theorem witness_key_translate :
    (let i := jobOf (descOf 0x0108 0 112 4096 (blockH 0) 0 (leBytes 4 0 ++ leBytes 4 0 ++ leBytes 4 112))
     let r : Run := { core := 0, thread := 0, input := exampleBlock }
     let c := ctx i r
     atJob 0x0108 [] i r && (fmtOk c 12 1 false && c.p 0x38 4 == 0 && c.p 0x3C 4 == hIndex (dKeyA c.i.desc))
       && (inLenOk c 12 20480 && !dInlineOut c.i.desc) && decide (hKind (dKeyA c.i.desc) = 1) && decide (hSlice (dKeyA c.i.desc) = c.i.slice)
       && (match blockExtent (c.input 12) (c.p 0x3C 4) with
          | .ok t => decide (t.length = c.p 0x40 4)
          | .error _ => false)
       && thenOk (lookup c (dKeyA c.i.desc) (c.input 12) [1] anyKey) (start [] i r) (fun k d1 =>
          match activeLmk (sliceOf d1 c.i.slice).per with
          | some (g, lmk) => thenOk (random (padLen false k.key.bytes.length)) d1 (fun pad _ =>
              outLenOk c (writeBlock false lmk (some g) k.key pad).length)
          | none => false)) = true := by
  decide +kernel

theorem witness_key_check_value :
    (let i := jobOf (descOf 0x0104 0 0 0 (slotH 0) 0 [0, 0, 0, 1])
     let r : Run := { core := 0, thread := 0 }
     let c := ctx i r
     atJob 0x0104 [dataKey] i r && (fmtOk c 4 1 true && c.p 0x38 3 == 0 && decide (c.p 0x3B 1 ≤ 1)) && (inLenOk c 4 20480 && outLenOk c 0)
       && thenOk (lookup c (dKeyA c.i.desc) (c.input 4) allKinds (needs (fun a => symmetric a.alg))) (start [dataKey] i r) (fun _ _ => true)) = true := by
  decide +kernel

/-- A template for a data key that may be exported (R132). -/
def dataTemplate : List Byte := text "D0000D0AB00E0000"

theorem witness_key_generate : ∀ dest ∈ [0, 1, 2],
    (let i := jobOf (descOf 0x0103 0 16 4096 0 0 ([byteOf dest, 0, 0, 0] ++ leBytes 2 128))
     let r : Run := { core := 0, thread := 0, input := dataTemplate }
     let c := ctx i r
     let n := c.p 0x3C 2
     atJob 0x0103 [] i r && decide (c.p 0x39 1 < 64) && (inLenOk c 6 20480 && (dest == 0 || outLenOk c 0)) && policyBit (job [] i) c 0
       && decide (c.p 0x38 1 = dest) && (fmtOk c 6 2 true && dKeyA c.i.desc == 0 && dKeyB c.i.desc == 0 && destOk c 2)
       && thenOk (template true (c.input 6) (c.input 6).length) (start [] i r) (fun h d1 =>
          !asymmetric h.attr.alg && bitsOk h.attr.alg n && slotFits { attr := h.attr, bytes := List.replicate (n / 8) 0 }
            && (activeLmk (sliceOf d1 c.i.slice).per).isSome
            && thenOk (random (n / 8)) d1 (fun bytes d2 => deliverable c dest { attr := h.attr, bytes } [] [] d2))) = true := by
  decide +kernel

theorem witness_key_generate_export :
    (let i := jobOf (descOf 0x0103 0 16 4096 0 (slotH 0) ([0, 0, 2, 0] ++ leBytes 2 128))
     let r : Run := { core := 0, thread := 0, input := dataTemplate }
     let c := ctx i r
     let n := c.p 0x3C 2
     atJob 0x0103 [kekA] i r && decide (c.p 0x39 1 < 64) && inLenOk c 6 20480 && decide (c.p 0x38 1 = 0) && bitAt (c.p 0x3A 1) 1
       && (fmtOk c 6 2 true && dKeyA c.i.desc == 0 && destOk c 4)
       && thenOk (lookupAt c 0 (dKeyB c.i.desc) (c.input 6) allKinds (kekDemand true)) (start [kekA] i r) (fun kek d1 =>
          thenOk (template true (c.input 6) (c.input 6).length) d1 (fun h d2 =>
            let proto : Key := { attr := h.attr, bytes := List.replicate (n / 8) 0 }
            !asymmetric h.attr.alg && bitsOk h.attr.alg n && decide (h.attr.expo = .E) && wrapAllowed d2 c.i.slice proto kek.key
              && (activeLmk (sliceOf d2 c.i.slice).per).isSome
              && thenOk (drawCounts c [(kek, exchangeCounts kek.key proto)]) d2 (fun _ d3 =>
                thenOk (random (n / 8)) d3 (fun bytes d4 =>
                  thenOk (random (padLen (kek.key.attr.alg == .T) bytes.length)) d4 (fun pad d5 =>
                    deliverable c 0 { attr := h.attr, bytes } [] (exchangeBlock kek.key { attr := h.attr, bytes } pad) d5)))))) = true := by
  decide +kernel

theorem witness_key_derive : ∀ dest ∈ [0, 1, 2],
    (let i := jobOf (descOf 0x0107 0 19 4096 (slotH 0) 0 ([byteOf dest, 0, 0, 0] ++ leBytes 2 1 ++ leBytes 2 2 ++ leBytes 2 128))
     let r : Run := { core := 0, thread := 0, input := dataTemplate ++ [1, 2, 3] }
     let c := ctx i r
     let ll := c.p 0x3C 2
     let cl := c.p 0x3E 2
     let n := c.p 0x40 2
     atJob 0x0107 [baseKey] i r && decide (c.p 0x38 1 = dest) && (fmtOk c 10 1 true && destOk c 2 && decide (ll ≤ 64) && decide (cl ≤ 256))
       && decide (c.p 0x39 1 < 64) && (inLenOk c 10 20480 && (dest == 0 || outLenOk c 0)) && policyBit (job [baseKey] i) c 0
       && thenOk (lookupAt c 0 (dKeyA c.i.desc) (c.input 10) allKinds (needs (fun a => a.mode == .X && a.alg == .A))) (start [baseKey] i r) (fun base d1 =>
          thenOk (template true (c.input 10) (c.input 10).length) d1 (fun h d2 =>
            let proto : Key := { attr := h.attr, bytes := List.replicate (n / 8) 0 }
            decide (h.len + ll + cl ≤ (c.input 10).length) && !asymmetric h.attr.alg && bitsOk h.attr.alg n && slotFits proto
              && decide (strengthOf d2 c.i.slice proto ≤ strengthOf d2 c.i.slice base.key) && (activeLmk (sliceOf d2 c.i.slice).per).isSome
              && thenOk (drawCounts c [(base, kdfCounts ll cl n)]) d2 (fun _ d3 =>
                let bytes := cmacKdf base.key.bytes (slice8 (c.input 10) h.len ll) (slice8 (c.input 10) (h.len + ll) cl) (n / 8)
                deliverable c dest { attr := h.attr, bytes } [] [] d3)))) = true := by
  decide +kernel

theorem witness_key_store :
    (let i := jobOf (descOf 0x0105 0 0 0 (ephH 1) 0 [0, 63, 1, 1])
     let r : Run := { core := 0, thread := 0 }
     let c := ctx i r
     atJob 0x0105 [] i r && (fmtOk c 4 1 true && c.p 0x38 1 == 0 && decide (c.p 0x3A 1 < 2) && decide (c.p 0x3B 1 ≤ 1)) && decide (c.p 0x39 1 < 64)
       && (inLenOk c 4 20480 && outLenOk c 0) && policyBit (job [] i) c 0
       && thenOk (lookup c (dKeyA c.i.desc) (c.input 4) [1, 2] (needs (fun a => !asymmetric a.alg))) (start [] i r) (fun k _ => slotFits k.key)) = true := by
  decide +kernel

theorem witness_key_load_ephemeral :
    (let i := jobOf (descOf 0x0109 0 112 0 (blockH 0) 0 [])
     let r : Run := { core := 0, thread := 0, input := exampleBlock }
     let c := ctx i r
     atJob 0x0109 [] i r && fmtOk c 0 1 true && (inLenOk c 0 20480 && outLenOk c 0)
       && thenOk (lookup c (dKeyA c.i.desc) (c.input 0) [1] anyKey) (start [] i r) (fun _ _ => true)) = true := by
  decide +kernel

theorem witness_key_release :
    (let i := jobOf (descOf 0x010A 0 0 0 (ephH 1) 0 [])
     let r : Run := { core := 0, thread := 0 }
     let c := ctx i r
     atJob 0x010A [] i r && fmtOk c 0 1 false && (inLenOk c 0 128 && outLenOk c 0) && decide (hKind (dKeyA c.i.desc) = 2)
       && decide (hSlice (dKeyA c.i.desc) = c.i.slice)
       && (cached (job [] i).dev c.i.slice (fun x => x == .eph (hIndex (dKeyA c.i.desc)))).isSome) = true := by
  decide +kernel

theorem witness_slot_commands : ∀ op ∈ [0x010B, 0x0106],
    (let i := jobOf (descOf op 0 0 0 0 0 [0, 63])
     let r : Run := { core := 0, thread := 0 }
     let c := ctx i r
     atJob op [] i r && (fmtOk c 2 0 true && c.p 0x38 1 == 0) && decide (c.p 0x39 1 < 64) && (inLenOk c 2 128 && outLenOk c 0)
       && policyBit (job [] i) c 0) = true := by
  decide +kernel

/-! ## Steps -/

/-- Slice 5's slot 0 as a step finds it, with one step in the commit path. -/
def pending (sl : Slot) (p : Pend) : State :=
  State.with (fun d => { d with pair := { d.pair with steps := [p] } })
    (five (fun x => { x with per := { x.per with slots := [(0, sl)] } }) (running { jobOf (descOf 0x0105 0 0 0 0 0 []) with wait := .step }))

/-- A step of slice 5 for the item of `pending`. -/
def stepOf (k : StepKind) : Pend := { step := { slice := 5, kind := k }, origin := .item 0, phase := .committing }

/-- It commits, and nothing keeps it waiting. -/
def commitsOk (s : State) (p : Pend) : Bool :=
  alive s.dev && s.dev.sys.ksk && !devFault s.dev && s.dev.pair.state == .unpaired && s.dev.pair.steps == [p] && p.phase == .committing
    && !p.mirrored && !p.foreign && !blocked s.dev p.step

theorem witness_slot_write : ∀ sl ∈ [({} : Slot), { st := .live, version := 0xFFFFFFFE, key := dataKey }],
    (let p := stepOf (.slotWrite 0 dataKey 1 (sl.st == .live))
     commitsOk (pending sl p) p && decide (slotOf (sliceOf (pending sl p).dev 5) 0 = sl) && decide (sl.version ≠ 0xFFFFFFFF)
       && (itemOf (pending sl p).dev 0).isSome) = true := by
  decide +kernel

theorem witness_slot_delete_and_exhaust :
    (let sl : Slot := { st := .live, version := 1, key := dataKey, ceiling := 1024, resEnd := 1 }
     let p := stepOf (.slotDelete 0)
     let q := stepOf (.exhaust 0 1)
     let u := stepOf (.reserve 0 1 0 0)
     commitsOk (pending sl p) p && commitsOk (pending sl q) q && commitsOk (pending sl u) u && decide (sl.st ≠ .empty) && decide (sl.version = 1)
       && !sl.void && decide (sl.resEnd < sl.ceiling)
       && decide (itemOf (running { jobOf (descOf 0 0 0 0 0 0 []) with wait := .reservation 0 }).dev 0
            = some { jobOf (descOf 0 0 0 0 0 0 []) with wait := .reservation 0 })) = true := by
  decide +kernel


/-! ## Payment -/

/-- A zone key, and the block of PIN 1234 under the zone key with PAN 400123456789, format 4. -/
def zoneKey : Key := { attr := { usage := .P0, alg := .A, mode := .B }, bytes := List.replicate 16 0x51 }
def pinBlock : List Byte := beBytes 16 0x89A87F33BE3A2DACE1AB0F7E1C96EB39

/-- A PIN opcode on that block: output format, the method's parameters, output capacity. -/
def pinJob (op outFmt out : Nat) (params : List Byte) : Item :=
  jobOf (descOf op 0 16 out (slotH 0) (slotH 1)
    ([4, byteOf outFmt, 12, 0] ++ beBytes 10 0x400123456789FFFFFFFF ++ List.replicate 12 0 ++ params))

/-- The input of such an opcode. -/
def pinRun : Run := { core := 0, thread := 0, input := pinBlock }

theorem test_pin_block_format_4 : pinOf 4 (openField 4 zoneKey.bytes [4, 0, 0, 1, 2, 3, 4, 5, 6, 7, 8, 9] pinBlock) = some [1, 2, 3, 4] := by
  decide +kernel

/-- X9.24-1 annex: base key 0123456789ABCDEF FEDCBA9876543210, KSN FFFF9876543210E00001, the PIN key of that transaction. -/
theorem test_tdes_dukpt_pin_key :
    (let bdk := beBytes 16 0x0123456789ABCDEFFEDCBA9876543210
     let ksn := beBytes 10 0xFFFF9876543210E00001 ++ [0, 0]
     beNat (workingKey { attr := { usage := .B0, alg := .T, mode := .X }, bytes := bdk } ksn 0 0)) = 0x042666B49184CF5C68DE9628D0397B36 := by
  decide +kernel

/-- X9.24-3: base key FEDCBA98… F1F1…, identifier 1234567890123456, the PIN encryption key of transaction 1. -/
theorem test_aes_dukpt_pin_key :
    (let bdk := beBytes 16 0xFEDCBA9876543210F1F1F1F1F1F1F1F1
     beNat (workingKey { attr := { usage := .B0, alg := .A, mode := .X }, bytes := bdk } (beBytes 12 0x123456789012345600000001) 0 0))
      = 0xAF8CB133A78F8DC2D1359F18527593FB := by
  decide +kernel

/-- The card check value of PAN 4123456789012345, expiry 8701, service code 101 under 0123456789ABCDEF FEDCBA9876543210 is 561. -/
theorem test_card_check_value :
    ccvDigits (beBytes 16 0x0123456789ABCDEFFEDCBA9876543210) [4, 1, 2, 3, 4, 5, 6, 7, 8, 9, 0, 1, 2, 3, 4, 5] [8, 7, 0, 1] [1, 0, 1] = [5, 6, 1] := by
  decide +kernel

theorem witness_pin_translate :
    (let i := pinJob 0x0201 4 16 []
     let ks := [zoneKey, zoneKey]
     let c := ctx i pinRun
     atJob 0x0201 ks i pinRun && (fmtOk c 26 2 false && pinHeaderOk c true false) && decide (c.p 0x38 1 = 4) && decide (c.p 0x39 1 = 4)
       && payLen c 26 (fmtLen 4) (fmtLen 4) [dKeyA c.i.desc, dKeyB c.i.desc]
       && thenOk (pinWork c 26 (needs (fun a => a.usage == .P0 && (a.mode == .E || a.mode == .B) && a.alg == fmtAlg 4))
          (fun d a b => if strengthOf d c.i.slice b < pinStrength c d a ∧ !bitAt (sliceOf d c.i.slice).per.policy 2
            then some .keyStrength else none) pinCounts) (start ks i pinRun) (fun _ d1 =>
          thenOk (random (fillBytes 4)) d1 (fun _ _ => true))) = true := by
  decide +kernel

theorem witness_pin_offset : ∀ gen ∈ [false, true],
    (let op := if gen then 0x0203 else 0x0202
     let i := pinJob op 0 6 (beBytes 8 0x0123456789012345 ++ List.replicate 8 7 ++ beBytes 6 (if gen then 0 else 0x0000FFFFFFFF) ++ [4])
     let ks := [zoneKey, methodKeyOf .V1 .T .C]
     let c := ctx i pinRun
     let n := c.p 0x68 1
     let table := nibs (c.pb 0x52 8)
     let off := nibs (c.pb 0x62 6)
     atJob op ks i pinRun && policyBit (job ks i) c 1
       && (fmtOk c 49 2 false && pinHeaderOk c false false && table.all isDec && decide (4 ≤ n) && decide (n ≤ 12)
        && (if gen then c.p 0x62 6 == 0 else (off.take n).all isDec && (off.drop n).all (· == 15)))
       && payLen c 49 (fmtLen (c.p 0x38 1)) (if gen then 6 else 0) [dKeyA c.i.desc, dKeyB c.i.desc]
       && (List.range 10).all (fun x => decide (1 ≤ (table.filter (· == x)).length) && decide ((table.filter (· == x)).length ≤ 2))
       && thenOk (pinWork c 49 (methodKey .V1 .T gen) noCheckB (fun _ => 1)) (start ks i pinRun) (fun p _ => decide (n ≤ p.1.length))) = true := by
  decide +kernel

theorem witness_pvv : ∀ gen ∈ [false, true],
    (let op := if gen then 0x0205 else 0x0204
     let i := pinJob op 0 2 ([9] ++ (if gen then [0, 0] else [0x12, 0x34]))
     let ks := [zoneKey, methodKeyOf .V2 .T .C]
     let c := ctx i pinRun
     atJob op ks i pinRun && policyBit (job ks i) c 1
       && (fmtOk c 29 2 false && pinHeaderOk c false true && decide (c.p 0x52 1 ≤ 9)
        && (if gen then c.p 0x53 2 == 0 else (nibs (c.pb 0x53 2)).all isDec))
       && payLen c 29 (fmtLen (c.p 0x38 1)) (if gen then 2 else 0) [dKeyA c.i.desc, dKeyB c.i.desc]
       && thenOk (pinWork c 29 (methodKey .V2 .T gen) (fun _ _ b => if b.bytes.length = 16 then none else some .keyUsage) (fun _ => 1))
          (start ks i pinRun) (fun _ _ => true)) = true := by
  decide +kernel

theorem witness_pin_reference : ∀ gen ∈ [false, true],
    (let op := if gen then 0x0207 else 0x0206
     let i := pinJob op 0 8 (if gen then [] else [1, 2, 3])
     let ks := [zoneKey, methodKeyOf .V0 .A .C]
     let c := ctx i pinRun
     atJob op ks i pinRun && policyBit (job ks i) c 1 && (fmtOk c 34 2 false && pinHeaderOk c false true && (!gen || c.p 0x52 8 == 0))
       && payLen c 34 (fmtLen (c.p 0x38 1)) (if gen then 8 else 0) [dKeyA c.i.desc, dKeyB c.i.desc]
       && thenOk (pinWork c 34 (methodKey .V0 .A gen) noCheckB (fun _ => 1)) (start ks i pinRun) (fun _ _ => true)) = true := by
  decide +kernel

theorem witness_emv_script_pin :
    (let i := pinJob 0x0304 0 16 (List.replicate 8 0x33 ++ [0x01])
     let ks := [zoneKey, methodKeyOf .E1 .A .X]
     let c := ctx i pinRun
     atJob 0x0304 ks i pinRun && (fmtOk c 35 2 false && pinHeaderOk c false true && (nibs (c.pb 0x5A 1)).all isDec)
       && payLen c 35 (fmtLen (c.p 0x38 1)) 16 [dKeyA c.i.desc, dKeyB c.i.desc]
       && thenOk (pinWork c 35 (emvKey .E1) noCheckB emvCounts) (start ks i pinRun) (fun _ _ => true)) = true := by
  decide +kernel

/-- The PAN field of R145 for a PAN of 16 digits. -/
def pan16 : List Byte := beBytes 10 0x4123456789012345FFFF

theorem witness_cryptograms : ∀ gen ∈ [false, true],
    (let op := if gen then 0x0302 else 0x0301
     let i := jobOf (descOf op 0 (if gen then 0 else 29) 8 (slotH 0) 0
       ([if gen then 0 else 1, 16, 1, if gen then 0 else 29] ++ pan16 ++ [0, 1] ++ List.replicate 8 0x77))
     let r : Run := { core := 0, thread := 0, input := List.replicate 29 5 }
     let ks := [methodKeyOf .E0 .A .X]
     let c := ctx i r
     let fl := c.p 0x38 1
     let n := c.p 0x3B 1
     let padl := c.p 0x56 1
     let wants := gen || bitAt fl 0
     atJob op ks i r
       && (fmtOk c 40 1 false && decide (fl < 16) && (!gen || !bitAt fl 0) && (!bitAt fl 1 || !bitAt fl 2)
        && panOk (c.p 0x39 1) (c.pb 0x3C 10) true && (nibs (c.pb 0x3A 1)).all isDec
        && (if gen then n == 0 else decide (1 ≤ n)) && c.p 0x57 1 == 0 && decide (padl ≤ 8)
        && (if bitAt fl 1 then c.p 0x50 2 == 0 && zeroFrom (c.pb 0x58 8) padl 8
            else c.p 0x52 4 == 0 && padl == 0 && c.p 0x58 8 == 0))
       && payLen c 40 n (if !wants then 0 else if bitAt fl 1 then 4 else 8) [dKeyA c.i.desc]
       && thenOk (lookupAt c 0 (dKeyA c.i.desc) (c.input 40) allKinds (emvKey .E0)) (start ks i r) (fun k d1 =>
          thenOk (drawCounts c [(k, emvCounts k.key)]) d1 (fun _ _ => true))) = true := by
  decide +kernel

theorem witness_emv_script_mac :
    (let i := jobOf (descOf 0x0303 0 1 8 (slotH 0) 0 ([8, 16, 1, 1] ++ pan16 ++ List.replicate 8 0x77))
     let r : Run := { core := 0, thread := 0, input := [5] }
     let ks := [methodKeyOf .E2 .A .X]
     let c := ctx i r
     let n := c.p 0x3B 1
     let ml := c.p 0x38 1
     atJob 0x0303 ks i r
       && (fmtOk c 22 1 false && decide (4 ≤ ml) && decide (ml ≤ 8) && panOk (c.p 0x39 1) (c.pb 0x3C 10) true
        && (nibs (c.pb 0x3A 1)).all isDec && decide (1 ≤ n)) && payLen c 22 n ml [dKeyA c.i.desc]
       && thenOk (lookupAt c 0 (dKeyA c.i.desc) (c.input 22) allKinds (emvKey .E2)) (start ks i r) (fun k d1 =>
          thenOk (drawCounts c [(k, emvCounts k.key)]) d1 (fun _ _ => true))) = true := by
  decide +kernel

theorem witness_card_check : ∀ gen ∈ [false, true],
    (let op := if gen then 0x0305 else 0x0306
     let i := jobOf (descOf op 0 0 2 (slotH 0) 0 ([16, 0] ++ pan16 ++ [0x87, 0x01, 0x10, 0x1F] ++ (if gen then [0, 0] else [0x56, 0x1F])))
     let r : Run := { core := 0, thread := 0 }
     let ks := [methodKeyOf .C0 .T .C]
     let c := ctx i r
     atJob op ks i r
       && (fmtOk c 18 1 false && panOk (c.p 0x38 1) (c.pb 0x3A 10) true && c.p 0x39 1 == 0 && (nibs (c.pb 0x44 2)).all isDec
        && svcOk (nibs (c.pb 0x46 2)) && (if gen then c.p 0x48 2 == 0 else svcOk (nibs (c.pb 0x48 2))))
       && payLen c 18 0 (if gen then 2 else 0) [dKeyA c.i.desc]
       && thenOk (lookupAt c 0 (dKeyA c.i.desc) (c.input 18) allKinds (methodKey .C0 .T gen)) (start ks i r) (fun k d1 =>
          decide (k.key.bytes.length = 16) && thenOk (drawCounts c [(k, 2)]) d1 (fun _ _ => true))) = true := by
  decide +kernel

/-- `MAC_GENERATE` and `MAC_VERIFY` by algorithm, plainly and, for CMAC, under an AES DUKPT key. -/
theorem witness_macs : ∀ e ∈ [(false, 0x01, 1, Usage.M1, Alg.A, false), (true, 0x03, 2, .M3, .T, false), (true, 0x05, 0, .M6, .A, false),
      (false, 0x10, 2, .M0, .T, false), (true, 0x05, 0, .M6, .A, true)],
    (let (gen, code, pad, u, a, duk) := e
     let op := if gen then 0x0401 else 0x0402
     let fl := if duk then 5 else 0
     let i := jobOf (descOf op 0 8 16 (slotH 0) 0 ([byteOf code, byteOf pad, 4, byteOf fl]
       ++ (if duk then beBytes 12 0x123456789012345600000001 else List.replicate 12 0) ++ List.replicate 16 0 ++ leBytes 4 8))
     let r : Run := { core := 0, thread := 0, input := List.replicate 8 5 }
     let ks := [if duk then methodKeyOf .B0 .A .X else methodKeyOf u a .C]
     let c := ctx i r
     let ml := c.p 0x3A 1
     let n := c.p 0x58 4
     let use := bits fl 2 1
     let typ := bits fl 5 3
     match macUsage code with
     | some (u, anyAlg) =>
       atJob op ks i r
         && (fmtOk c 36 1 false && (if code = 0x05 then pad == 0 else pad == 1 || pad == 2) && decide (4 ≤ ml)
          && decide (ml ≤ if anyAlg then 16 else 8) && decide (fl < 64) && decide (typ ≤ 2)
          && (duk || (fl == 0 && c.p 0x3C 12 == 0)) && zeroFrom (c.pb 0x48 16) (if gen then 0 else ml) 16)
         && (decide (n ≤ 8192) && !(n == 0 && pad == 1) && payLen c 36 n (if gen then ml else 0) [dKeyA c.i.desc])
         && thenOk (lookupAt c 0 (dKeyA c.i.desc) (c.input 36) allKinds (needs (fun a =>
            if duk then (a.usage == .B0 || a.usage == .B1) && a.mode == .X
              && (if a.alg = .T then code == 0x03 && decide (use ≤ 1)
                  else a.alg == .A && code == 0x05 && (use == 2 || use == if gen then 0 else 1))
            else a.usage == u && (a.mode == .C || a.mode == if gen then .G else .V) && (a.alg == .T || (anyAlg && a.alg == .A))))) (start ks i r)
            (fun k d1 => (duk || decide (code ≠ 0x03) || k.key.bytes.length == 16)
              && ((typ == 0 || (duk && k.key.attr.alg == .A)) && (k.key.attr.alg == .A || decide (ml ≤ 8)) && (!duk || k.key.attr.alg == .A || c.p 0x46 2 == 0))
              && (!duk || ksnOk k.key.attr.alg (c.pb 0x3C 12) k.key.attr)
              && thenOk (drawCounts c [(k, macCounts code pad k.key n)]) d1 (fun _ _ => true))
     | none => false) = true := by
  decide +kernel


/-! ## Bulk data -/

/-- What `DATA_ENCRYPT` and `DATA_DECRYPT` ask of a key. -/
def dataDemand (enc : Bool) (mode : Nat) : Demand := needs (fun a =>
  a.usage == .D0 && symmetric a.alg && (a.mode == .B || a.mode == if enc then .E else .D) && (a.alg == .A || !aead mode))

/-- Each mode, with device and caller IVs, and GCM and CCM both ways: encrypting, mode, flags, counter bits, nonce and tag lengths, the 16
bytes of IV or nonce. -/
theorem witness_data_ciphers : ∀ e ∈ [(true, 0, 0, 0, 0, 0, ([] : List Byte)), (false, 1, 0, 0, 0, 0, List.replicate 16 1), (true, 2, 1, 0, 0, 0, []),
      (false, 3, 0, 0, 0, 0, []), (true, 4, 1, 0, 0, 0, []), (true, 5, 1, 128, 0, 0, []), (false, 5, 0, 32, 0, 0, List.replicate 12 1 ++ [0xFF, 0xFF, 0xFF, 0xFF]),
      (true, 6, 0, 0, 0, 16, []), (false, 6, 0, 0, 1, 12, [1]), (true, 7, 0, 0, 0, 4, []), (false, 7, 0, 0, 13, 16, List.replicate 13 1)],
    (let (enc, mode, fl, cb, il, tl, iv) := e
     let op := if enc then 0x0501 else 0x0502
     let an := if aead mode then 4 else 0
     let i := jobOf (descOf op 0 (an + 16) 64 (slotH 0) 0
       ([byteOf mode, byteOf fl, byteOf cb, byteOf il, byteOf tl, 0, 0, 0] ++ leBytes 4 16 ++ leBytes 4 an ++ fit iv 16 ++ List.replicate 16 0))
     let r : Run := { core := 0, thread := 0, input := List.replicate (an + 16) 5 }
     let ks := [dataKey]
     let c := ctx i r
     let n := c.p 0x40 4
     atJob op ks i r && dataFormatOk enc c && dataLengthOk enc c
       && thenOk (lookupAt c 0 (dKeyA c.i.desc) (c.input 48) allKinds (dataDemand enc mode)) (start ks i r) (fun k d1 =>
          let a := k.key.attr.alg
          let ci := cipherOf a k.key.bytes
          let iv0 := (c.pb 0x48 16).take ci.size
          let blocks := (n + ci.size - 1) / ci.size
          let dev := bitAt (c.p 0x39 1) 0
          (!(enc && aead mode) || k.slot.isSome) && (!(enc && a == .T) || decide (16 < k.key.bytes.length))
            && (a == .A || (cb != 128 && c.p 0x50 8 == 0))
            && ((a == .A || decide (n ≤ 8388608)) && (decide (1 < mode) || n % ci.size == 0)
              && (decide (mode ≠ 5) || decide ((if dev then 0 else beNat iv0 % 2 ^ cb) + blocks ≤ 2 ^ cb)))
            && thenOk (drawCounts c [(k, dataCounts mode ci.size n)]) d1 (fun ks d2 =>
              (!(aead mode && enc) || (ks.head?.bind (·.slot)).isSome) && (!dev || thenOk (random ci.size) d2 (fun _ _ => true))))) = true := by
  decide +kernel

/-- SP 800-38D test case 4: the tag. -/
theorem test_gcm_tag :
    (let k := beBytes 16 0xfeffe9928665731c6d6a8f9467308308
     let n := beBytes 12 0xcafebabefacedbaddecaf888
     let ct := beBytes 60 0x42831ec2217774244b7221b784d0d49ce3aa212f2c02a4e035c17e2329aca12e21d514b25466931c7d8f6a5aac84aa051ba30b396a0aac973d58e091
     beNat (gcmMac k n (beBytes 20 0xfeedfacedeadbeeffeedfacedeadbeefabaddad2) ct)) = 0x5bc94fbc3221a5db94fae95ae7121a47 := by
  decide +kernel

/-- FIPS 197 C.3, FIPS 180-4 and FIPS 202: AES-256, SHA-384 and SHA3-256 of known inputs. -/
theorem test_aes_256 : aesEnc (beBytes 32 0x000102030405060708090a0b0c0d0e0f101112131415161718191a1b1c1d1e1f) 0x00112233445566778899aabbccddeeff#128
    = 0x8ea2b7ca516745bfeafc49904b496089#128 := by decide +kernel

theorem test_sha384_abc : beNat (sha384 [0x61, 0x62, 0x63])
    = 0xcb00753f45a35e8bb5a03d699ac65007272c32ab0eded1631a8b605a43ff5bed8086072ba1e7cc2358baeca134c825a7 := by decide +kernel

/-- A digest command over its data area or over a gather list of one segment of sixteen bytes. -/
def digestJob (op : Nat) (g : Bool) (out : Nat) (keyA : Nat) (params : List Byte) : Item :=
  jobOf (descOf op 0 (if g then 16 else 8) out keyA 0 params)

/-- Its input: the data, or the gather list and then what its segments delivered. -/
def digestRun (g : Bool) : Run :=
  { core := 0, thread := 0, input := if g then leBytes 8 0x1000 ++ leBytes 4 9 ++ leBytes 4 0 ++ List.replicate 9 5 else List.replicate 8 5 }

theorem witness_digests : ∀ g ∈ [false, true],
    (let h := 4
     let flag : Byte := if g then 1 else 0
     let i := digestJob 0x0505 g 48 0 ([byteOf h, flag, 0, 0] ++ leBytes 4 8)
     let j := digestJob 0x0506 g 0 0 ([byteOf h, flag, 0, 0] ++ leBytes 4 8 ++ List.replicate 48 9)
     let r := digestRun g
     let c := ctx i r
     let e := ctx j r
     atJob 0x0505 [] i r && (fmtOk c 8 0 false && hashOk h && decide (c.p 0x39 1 < 2) && c.p 0x3A 2 == 0)
       && (msgLengthOk c 8 (c.p 0x3C 4) 1073741824 g [] && outLenOk c (hashLen h)) && decide (c.p 0x38 1 = h) && (bitAt (c.p 0x39 1) 0 == g)
       && (!g || decide (gatherCheck (c.input 8) 8 = .ok 9))
       && atJob 0x0506 [] j r && (fmtOk e 72 0 false && hashOk h && decide (e.p 0x39 1 < 2) && e.p 0x3A 2 == 0
          && zeroFrom (e.pb 0x40 64) (hashLen h) 64) && (msgLengthOk e 72 (e.p 0x3C 4) 1073741824 g [] && outLenOk e 0)
       && (!g || decide (gatherCheck (e.input 72) 8 = .ok 9))) = true := by
  decide +kernel

/-- An HMAC key for SHA-384, and one that derives. -/
def hmacKey (m : KMode) : Key := { attr := { usage := .M7, alg := .H, mode := m, hm := some 4 }, bytes := List.replicate 32 0x71 }

theorem witness_long_macs : ∀ e ∈ [(false, true, false), (true, true, true), (false, false, false), (true, false, false)],
    (let (gen, hm, g) := e
     let op := if gen then 0x0503 else 0x0504
     let h := if hm then 0x20 else 0x05
     let hc := if hm then 4 else 0
     let ml := 8
     let i := digestJob op g 8 (slotH 0) ([byteOf h, byteOf hc, byteOf ml, if g then 1 else 0] ++ leBytes 4 8)
     let r := digestRun g
     let ks := [if hm then hmacKey .C else methodKeyOf .M6 .A .C]
     let c := ctx i r
     let n := c.p 0x3C 4
     atJob op ks i r
       && (fmtOk c 72 1 false && decide (c.p 0x3B 1 < 2)
        && (if hm then hashOk hc && decide (8 ≤ ml) && decide (ml ≤ hashLen hc) && !(g && hKind (dKeyA c.i.desc) == 1)
            else h == 0x05 && hc == 0 && decide (4 ≤ ml) && decide (ml ≤ 16) && !g)
        && zeroFrom (c.pb 0x40 64) (if gen then 0 else ml) 64)
       && (msgLengthOk c 72 n (if hm then 1073741824 else 16777216) g [dKeyA c.i.desc] && outLenOk c (if gen then ml else 0))
       && (!(gen && hm && hc == 1)) && (!g || decide (gatherCheck (c.input 72) n = .ok 9))
       && thenOk (lookupAt c 0 (dKeyA c.i.desc) (c.input 72) allKinds (needs (fun a => (a.mode == .C || a.mode == if gen then .G else .V)
        && (if hm then a.usage == .M7 && a.alg == .H && a.hm == some hc else a.usage == .M6 && symmetric a.alg)))) (start ks i r) (fun k d1 =>
          (hm || k.key.attr.alg == .A || decide (ml ≤ 8))
            && thenOk (drawCounts c [(k, if hm then 0 else max 1 ((n + (cipherOf k.key.attr.alg k.key.bytes).size - 1)
              / (cipherOf k.key.attr.alg k.key.bytes).size))]) d1 (fun _ _ => true))) = true := by
  decide +kernel

theorem witness_hmac_derive : ∀ g ∈ [false, true],
    (let i := digestJob 0x0507 g 0 (slotH 0) ([4, 63, 1, 1, if g then 1 else 0, 0, 0, 0] ++ leBytes 4 8 ++ text "D0AB" ++ text "E" ++ [0] ++ leBytes 2 256)
     let r : Run := { core := 0, thread := 0,
                      input := if g then leBytes 8 0x1000 ++ leBytes 4 8 ++ leBytes 4 0 ++ List.replicate 8 5 else List.replicate 8 5 }
     let ks := [hmacKey .X]
     let c := ctx i r
     let h := c.p 0x38 1
     let n := c.p 0x40 4
     let kb := c.p 0x4A 2
     let ceil := c.p 0x4C 6
     atJob 0x0507 ks i r
       && decide (usageOf (byteOf (c.p 0x44 1)) (byteOf (c.p 0x45 1)) = some .D0) && decide (algOf (byteOf (c.p 0x46 1)) = some .A)
       && decide (modeOf (byteOf (c.p 0x47 1)) = some .B) && decide (expoOf (byteOf (c.p 0x48 1)) = some .E)
       && (fmtOk c 26 1 true && hashOk h && decide (c.p 0x39 1 < 64) && decide (c.p 0x3A 1 < 2) && decide (c.p 0x3B 1 ≤ 1)
        && decide (c.p 0x3C 1 < 2) && c.p 0x3D 3 == 0 && c.p 0x49 1 == 0 && symmetric .A && bitsOk .A kb
        && decide (kb ≤ 8 * hashLen h) && !(g && hKind (dKeyA c.i.desc) == 1))
       && (msgLengthOk c 26 n 1073741824 g [dKeyA c.i.desc] && outLenOk c 0) && policyBit (job ks i) c 0 && decide (h ≠ 1)
       && comboOk .D0 .A .B && decide (ceil < defaultCeiling .D0 .A) && (!g || decide (gatherCheck (c.input 26) n = .ok n))
       && thenOk (lookupAt c 0 (dKeyA c.i.desc) (c.input 26) allKinds (needs (fun x => x.usage == .M7 && x.alg == .H && x.mode == .X && x.hm == some h)))
          (start ks i r) (fun k _ => decide (kb ≤ 8 * k.key.bytes.length)) && !weakTdes .A []) = true := by
  decide +kernel


/-! ## Public keys and random numbers -/

/-- An RSA key of 2,048 bits: two primes, two exponents and the inverse of the second prime. -/
def rsaP : Nat := 0xF84F44BB7DB53FE480489706CC4D4EFA48406DCA57BFBE2A193A5C60E62A1828F759BC22801DF24E98EA3249EF7F9D7859FEEF876E9C430C3D74BDC925F148F0F7FF0F92A1DE573A0634ABAB94B161DFDEA863A611B08A502791DA621EA24003F512795001496AD7F76AA4934A64A0F24FF7DC150D2D0EA0DFB048CE79D8F9DB
def rsaQ : Nat := 0xC26D28731E0289E5DFEABE4AF7EAAB01F3C79DF5299D5245138DDE27A4E7B275A68E713FF13CA757C3DCF2F0A5E88CB60AB45DCA912679A3452465A47AB97F6150D614839AD021F359669D7B1E8A2E78FDB0C84430D665CE5864FF3FE144C00C585F7EE21CB8A679BFB910FFE74C2E7D50D3BD2CB8B1B1E6B8B766A6C4525425
def rsaDp : Nat := 0xEB2F6141583268DECB6675AD59AA4B88A1106D2CBE69FCFAB0C46724DC3BB8806CAF509338D7A45E2F557AE62E72A7BA8B3AFCB240E0BE5C8484E310F6E00F1F35351F11DA40D64B3DFF7B2DDB7B1AE1C869A36072D6CC5A58F03B70BDE51D4EE23B6A2D8DDA74D9331D8DDD7813D1A1507EC9B422B3AF6C4E12111387B32C0B
def rsaDq : Nat := 0x1C49836C143EAC4F7C9F8BA61EA1CED58EE149130545F555457E0B875B0FB6C035465E25BE7463A87A3FA83CE8F6879A68BE4B3310A1376B50C0F5E4D3522FBD39E49BC17601B81ECEB006538662F655F61B05581E7EE2FAFD935C2BB01BAF915C3E3098B7330A4D865E67A1C3C62AB162D41B9EE914395CE71D0FDB4D8EE8DD
def rsaQi : Nat := 0x950360249CF61A7ABCFED50E0301C6B2188AB74D71DBE4772EEE86A446660770083B8F2D3EA5FC03F346173FC24262220B54F7CF94F6C4008AB317EB485E0587CB79C0A2F73D4615840DBA0DB906BBAC513A7041E17DB186F83829E04BC2897EAA386C03A40B572615DE7C9175F06092D5EB9A9B87C9E2DE1517D77ACBA7BD73

def rsaBytes : List Byte := beBytes 8 65537 ++ beBytes 256 (rsaP * rsaQ) ++ beBytes 128 rsaP ++ beBytes 128 rsaQ ++ beBytes 128 rsaDp ++ beBytes 128 rsaDq ++ beBytes 128 rsaQi

/-- An asymmetric key of a usage and mode. -/
def pkKeyOf (u : Usage) (a : Alg) (m : KMode) (bytes : List Byte) : Key := { attr := { usage := u, alg := a, mode := m }, bytes }

theorem test_rsa_key_is_sound : privCheck {} (pkKeyOf .S0 .R .S rsaBytes) = .ok () := by decide +kernel

/-- A PK opcode: algorithm, hash, flags, destination, `AUX8`, key bits, the four lengths of the data area, output capacity and key A. -/
structure PkCase where
  op : Nat
  alg : Nat
  hash : Nat := 0
  flags : Nat := 0
  dest : Nat := 0
  aux8 : Nat := 0
  bits : Nat := 0
  pub : Nat := 0
  aux : Nat := 0
  msg : Nat := 0
  info : Nat := 0
  out : Nat := 8192
  keyA : Nat := 0

def pkJob (k : PkCase) : Item :=
  jobOf (descOf k.op 0 (k.pub + k.aux + k.msg + k.info) k.out k.keyA 0
    ([byteOf k.alg, byteOf k.hash, byteOf k.flags, byteOf k.dest, 0, 0, 0, byteOf k.aux8] ++ leBytes 2 k.bits ++ [0, 0] ++ leBytes 4 k.pub
      ++ leBytes 4 k.aux ++ leBytes 4 k.msg ++ leBytes 4 k.info))

def runOf (l : List Byte) : Run := { core := 0, thread := 0, input := l }

theorem witness_rsa_sign : ∀ flags ∈ [0, 1],
    (let i := pkJob { op := 0x0601, alg := 0x10, hash := 4, flags, aux8 := if flags = 1 then 48 else 0, msg := 48, keyA := ephH 2 }
     let r := runOf (List.replicate 48 5)
     let ks := [pkKeyOf .S0 .R .S rsaBytes]
     let c := ctx i r
     let f : PkForm := { hash := true, rsa := true }
     atJob 0x0601 ks i r && (pkFormatOk c 1 f && decide (pkFlags c ≤ 1)) && decide (pkFlags c = flags)
       && pkLengthOk c f (isN 0) (isN 0) (isN (hashLen (pkHash c))) (isN 0) && decide (pkHash c ≠ 1) && decide (pkAlg c = 0x10)
       && thenOk (pkKey c .S0 .R .S) (start ks i r) (fun key d1 => outLenOk c (rsaN key).1 && rngForItems d1
          && (decide (flags ≠ 1) || thenOk (random (pkAux8 c)) d1 (fun _ _ => true)))) = true := by
  decide +kernel

theorem witness_rsa_verify :
    (let i := pkJob { op := 0x0602, alg := 0x10, hash := 4, pub := 264, aux := 256, msg := 48, out := 0 }
     let r := runOf (List.replicate 568 5)
     let c := ctx i r
     let f : PkForm := { hash := true, rsa := true }
     let k := pubLen c - 8
     atJob 0x0602 [] i r && (pkFormatOk c 0 f && decide (pkFlags c ≤ 1))
       && (pkLengthOk c f (fun x => decide (136 ≤ x) && decide (x ≤ 1032) && x % 8 == 0) (isN k) (isN (hashLen (pkHash c))) (isN 0) && outLenOk c 0)
       && decide (pkAlg c = 0x10)) = true := by
  decide +kernel

theorem witness_rsa_decrypt :
    (let i := pkJob { op := 0x0603, alg := 0x10, hash := 4, flags := 2, aux := 256, keyA := ephH 2 }
     let r := runOf (List.replicate 256 5)
     let ks := [pkKeyOf .D0 .R .D rsaBytes]
     let c := ctx i r
     let f : PkForm := { hash := true, rsa := true }
     let k := auxLen c
     atJob 0x0603 ks i r && (pkFormatOk c 1 f && pkFlags c == 2)
       && (pkLengthOk c f (isN 0) (fun x => decide (256 ≤ x) && decide (x ≤ 1024) && x % 8 == 0) (isN 0) (isN 0) && outLenOk c (k - 2 * hashLen (pkHash c) - 2))
       && decide (pkAlg c = 0x10)
       && thenOk (pkKey c .D0 .R .D) (start ks i r) (fun key d1 => decide ((rsaN key).1 = k) && rngForItems d1)) = true := by
  decide +kernel

/-- A private key of P-256, one of Ed25519, one for X25519, an ML-KEM-768 and an ML-DSA-65 seed (R217). -/
def p256Key (u : Usage) (m : KMode) : Key := pkKeyOf u .E m ([1] ++ List.replicate 8 0 ++ List.replicate 31 0 ++ [7])
def edKey : Key := pkKeyOf .S0 .E .S ([7] ++ List.replicate 8 0 ++ List.replicate 32 9)
def xKey : Key := pkKeyOf .K3 .E .X ([6] ++ List.replicate 8 0 ++ List.replicate 32 9)
def kemKey : Key := pkKeyOf .K3 .K1 .X (0x21 :: List.replicate 64 9)
def dsaKey : Key := pkKeyOf .S0 .D2 .S (0x31 :: List.replicate 32 9)

theorem witness_ecdsa_sign :
    (let i := pkJob { op := 0x0604, alg := 1, hash := 3, msg := 32, keyA := ephH 2 }
     let r := runOf (List.replicate 32 5)
     let ks := [p256Key .S0 .S]
     let c := ctx i r
     let f : PkForm := { hash := true }
     match pkCurveOf c (job ks i).dev with
     | some w => atJob 0x0604 ks i r && pkFormatOk c 1 f
         && (pkLengthOk c f (isN 0) (isN 0) (isN (hashLen (pkHash c))) (isN 0) && outLenOk c (2 * orderLen w)) && decide (pkHash c ≠ 1)
         && thenOk (pkKey c .S0 .E .S) (start ks i r) (fun _ d1 => thenOk (random (orderLen w + 8)) d1 (fun _ _ => true))
     | none => false) = true := by
  decide +kernel

/-- The base point of P-256 as a public key (R219). -/
def baseP256 : List Byte := pubPoint ((builtIn 1).getD ⟨0, 0, 0, 0, 0, 0, 0, []⟩) 1

theorem witness_ecdsa_verify :
    (let i := pkJob { op := 0x0605, alg := 1, hash := 3, pub := 65, aux := 64, msg := 32, out := 0 }
     let r := runOf (0x04 :: List.replicate 160 5)
     let c := ctx i r
     let f : PkForm := { hash := true }
     match pkCurveOf c (job [] i).dev with
     | some w => atJob 0x0605 [] i r && pkFormatOk c 0 f
         && (pkLengthOk c f (isN (1 + 2 * w.len)) (isN (2 * orderLen w)) (isN (hashLen (pkHash c))) (isN 0) && outLenOk c 0)
         && decide ((pkParts c f).1.head? = some 0x04)
     | none => false) = true := by
  decide +kernel

theorem witness_eddsa :
    (let i := pkJob { op := 0x0607, alg := 7, msg := 8, keyA := ephH 2 }
     let j := pkJob { op := 0x0608, alg := 7, pub := 32, aux := 64, msg := 8, out := 0 }
     let r := runOf (List.replicate 104 5)
     let ks := [edKey]
     let c := ctx i r
     let e := ctx j r
     let f : PkForm := {}
     atJob 0x0607 ks i r && pkFormatOk c 1 f && (pkLengthOk c f (isN 0) (isN 0) (upTo 0 8192) (isN 0) && outLenOk c (edSig (pkAlg c))) && isEd (pkAlg c)
       && thenOk (pkKey c .S0 .E .S) (start ks i r) (fun _ d1 => rngForItems d1)
       && atJob 0x0608 ks j r && pkFormatOk e 0 f
       && (pkLengthOk e f (isN (edPub (pkAlg e))) (isN (edSig (pkAlg e))) (upTo 0 8192) (isN 0) && outLenOk e 0) && isEd (pkAlg e)) = true := by
  decide +kernel

/-- The end of an agreement's premises: its template, its output length, and a new key that can be delivered. -/
def agreed (c : Ctx) (n : Nat) (d1 : Dev) (q : Dev → Bool) (before : List Byte) : Bool :=
  let info := (pkParts c agreeForm).2.2.2.2
  thenOk (deriveTemplate c info) d1 (fun hp d =>
    (d == d1) && thenOk (deriveOutOk c n hp.1 hp.2) d1 (fun _ d2 => q d2 && deliverable c (pkDest c) hp.2 before [] d2))

theorem witness_ecdh : ∀ e ∈ [(6, 32, List.replicate 32 (0 : Byte), false), (6, 32, 9 :: List.replicate 31 0, true),
      (1, 65, 0x04 :: List.replicate 64 0, false), (1, 65, baseP256, true)],
    ∀ dest ∈ [0, 1, 2],
    (let (alg, pub, point, good) := e
     let i := pkJob { op := 0x0606, alg, hash := 3, dest, bits := 128, pub, info := 16, keyA := ephH 2 }
     let r := runOf (point ++ text "D0000D0AB00E0000")
     let ks := [if alg = 6 then xKey else p256Key .K3 .X]
     let c := ctx i r
     let f := agreeForm
     let w := pkCurveOf c (job ks i).dev
     atJob 0x0606 ks i r && pkFormatOk c 1 f && decide (pkHash c ≠ 1) && policyBit (job ks i) c 0 && decide (pkDest c = dest)
       && (pkLengthOk c f (isN pub) (isN 0) (isN 0) (upTo 16 512) && (dest == 0 || outLenOk c 0))
       && (match w with
          | none => alg == 6 && u25519Ok (leAt (pkParts c f).1 0 32) == good
          | some w => alg != 6 && pub == 1 + 2 * w.len && decide ((pkParts c f).1.head? = some 0x04)
              && onCurve w (pointOf w (pkParts c f).1).1 (pointOf w (pkParts c f).1).2 == good)
       && thenOk (pkKey c .K3 .E .X) (start ks i r) (fun _ d1 => agreed c 0 d1 rngForItems [])) = true := by
  decide +kernel

theorem witness_encapsulate : ∀ b ∈ [(0 : Byte), 0xFF],
    (let i := pkJob { op := 0x0609, alg := 0x21, hash := 3, dest := 2, bits := 128, pub := 1184, info := 16 }
     let r := runOf (List.replicate 1184 b ++ text "D0000D0AB00E0000")
     let c := ctx i r
     let f := agreeForm
     atJob 0x0609 [] i r && pkFormatOk c 0 f && isKem (pkAlg c) && decide (pkHash c ≠ 1)
       && (pkLengthOk c f (isN (kemEk (pkAlg c))) (isN 0) (isN 0) (upTo 16 512) && (pkDest c == 0 || outLenOk c (kemCt (pkAlg c))))
       && kemModulusOk (pkParts c f).1 == (b == 0)
       && agreed c (kemCt (pkAlg c)) (start [] i r) (fun d2 => thenOk (random 32) d2 (fun _ _ => true)) (List.replicate (kemCt (pkAlg c)) 0)) = true := by
  decide +kernel

theorem witness_decapsulate :
    (let i := pkJob { op := 0x060A, alg := 0x21, hash := 3, dest := 0, bits := 128, aux := 1088, info := 16, keyA := ephH 2 }
     let r := runOf (List.replicate 1088 5 ++ text "D0000D0AB00E0000")
     let ks := [kemKey]
     let c := ctx i r
     let f := agreeForm
     atJob 0x060A ks i r && pkFormatOk c 1 f && isKem (pkAlg c) && decide (pkHash c ≠ 1)
       && (pkLengthOk c f (isN 0) (isN (kemCt (pkAlg c))) (isN 0) (upTo 16 512) && (pkDest c == 0 || outLenOk c 0))
       && thenOk (pkKey c .K3 .K1 .X) (start ks i r) (fun _ d1 => agreed c 0 d1 rngForItems [])) = true := by
  decide +kernel

theorem witness_mldsa :
    (let i := pkJob { op := 0x060B, alg := 0x31, msg := 64, flags := 4, keyA := ephH 2 }
     let j := pkJob { op := 0x060C, alg := 0x31, pub := 1952, aux := 3309, msg := 8192, out := 0 }
     let r := runOf []
     let ks := [dsaKey]
     let c := ctx i r
     let e := ctx j r
     let f : PkForm := { mu := true }
     isDsa (pkAlg c) && atJob 0x060B ks i r && pkFormatOk c 1 f && (pkLengthOk c f (isN 0) (isN 0) (dsaMsg c) (isN 0) && outLenOk c (dsaSig (pkAlg c)))
       && thenOk (pkKey c .S0 .D2 .S) (start ks i r) (fun _ d1 => thenOk (random 32) d1 (fun _ _ => true))
       && isDsa (pkAlg e) && atJob 0x060C ks j r && pkFormatOk e 0 f
       && (pkLengthOk e f (isN (dsaPk (pkAlg e))) (isN (dsaSig (pkAlg e))) (dsaMsg e) (isN 0) && outLenOk e 0)) = true := by
  decide +kernel

theorem witness_key_pairs : ∀ e ∈ [(0x06, text "D0000K3EX00E0000"), (0x21, text "D0000K31X00E0000"), (0x31, text "D0000S02S00E0000")],
    ∀ dest ∈ [0, 2],
    (let (alg, tpl) := e
     let i := pkJob { op := 0x060D, alg, dest, info := 16 }
     let r := runOf tpl
     let c := ctx i r
     let f : PkForm := { deliver := true }
     let w := pkCurveOf c (job [] i).dev
     let shape := genShape c w
     let info := (pkParts c f).2.2.2.2
     atJob 0x060D [] i r && pkFormatOk c 0 f && pkLengthOk c f (isN 0) (isN 0) (isN 0) (upTo 16 128) && decide (pkDest c ≠ 1)
       && (w.isSome || !isW (pkAlg c))
       && thenOk (template false info info.length) (start [] i r) (fun h d => (d == start [] i r)
          && (h.attr.alg == shape.1 && comboOk h.attr.usage shape.1 h.attr.mode)
          && thenOk (deriveOutOk c shape.2.2 h { attr := h.attr, bytes := List.replicate shape.2.1 0 }) (start [] i r) (fun _ d1 =>
            thenOk (random (genBytes c w)) d1 (fun rnd d2 =>
              deliverable c (pkDest c) { attr := h.attr, bytes := (genPair c w rnd).1 } [] (genPair c w rnd).2 d2)))) = true := by
  decide +kernel

theorem witness_random_commands :
    (let i := jobOf (descOf 0x0701 0 0 65536 0 0 (leBytes 4 65536))
     let j := jobOf (descOf 0x0702 0 0 0 0 0 [])
     let r := runOf []
     let c := ctx i r
     atJob 0x0701 [] i r && fmtOk c 4 0 false && decide (c.p 0x38 4 = 65536) && (inLenOk c 4 0 && outLenOk c 65536) && rngForItems (job [] i).dev
       && atJob 0x0702 [] j r && fmtOk (ctx j r) 0 0 true && inLenOk (ctx j r) 0 0) = true := by
  decide +kernel

theorem witness_random_failed :
    (let i := jobOf (descOf 0x0701 0 0 1 0 0 (leBytes 4 1))
     let s := State.with (fun d => { d with rng := { d.rng with failed := true } }) (job [] i)
     AtWork s (runOf []) 0x0701 (ctx i (runOf [])) ∧ fmtOk (ctx i (runOf [])) 4 0 false = true ∧ s.dev.rng.failed = true) := by
  refine ⟨?_, by decide +kernel, rfl⟩
  exact ⟨by decide +kernel, by decide +kernel, by decide +kernel, _, rfl, by decide +kernel, rfl, rfl, rfl, .inl rfl, rfl, rfl⟩


/-! ## Noise sources and DRBG instances -/

/-- The RNG changed. -/
def rng (f : Rng → Rng) (s : State) : State := { s with dev := { s.dev with rng := f s.dev.rng } }

/-- One source runs, is in start-up or is the last; a raw-sample run; a failed supply. -/
theorem witness_noise_sources :
    (let up := rng (fun x => { x with src := [.startup, .standby, .retired, .retired, .retired, .retired] }) ready
     let last := rng (fun x => { x with src := [.retired, .retired, .retired, .retired, .retired, .active] }) ready
     let raw := rng (fun x => { x with raw := some { mailbox := 0, source := 0, mode := 1 } }) ready
     let after := fun (s : State) (n test : Nat) => modRng (fun r => { r with held := 0 }) (setSrc n .retired (raise 0x6002 n n test s.dev))
     alive up.dev = true ∧ srcIn up.dev .startup = some 0 ∧ srcIn (after up 0 3) .standby = some 1 ∧
     alive ready.dev = true ∧ srcIn ready.dev .startup = none ∧ srcIn ready.dev .active = some 0 ∧ ready.dev.rng.raw = none ∧
     srcIn (after ready 0 2) .standby = some 4 ∧ (srcIn ready.dev .active).isSome = true ∧ ready.dev.rng.failed = false ∧
     srcIn last.dev .active = some 5 ∧ last.dev.rng.raw = none ∧ srcIn (after last 5 1) .standby = none ∧
       (after last 5 1).rng.src.all (· == .retired) = true ∧ last.dev.rng.failed = false ∧
     raw.dev.rng.raw = some { mailbox := 0, source := 0, mode := 1 } ∧ srcIn raw.dev .active = some 0 ∧ raw.dev.rng.raw.isSome = true) := by
  decide +kernel

theorem witness_conditioner_mismatch :
    (let s := State.with (fun d => { d with mg := { d.mg with boxes := [(7, { state := .busy, wait := .rng, cur := some (.nonceGet, { mailbox := 7 }) })] } }) ready
     alive s.dev = true ∧ s.dev.rng.failed = false ∧ (mailboxOf s.dev 7).state = .busy ∧ (mailboxOf s.dev 7).wait = .rng ∧
       (mailboxOf s.dev 7).cur.isSome = true ∧ s.dev.log.held = []) := by
  decide +kernel

theorem witness_drbg_instances :
    (let s := rng (fun x => { x with queue := 4, inst := [(0, { seeded := true })] }) ready
     alive s.dev = true ∧ s.dev.rng.failed = false ∧ s.dev.rng.raw = none ∧ s.dev.sys.ksk = true ∧ s.dev.rng.kat = true ∧ 4 ≤ s.dev.rng.queue ∧
       nextInstantiation s.dev = some 1) ∧
    nextInstantiation ready.dev = none ∧ rngServing ready.dev = true ∧ instServes ready.dev 15 = true ∧
    (let s := rng (fun x => { x with inst := [(15, { seeded := true, gens := 1048575 })] }) ready
     rngServing s.dev = true ∧ instServes s.dev 15 = true ∧ 4095 ≤ (Tab.getD s.dev.rng.inst 15 {}).gens ∧ 1048575 ≤ (Tab.getD s.dev.rng.inst 15 {}).gens) ∧
    (Tab.getD ready.dev.rng.inst 15 {}).seeded = true ∧ 15 ∉ ready.dev.rng.due ∧
    (let s := rng (fun x => { x with queue := 3, due := [15, 0] }) ready
     s.dev.rng.failed = false ∧ s.dev.rng.raw = none ∧ nextInstantiation s.dev = none ∧ 3 ≤ s.dev.rng.queue ∧ s.dev.rng.due = 15 :: [0]) ∧
    (let s := State.with (fun d => { d with mg := { d.mg with boxes := [(7, { state := .busy, wait := .raw, cur := some (.rngRawSample, { mailbox := 7 }) })] } })
       (rng (fun x => { x with raw := some { mailbox := 7, source := 5, mode := 1 } }) ready)
     s.dev.rng.raw = some { mailbox := 7, source := 5, mode := 1 } ∧ (mailboxOf s.dev 7).cur = some (.rngRawSample, { mailbox := 7 }) ∧
       (Tab.getD s.dev.rng.inst 15 {}).seeded = true) := by
  decide +kernel

/-- No byte is delivered twice: two draws take consecutive positions (R245). -/
theorem test_draws_are_consecutive : drawBytes 2 ready.dev ++ drawBytes 2 (draw 2 ready.dev) = drawBytes 4 ready.dev := by rfl


/-! ## Records, counters, start-up and activation -/

/-- The recorder, the counters or the firmware changed. -/
def logged (f : Recorder → Recorder) (s : State) : State := { s with dev := { s.dev with log := f s.dev.log } }
def counted (f : Counters → Counters) (s : State) : State := { s with dev := { s.dev with ctr := f s.dev.ctr } }
def fwed (f : Firmware → Firmware) (s : State) : State := { s with dev := { s.dev with fw := f s.dev.fw } }

/-- A request at the recorder's port. -/
def evReq : EvReq := { code := 0x3004, source := 0, p1 := 0, p2 := 0, time := 0, epoch := false }

theorem witness_event_records : alive ready.dev = true ∧ ready.dev.log.queue = [] ∧ ready.dev.sys.ready = true ∧ ready.dev.log.window = [] ∧
    (let s := logged (fun x => { x with queue := [evReq], head := 4095, resEnd := 4096 }) ready
     s.dev.log.queue = evReq :: [] ∧ s.dev.sys.ksk = true ∧ recorderSilent s.dev = false ∧ evReq.code ≠ 0x1010 ∧ evReq.code ≠ 0x2004 ∧
       s.dev.log.head < 4096 ∧ s.dev.log.held = []) ∧
    (let s := logged (fun x => { x with queue := [evReq], head := 4096, resEnd := 4096 }) ready
     s.dev.log.queue = evReq :: [] ∧ 4096 ≤ s.dev.log.head) ∧
    (logged (fun x => { x with window := [(0x3004, 2)] }) ready).dev.log.window ≠ [] ∧
    (let s := counted (fun x => { x with mon := [(7, { window := 3, peak := 5 })], dumpPeriod := 1, dumpSlots := 2 }) ready
     (monOf s.dev 7).window ≠ 0 ∧ (monOf s.dev 7).peak < 6 ∧ 5 ≤ (monOf s.dev 7).peak ∧ devFault s.dev = false ∧ s.dev.ctr.dumpPeriod ≠ 0) := by
  decide +kernel

theorem test_record_takes_the_next_number :
    (nextOf (exec .eventRecordWrite (logged (fun x => { x with queue := [evReq], head := 9, resEnd := 9 }) ready))).map
      (fun t => (t.dev.log.head, t.dev.log.resEnd)) = some (10, 1033) := by
  decide +kernel

theorem witness_starts :
    (let s := sys (fun x => { x with stage := 0, ready := false, cpUp := false, ksk := false, pufOk := false, pufReads := 1 }) ready
     alive s.dev = true ∧ s.dev.sys.pufOk = false ∧ s.dev.sys.stage = 0 ∧ s.fuse.secretsBlown = false ∧ s.dev.sys.share = .written ∧
       s.dev.sys.ksk = false ∧ s.dev.sys.lc ≠ 2 ∧ s.dev.goose.eraseBegun = false ∧ s.dev.sys.pufReads < 3 ∧
       ({ s with dev := modGoose (fun g => { g with checkDue := false }) s.dev } : State).dev.goose.checkDue = false ∧
       3 ≤ (sys (fun x => { x with pufReads := 3 }) s).dev.sys.pufReads) ∧
    (let s := sys (fun x => { x with stage := 1, ready := false, cpUp := false }) ready
     let v : BootVerdict := {}
     let b : Bank := { fw := 0x0402, sec := 1, digest := [] }
     alive s.dev = true ∧ s.dev.sys.ksk = true ∧ s.dev.sys.stage = 1 ∧ activeBank s.dev.fw = some b ∧ v.digestOk = true ∧ v.vendorOk = true ∧
       s.dev.sys.lc ≠ 1 ∧ fuseCount s.fuse.secVersion ≤ b.sec ∧ b.sec ≤ 64 ∧
       (let s1 : State := { s with fuse := { secVersion := 0x8000000000000000#64 } }
        let b64 : Bank := { b with sec := 64 }
        activeBank (fwed (fun x => { x with bank0 := some b64 }) s1).dev.fw = some b64 ∧ fuseCount s1.fuse.secVersion ≤ b64.sec ∧ b64.sec ≤ 64 ∧
          b.sec < fuseCount s1.fuse.secVersion) ∧
       activeBank (fwed (fun x => { x with active := none }) s).dev.fw = none ∧ ({ digestOk := false } : BootVerdict).digestOk = false ∧
       (let t := sys (fun x => { x with lc := 1 }) (fwed (fun x => { x with bank0 := some { b with owner := true } }) s)
        t.dev.sys.lc = 1 ∧ activeBank t.dev.fw = some { b with owner := true } ∧ v.ownerOk = true ∧ b.owner = false)) ∧
    (let s := sys (fun x => { x with stage := 3, ready := false }) ready
     alive s.dev = true ∧ s.dev.sys.stage = 3 ∧ s.dev.sys.cpUp = true ∧ rngServing s.dev = true ∧ devFault s.dev = false ∧
       unitExists s.dev 6 15 = true ∧ 63 < coreCount s.dev ∧ (sliceOf s.dev 5).state ≠ .free) := by
  decide +kernel

theorem witness_activations :
    (let s := fwed (fun x => { x with step := 2, staging := .activating, staged := some { fw := 0x0402, sec := 2, digest := [] } }) (running (itemWith [(4, 5)]))
     let t := fwed (fun x => { x with step := 2 }) ready
     let ids := fun (s : State) => (dispatched s.dev).filter (fun id => (itemOf s.dev id).any (fun i => i.res.isNone && !i.abort))
     alive s.dev = true ∧ s.dev.fw.step = 2 ∧ ids s ≠ [] ∧ dispatched s.dev ≠ [] ∧
     alive t.dev = true ∧ t.dev.fw.step = 2 ∧ ids t = [] ∧ dispatched t.dev = [] ∧ devFault t.dev = false ∧ t.dev.sys.ksk = true) ∧
    (let s := fwed (fun x => { x with step := 4 }) ready
     let b : Bank := { fw := 0x0402, sec := 1, digest := [] }
     alive s.dev = true ∧ s.dev.fw.step = 4 ∧ devFault s.dev = false ∧ activeBank s.dev.fw = some b ∧ fuseCount s.fuse.secVersion ≤ b.sec ∧ b.sec ≤ 64) ∧
    (let s := sys (fun x => { x with cpRestart := true, cpActivation := true, cpUp := false }) (fwed (fun x => { x with step := 8 }) ready)
     alive s.dev = true ∧ s.dev.sys.cpRestart = true ∧ s.dev.sys.cpActivation = true) := by
  decide +kernel


/-! ## The management mailboxes -/

/-- Mailbox 0 changed. -/
def box0 (f : Mailbox → Mailbox) (s : State) : State := { s with dev := modBox 0 f s.dev }

theorem witness_mailbox_handshake : barsOpen ready.dev = true ∧ boxesServe ready.dev = true ∧
    (mailboxOf (box0 (fun b => { b with state := .done }) ready).dev 0).state = .done ∧
    (mailboxOf (box0 (fun b => { b with state := .busy }) ready).dev 0).state = .busy ∧
    (let s := sys (fun x => { x with cpRestart := true, cpUp := false }) ready; barsOpen s.dev = true ∧ boxesServe s.dev = false) ∧
    reached .devInfo (openly []) ready (fun r c =>
      decide (r.m = 0) && (mailboxOf c.d 0).cur == some (.devInfo, r.q) && r.q.session == 0 && c.d.log.held == []) = true ∧
    (let s := fun w => box0 (fun b => { b with state := .busy, cur := some (.devInfo, openly []), wait := w }) ready
     (mailboxOf (s (.quiesce 5)).dev 0).state = .busy ∧ (mailboxOf (s (.quiesce 5)).dev 0).cur.isSome = true ∧
     (mailboxOf (s (.quiesce 5)).dev 0).wait = .quiesce 5 ∧ (mailboxOf (s .step).dev 0).wait = .step ∧ (mailboxOf (s .rng).dev 0).wait = .rng) := by
  decide +kernel

/-- The request of `witness_mailbox_handshake` is answered. -/
theorem witness_answers : ∃ r c, Answers (.devInfo (openly [])) ready r .ok (devInfoBody c) [] c ∧
    (mailboxOf c.d 0).cur = some (.devInfo, r.q) := by
  obtain ⟨r, c, h, hp⟩ := admits_of_reached (op := .devInfo) (q := openly []) (s := ready)
    (p := fun r c => r.inp == [] && (mailboxOf c.d 0).cur == some (.devInfo, r.q)) (by decide +kernel)
  simp only [Bool.and_eq_true, beq_iff_eq] at hp
  have hb : body .devInfo r c = .done c (devInfoBody c) [] := by simp [body, devInfoCmd, behind, firstFail, len, hp.1]
  exact ⟨r, c, answers_done rfl h hb (Nat.zero_le _), hp.2⟩

theorem witness_requests_are_checked : barsOpen ready.dev = true ∧ boxesServe ready.dev = true ∧ ready.dev.hif.ideRequired = false ∧
    (mailboxOf ready.dev 0).state = .idle ∧ ready.dev.log.held = [] ∧ (devSigns []).spdm = none ∧ (devSigns []).session = 0 ∧
    ((devSigns []).rsv = 0 ∧ ({ devSigns [] with rsv := 1 } : MbReq).rsv ≠ 0) ∧
    ((devSigns []).bodyLen ≤ 2000 ∧ ¬ ({ devSigns [] with bodyLen := 2001 } : MbReq).bodyLen ≤ 2000) ∧
    ((openly []).quorumLen = 0 ∧ mayCarryQuorum .tamperUnlock = true) ∧
    (let s := sys (fun x => { x with lc := 2 }) ready; s.dev.sys.lc = 2 ∧ boxesServe s.dev = true ∧ barsOpen s.dev = true) ∧
    (let s := State.with (fun d => { d with goose := { d.goose with lock := true } }) ready
     s.dev.sys.lc ≠ 2 ∧ s.dev.goose.lock = true ∧ lockAllows .timeSet = false) ∧
    (let s := sys (fun x => { x with faultStatus := 0x20#32 }) ready
     s.dev.goose.lock = false ∧ s.dev.goose.eraseBegun = false ∧ devFault s.dev = true ∧ stopAllows .timeSet = false ∧ boxesServe s.dev = true) ∧
    (ready.dev.sys.lc ≠ 2 ∧ ready.dev.goose.lock = false ∧ ready.dev.goose.eraseBegun = false ∧ devFault ready.dev = false ∧
      ready.dev.sys.haltCause ≠ 4 ∧
      ({ devSigns [] with inLen := 1, dmaFail := some .poisoned } : MbReq).inLen ≠ 0 ∧
      classOf ready.cx .timeSet 0xFFFF = .session ∧ Tab.find ready.dev.mg.sessions 0 = none ∧
      classOf ready.cx .tamperUnlock 0xFFFF = .quorum ∧ nonceOk ready.dev 0 (openly []) = false ∧
      (let q := { devSigns [] with quorum := [⟨1, 1, 96, true⟩, ⟨2, 1, 96, false⟩] }
       nonceOk ready.dev 0 q = true ∧ quorumFormOk q = true ∧
         verifiedCount q < (officersOf ready.dev (authorityOf ready.cx .tamperUnlock q.scope)).k)) := by
  decide +kernel

theorem test_a_consumed_nonce_steps_the_sequence :
    (nextOf (exec (.tamperUnlock { devSigns [] with quorum := [⟨1, 1, 96, true⟩, ⟨2, 1, 96, false⟩] }) ready)).map
      (fun t => ((mailboxOf t.dev 0).qseq, (mailboxOf t.dev 0).nonce, Mem.readAll (mailboxOf t.dev 0).response 0 2)) =
      some (4, none, [0x02#8, 0x05#8]) := by
  decide +kernel

/-! ## Device requests -/

/-- The RNG failed, or without an instance that serves. -/
def rngOf (f : Rng → Rng) (s : State) : State := { s with dev := modRng f s.dev }

/-- The device paired, in a role. -/
def paired (role : Role) (s : State) : State :=
  { s with dev := modPair (fun p => { p with state := .paired, role, key := true, lanes := 8 }) s.dev }

theorem witness_device_requests :
    reached .devInfo (openly []) ready (fun r _ => r.inp == []) = true ∧
    reached .devReset (devAsks []) ready (fun r _ => r.inp == []) = true ∧
    (let q := devAsks (le 8 1000)
     reached .timeSet q ready (fun r c => r.inp.length == 8 && decide (leAt r.inp 0 8 < 2 ^ 63) && c.d.pair.state != .paired) = true ∧
     reached .timeSet q (paired .primary ready) (fun r c => r.inp.length == 8 && c.d.pair.state == .paired && c.d.pair.role != .secondary) = true ∧
     reached .timeSet q (paired .secondary ready) (fun r c => r.inp.length == 8 && c.d.pair.role == .secondary) = true ∧
     leAt (le 8 (2 ^ 63 - 1)) 0 8 < 2 ^ 63) ∧
    (let q := openly []
     reached .nonceGet q (rngOf (fun g => { g with failed := true }) ready) (fun r c => r.inp == [] && c.d.rng.failed) = true ∧
     reached .nonceGet q (rngOf (fun g => { g with inst := [] }) ready) (fun r c => r.inp == [] && !c.d.rng.failed && !rngServing c.d) = true ∧
     reached .nonceGet q ready (fun r c => r.inp == [] && rngServing c.d && decide (r.m < 256)) = true ∧
     reachedSpdm .nonceGet (spdmAsks []) (withSpdm ready) (fun r c => r.inp == [] && rngServing c.d && decide (256 ≤ r.m)) = true) ∧
    reached .hifPolicySet (devSigns (le 4 0)) ready (fun r _ => r.inp.length == 4 && leAt r.inp 0 4 == 0) = true ∧
    reached .hifPolicySet { devSigns (le 4 1) with ide := true } ready (fun r _ => leAt r.inp 0 4 == 1 && r.q.ide) = true ∧
    reached .hifPolicySet (devSigns (le 4 1)) ready (fun r _ => leAt r.inp 0 4 == 1 && !r.q.ide) = true ∧
    reached .hifPolicySet (devSigns (le 4 2)) ready (fun r _ => r.inp.length == 4 && decide (1 < leAt r.inp 0 4)) = true ∧
    (let at_ := fun v f => reached (.rngSelfTest f) (devAsks (le 4 v)) ready (fun r _ => r.inp.length == 4 && decide (leAt r.inp 0 4 ≤ 3))
     reached (.rngSelfTest 0) (devAsks (le 4 4)) ready (fun r _ => r.inp.length == 4 && decide (3 < leAt r.inp 0 4)) = true ∧
     reached .timeSet (devAsks (le 8 (2 ^ 63))) ready (fun r _ => r.inp.length == 8 && bitAt (leAt r.inp 0 8) 63) = true ∧
     reached .rngRawSample (devAsks [6, 0, 0, 0]) ready (fun r _ => r.inp.length == 4 && leAt r.inp 0 1 == 6) = true ∧
     reached .rngRawSample (devAsks [0, 2, 0, 0]) ready (fun r _ => r.inp.length == 4 && leAt r.inp 1 1 == 2) = true ∧
     at_ 0 0 = true ∧ at_ 3 0 = true ∧ at_ 1 1 = true ∧ at_ 2 2 = true ∧ 1 % 2 * (1 % 2) = 1 ∧ 2 / 2 * (2 / 2 % 2) = 1) ∧
    (let q := { devAsks [5, 1, 0, 0] with outCap := 16777216 }
     reached .rngRawSample q ready (fun r c => r.inp.length == 4 && zeroFrom r.inp 2 4 && decide (leAt r.inp 0 1 < 6)
       && decide (leAt r.inp 1 1 ≤ 1) && decide (rawLen (leAt r.inp 1 1) ≤ r.q.outCap) && c.d.rng.raw == none) = true ∧
     reached .rngRawSample q (rngOf (fun g => { g with raw := some { mailbox := 1, source := 0, mode := 0 } }) ready)
       (fun _ c => c.d.rng.raw.isSome) = true) := by
  decide +kernel

theorem test_time_is_set :
    (nextOf (exec (.timeSet (devAsks (le 8 1000))) ready)).map (fun t => (t.dev.sys.time, t.dev.sys.epoch)) = some (1000, true) := by
  decide +kernel

/-! ## Sessions and Officers -/

/-- The 1,672-byte body of `SESSION_OPEN` for Officer 1. -/
def openBody : List Byte := fit [1, 0, 0, 0, 4] 1672

/-- Opened by one signature over the mailbox's nonce. -/
def opens : MbReq :=
  { mailbox := 0, scope := 0xFFFF, reqId := 1, bodyLen := 1672 + 104, quorumLen := 104, outCap := 1568, outAddr := 0x40000,
    input := openBody, quorum := [⟨1, 1, 96, true⟩], nonce := List.replicate 32 7, qseq := 3 }

theorem witness_sessions :
    (let p := fun (r : Req) (c : Cx) => decide (r.m < 256) && r.inp.length == 1672 && zeroFrom r.inp 1 4 && zeroFrom r.inp 0x65 0x68
       && leAt r.inp 4 1 == 4 && decide (1568 ≤ r.q.outCap) && decide (c.d.mg.sessions.length < 64)
     reached (.sessionOpen true true) opens ready (fun r c => p r c && rngServing c.d) = true ∧
     reached (.sessionOpen true true) opens { ready with dev := modRng (fun g => { g with inst := [] }) ready.dev }
       (fun r c => p r c && !c.d.rng.failed && !rngServing c.d) = true ∧
     reached (.sessionOpen false true) opens ready p = true) ∧
    (let q : MbReq := { spdmAsks [1, 0, 0, 0] with
       bodyLen := 108, quorumLen := 104, quorum := [⟨1, 1, 96, true⟩], nonce := List.replicate 32 9 }
     reachedSpdm (.sessionOpen true true) q (withSpdm ready) (fun r _ => decide (256 ≤ r.m) && r.inp.length == 4 && zeroFrom r.inp 1 4) = true) ∧
    reached .sessionClose (devAsks []) ready (fun r c => r.inp == [] && decide (r.m < 256) && (Tab.find c.d.mg.sessions r.q.session).isSome
      && r.q.session != 0 && (mailboxOf c.d r.m).cur == some (.sessionClose, r.q)) = true ∧
    reachedSpdm .sessionClose (spdmAsks []) (withSpdm ready) (fun r c => r.inp == [] && decide (256 ≤ r.m)
      && ((Tab.find c.d.hif.spdm (r.m - 256)).bind (·.bound)).isSome) = true ∧
    (Tab.find ready.dev.mg.sessions 1).isSome = true ∧ (∀ e ∈ ready.dev.mg.boxes, e.2.state ≠ .busy) ∧
    (let s : State := { ready with dev := modBox 0 (fun b => { b with state := .busy, cur := some (.devInfo, devAsks []) }) ready.dev }
     (Tab.find s.dev.mg.sessions 1).isSome = true ∧ s.dev.mg.boxes.any (fun e => e.2.state == .busy && e.2.cur.any (fun x => x.2.session == 1)) = true) := by
  decide +kernel

/-- The premises of an Officer command's authority. -/
def authB (n : Nat) (c : Cx) : Bool := decide (n = 0xFFFF ∨ (n < 4096 ∧ (sliceOf c.d n).state ≠ .free ∧ (sliceOf c.d n).state ≠ .frozen))

/-- Two ECDSA keys of 97 bytes for Officers 3 and 4, with k left as it is. -/
def enrolment (k : Nat) : List Byte :=
  [2, byteOf k, 0, 0] ++ [3, 1] ++ le 2 97 ++ (4 :: List.replicate 96 1) ++ [4, 1] ++ le 2 97 ++ (4 :: List.replicate 96 2)

theorem witness_officer_sets :
    (let good := fun (n : Nat) (inp _dat : List Byte) (c : Cx) =>
       let o := officersOf c.d n
       let most := if n = 0xFFFF then 16 else 8
       (match parseEntries (most - 1) (leAt inp 0 1) (inp.drop 4) with
         | some es => authB n c && decide (4 ≤ inp.length) && zeroFrom inp 2 4 && decide (1 ≤ leAt inp 0 1) && decide (leAt inp 0 1 ≤ most) &&
             rising (es.map (·.index)) && es.all (fun e => o.members.all (fun x => x.index != e.index)) && decide (2 ≤ orDefault (leAt inp 1 1) o.k) &&
             decide (orDefault (leAt inp 1 1) o.k ≤ (es.foldl (fun l e => insertOfficer e l) o.members).length) &&
             (!o.members.isEmpty || leAt inp 1 1 != 0)
         | none => false)
     (∀ x ∈ [KeyVerdict.good, .good].take 2, x = .good) ∧
     mirrored (.officerEnroll [.good, .good]) (fiveSigns (enrolment 0)) (five (fun x => { x with per := { x.per with
       officers := { k := 2, members := [⟨1, 1, []⟩, ⟨2, 1, []⟩] } } }) ready) good = true ∧
     mirrored (.officerEnroll [.good, .good]) (openly (enrolment 2)) (State.with (fun d => { d with mg := { d.mg with officers := {} } }) ready) good
       = true) ∧
    (let good := fun (n : Nat) (inp _dat : List Byte) (c : Cx) =>
       let o := officersOf c.d n
       let left := o.members.filter (fun x => !bitAt (leAt inp 0 2) x.index)
       authB n c && inp.length == 4 && zeroFrom inp 2 4 &&
         (List.range 16).all (fun i => !bitAt (leAt inp 0 2) i || o.members.any (fun x => x.index == i)) && decide (2 ≤ left.length) &&
         decide (o.k ≤ left.length)
     mirrored .officerRemove (devSigns [8, 0, 0, 0]) ready good = true ∧ mirrored .officerRemove (fiveSigns [8, 0, 0, 0]) ready good = true) ∧
    (let good := fun (n : Nat) (inp _dat : List Byte) (c : Cx) => authB n c && inp.length == 4 && zeroFrom inp 1 4 && decide (2 ≤ leAt inp 0 1) &&
       decide (leAt inp 0 1 ≤ (officersOf c.d n).members.length)
     mirrored .quorumSet (devSigns [3, 0, 0, 0]) ready good = true ∧ mirrored .quorumSet (fiveSigns [2, 0, 0, 0]) ready good = true) ∧
    reached .officerList (devAsks []) ready (fun r _ => r.inp == [] && r.q.scope == 0xFFFF) = true ∧
    reached .officerList (fiveAsks []) ready (fun r _ => r.inp == [] && decide (r.q.scope < 4096)) = true := by
  decide +kernel

/-! ## Slices -/

/-- Slice 5 in a state. -/
def inStateOf (st : SliceState) : State := five (fun x => { x with state := st }) ready

theorem witness_slice_requests :
    (let is := fun st (r : Req) (c : Cx) => r.inp == [] && r.q.scope == 5 && (sliceOf c.d 5).state == st
     let quiesces := fun st => reached .sliceQuiesce (devAsksFor 5 []) (inStateOf st) (is st)
     quiesces .quiesced = true ∧ quiesces .frozen = true ∧ quiesces .free = true ∧ quiesces .bound = true ∧ quiesces .error = true ∧
     reached .sliceQuiesce (devAsksFor 5 []) ready (fun r c => is .active r c && (sliceOf c.d 5).drain == none) = true ∧
     reached .sliceQuiesce (devAsksFor 5 []) (five (fun x => { x with drain := some { mailboxes := [1] } }) ready)
       (fun r c => is .active r c && (sliceOf c.d 5).drain.isSome) = true ∧
     reached .sliceFreeze (devAsksFor 5 []) (inStateOf .quiesced) (is .quiesced) = true ∧
     reached .sliceFreeze (devAsksFor 5 []) ready (is .active) = true) ∧
    (let resumes := fun st v saved => reached .sliceResume (devAsksFor 5 (le 4 v)) (five (fun x => { x with saved }) (inStateOf st))
       (fun r c => r.inp.length == 4 && leAt r.inp 0 4 == v && decide (v ≤ 1) && (sliceOf c.d 5).state == st && (sliceOf c.d 5).saved == saved)
     resumes .quiesced 0 false = true ∧ resumes .frozen 0 false = true ∧ resumes .frozen 1 true = true ∧ resumes .frozen 0 true = true ∧
     resumes .bound 0 false = true ∧ resumes .active 1 false = true) ∧
    reached .sliceStatus (devAsksFor 5 []) ready (fun r _ => r.inp == []) = true ∧
    (let p := fun (r : Req) (c : Cx) => r.inp.length == 4 && (sliceOf c.d 5).state == .frozen && (sliceOf c.d 5).per.migratable
     reached .sliceSave (devAsksFor 5 (le 4 1)) (inStateOf .frozen) (fun r c => p r c && migOf c.d .outgoing (leAt r.inp 0 4) none == none) = true ∧
     reached .sliceSave (devAsksFor 5 (le 4 1)) (keyedFor .outgoing (inStateOf .frozen)) (fun r c => p r c
       && (migOf c.d .outgoing (leAt r.inp 0 4) none).isSome
       && decide (64 + (((sections c.d 5).map (fun x => section8 x.1 x.2)).flatten).length + 16 ≤ r.q.outCap) && rngServing c.d) = true) := by
  decide +kernel

/-- The body of an image of a slice with the default attributes. -/
def imageBody : List Byte :=
  ((sections { slices := [(6, { per := { migratable := true } })] } 6).map (fun x => section8 x.1 x.2)).flatten

/-- An image of that slice, from device 9 under key identifier 1, its tag unshown. -/
def imageInput : List Byte :=
  le 4 0x77 ++ text "PGFERRY1" ++ le 2 1 ++ le 2 6 ++ le 2 4 ++ le 2 0 ++ le 8 9 ++ le 8 0 ++ le 4 1 ++ le 4 imageBody.length ++ le 8 0
    ++ List.replicate 12 0 ++ le 4 0 ++ imageBody ++ List.replicate 16 0

theorem witness_slices_are_mirrored :
    mirrored .sliceCreate (devAsksFor 6 (le 4 0x77 ++ List.replicate 16 0)) ready (fun n inp _ c =>
      let fl := leAt inp 16 1
      let quota := orDefault (leAt inp 4 2) 16
      let guar := if bitAt fl 1 then leAt inp 8 4 else orDefault (leAt inp 8 4) 16
      let ceil := orDefault (leAt inp 12 4) 4096
      let fly := orDefault (leAt inp 6 2) 512
      decide (n < 4096 ∧ inp.length = 20 ∧ zeroFrom inp 17 20 = true ∧ pasidOk (leAt inp 0 4) = true ∧ quota ≤ 4096 ∧ 16 ≤ fly ∧ fly ≤ 4096 ∧
        guar ≤ 4096 ∧ (bitAt fl 1 = true → guar = 0) ∧ 16 ≤ ceil ∧ ceil ≤ 131072 ∧ guar ≤ ceil ∧ fl < 8 ∧
        (sliceOf c.d n).state = .free ∧ pasidTaken c.d n (leAt inp 0 4) = false ∧ flowTotal c.d n + quota ≤ 65536 ∧
        guarTotal c.d n + guar ≤ 65536)) = true ∧
    (let binds := fun st => mirrored .sliceBind (devAsksFor 5 (le 4 0x77)) (inStateOf st) (fun n inp _ c =>
       decide (n < 4096 ∧ inp.length = 4 ∧ pasidOk (leAt inp 0 4) = true ∧ pasidTaken c.d n (leAt inp 0 4) = false ∧
      ((sliceOf c.d n).state = .bound ∨ (sliceOf c.d n).state = .quiesced ∨ (sliceOf c.d n).state = .frozen)))
     binds .bound = true ∧ binds .quiesced = true ∧ binds .frozen = true) ∧
    (let sets := fun lg a => mirrored .sliceRingSetup (devAsksFor 5 ([7, byteOf lg] ++ List.replicate 6 0 ++ le 8 a ++ le 8 a)) (inStateOf .bound)
       (fun n inp _ c =>
        let lg := leAt inp 1 1
        decide (n < 4096 ∧ inp.length = 24 ∧ zeroFrom inp 2 8 = true ∧ leAt inp 0 1 ≤ 7 ∧ (lg = 0 ∨ (6 ≤ lg ∧ lg ≤ 16)) ∧
        leAt inp 8 8 % 4096 = 0 ∧ leAt inp 16 8 % 4096 = 0 ∧ (lg = 0 → leAt inp 8 8 = 0 ∧ leAt inp 16 8 = 0) ∧
        (lg ≠ 0 → leAt inp 8 8 + 128 * 2 ^ lg ≤ 2 ^ 64 ∧ leAt inp 16 8 + 64 * 2 ^ lg ≤ 2 ^ 64) ∧ (sliceOf c.d n).state = .bound))
     sets 0 0 = true ∧ sets 6 0x10000 = true ∧ sets 16 (2 ^ 64 - 128 * 65536) = true) ∧
    mirrored .sliceActivate (devAsksFor 5 []) (inStateOf .bound) (fun n inp _ c =>
      decide (n < 4096 ∧ inp = [] ∧ (sliceOf c.d n).state = .bound ∧ configured (sliceOf c.d n) ≠ [])) = true ∧
    (let sets := fun v => mirrored .slicePolicySet (devAsksFor 5 (le 2 1 ++ le 2 v)) ready (fun n inp _ c =>
       thawedB n c && decide (inp.length = 4 ∧ leAt inp 0 2 ≤ 1 ∧ 16 ≤ orDefault (leAt inp 2 2) 512 ∧ orDefault (leAt inp 2 2) 512 ≤ 4096))
     sets 0 = true ∧ sets 16 = true ∧ sets 4096 = true) ∧
    mirrored .tenantPolicySet (fiveSigns (le 4 7)) ready (fun n inp _ c => thawedB n c && decide (inp.length = 4 ∧ leAt inp 0 4 < 8)) = true ∧
    (let resets := fun st => mirrored .sliceReset (devAsksFor 5 []) (inStateOf st) (fun n inp _ c =>
       decide (n < 4096 ∧ inp = [] ∧ inflight (sliceOf c.d n) = 0 ∧ ((sliceOf c.d n).state = .quiesced ∨
      (sliceOf c.d n).state = .frozen ∨ ((sliceOf c.d n).state = .error ∧ (sliceOf c.d n).per.sound = true))))
     resets .quiesced = true ∧ resets .frozen = true ∧ resets .error = true) ∧
    (let removes := fun st => mirrored .sliceRemove (devAsksFor 5 []) (inStateOf st) (fun n inp _ c =>
       decide (n < 4096 ∧ inp = [] ∧ inflight (sliceOf c.d n) = 0 ∧ ((sliceOf c.d n).state = .quiesced ∨
      (sliceOf c.d n).state = .frozen ∨ (sliceOf c.d n).state = .error)))
     removes .quiesced = true ∧ removes .frozen = true ∧ removes .error = true) := by
  decide +kernel

theorem witness_slice_restored :
    mirrored (.sliceRestore imageBody true) (devAsksFor 6 imageInput) (keyedFor .incoming ready) (fun n inp _ c =>
      match migOf c.d .incoming (leAt inp 36 4) (some (leAt inp 20 8)), parseImage (leAt inp 0 4) (leAt inp 16 2) (fit imageBody (leAt inp 40 4)) with
      | some _, some (p, flows) =>
        decide (n < 4096 ∧ imageFormOk { force := false, scope := n, inp := inp } = true ∧ leAt inp 28 8 = c.d.sys.serial ∧
          pasidOk (leAt inp 0 4) = true ∧ pasidTaken c.d n (leAt inp 0 4) = false ∧ flows ≤ p.flowQuota ∧ flowTotal c.d n + p.flowQuota ≤ 65536 ∧
          guarTotal c.d n + p.cacheGuar ≤ 65536 ∧ (sliceOf c.d n).state = .free)
      | _, _ => false) = true := by
  decide +kernel

/-! ## Master keys, curves and slots through the mailboxes -/

/-- Slice 5 with components staged for its generations 0 and 1, by Officers 1 and 2. -/
def stagedFive (l : List (Nat × Nat × Nat)) (s : State) : State :=
  five (fun x => { x with staged := l.map (fun e => ⟨e.1, e.2.1, e.2.2, List.replicate (lmkLen e.2.1) (byteOf (e.2.2 + 0x10))⟩) }) s

/-- A component for a generation and part. -/
def component (g part fl : Nat) : List Byte := [byteOf g, byteOf part, byteOf fl, 0] ++ List.replicate (lmkLen part) 0x55 ++ List.replicate (32 - lmkLen part) 0

theorem witness_components_and_slots :
    (let loads := fun g part fl s (p : Req → Cx → Bool) => reached .lmkComponentLoad (fiveAsks (component g part fl)) s (fun r c => r.q.scope == 5
       && (sliceOf c.d 5).state != .free && r.inp.length == 36 && leAt r.inp 0 1 == g && leAt r.inp 1 1 == part && decide (g < 4) && decide (part < 2)
       && decide (leAt r.inp 2 1 < 2) && zeroFrom r.inp 3 4 && (part == 0 || zeroFrom r.inp 28 36) && p r c)
     let room := fun g part (_ : Req) (c : Cx) => lmkPart (lmkOf (sliceOf c.d 5).per g) part == none && (part == 0 || (lmkOf (sliceOf c.d 5).per g).aes.isSome)
     let s := keyed [kekA]
     loads 0 0 0 s (fun _ c => (lmkPart (lmkOf (sliceOf c.d 5).per 0) 0).isSome) = true ∧
     loads 3 0 0 s (room 3 0) = true ∧
     loads 1 1 1 (five (fun x => { x with per := { x.per with lmk := [{}, { aes := some (List.replicate 32 1) }] } }) s) (room 1 1) = true ∧
     loads 1 0 0 (stagedFive [(1, 0, 1)] s) (fun r c => room 1 0 r c && r.officer == 1 && (sliceOf c.d 5).staged.any (fun x => x.officer == r.officer)) = true ∧
     loads 1 0 0 (stagedFive [(2, 0, 1), (2, 0, 2), (2, 0, 3), (2, 0, 4), (3, 0, 1), (3, 0, 2), (3, 0, 3), (3, 0, 4)] s)
       (fun r c => room 1 0 r c && decide (8 ≤ (sliceOf c.d 5).staged.length)) = true) ∧
    reached .lmkInfo (fiveAsks [0]) (keyed []) (fun r _ => r.inp.length == 1 && decide (leAt r.inp 0 1 < 4)) = true ∧
    (let deletes := fun k s (p : Option Status → Bool) => reached .slotDelete (fiveAsks [byteOf k, 0, 0, 0]) s (fun r c => r.q.scope == 5 && thawedB 5 c
       && decide (leAt r.inp 0 1 < 64) && r.inp.length == 4 && zeroFrom r.inp 1 4 && p (slotCheck c.d 5 (.slotDelete (leAt r.inp 0 1))))
     deletes 0 (keyed [dataKey]) (fun x => x == none) = true ∧ deletes 63 (keyed [dataKey]) (fun x => x.isSome) = true) ∧
    reached .slotImport (fiveAsks ([9, 0, 1, 0] ++ exampleBlock)) (job [kekA] (jobOf [])) (fun r c =>
      r.q.scope == 5 && thawedB 5 c && (match blockExtent r.inp 4 with
        | .ok t => t.length + 4 == r.inp.length
        | .error _ => false) && decide (leAt r.inp 0 1 < 64) && decide (leAt r.inp 1 1 < 2) && decide (leAt r.inp 2 1 ≤ 1) && zeroFrom r.inp 3 4
        && thenOk (lookup (cpCtx 5) (2 ^ 60 + 5 * 2 ^ 48 + 4) r.inp [1] (needs (fun a => !asymmetric a.alg))) c.d (fun k d =>
          slotFits k.key && slotCheck d 5 (.slotWrite (leAt r.inp 0 1) k.key (ceilingOf k.key.attr) (bitAt (leAt r.inp 1 1) 0)) == none)) = true := by
  decide +kernel

/-- A curve of 256 bits: its six parameters are the manual's to check, by the verdict. -/
def curveBody : List Byte := [3, 1, 32, 0] ++ List.replicate 192 0xFF ++ [1]

/-- A token that passes, for generation 1 of slice 5. -/
def goodToken : TokenVerdict := { random := List.replicate 32 7, key := List.replicate 32 0x77 }

theorem witness_master_keys_and_curves :
    (let commits := fun (chk : List Byte) => mirrored .lmkCommit (fiveSigns ([1, 0, 2, 0] ++ chk)) (stagedFive [(1, 0, 1), (1, 0, 2)] ready)
       (fun n inp dat c =>
        let g := leAt inp 0 1
        let part := leAt inp 1 1
        let staged := (stagedFor (sliceOf c.d n) g part).length
        thawedB n c && inp.length == 9 && decide (g < 4) && decide (part < 2) && zeroFrom inp 3 4 && decide (2 ≤ staged) && staged == leAt inp 2 1 &&
          (zeroFrom inp 4 9 || slice8 inp 4 5 == lmkCheck part dat) && (part == 0 || dat.take 8 != (dat.drop 8).take 8))
     commits [0, 0, 0, 0, 0] = true ∧ commits (lmkCheck 0 (List.replicate 32 0x03)) = true) ∧
    mirrored .lmkActivate (fiveSigns [0]) (keyed []) (fun n inp _ c =>
      thawedB n c && inp.length == 1 && decide (leAt inp 0 1 < 4) && (lmkOf (sliceOf c.d n).per (leAt inp 0 1)).aes.isSome) = true ∧
    mirrored .lmkRemove (fiveSigns [1]) (keyed []) (fun n inp _ c =>
      thawedB n c && inp.length == 1 && decide (leAt inp 0 1 < 4) && (sliceOf c.d n).per.lmkActive != some (leAt inp 0 1)) = true ∧
    mirrored (.lmkTr34Load goodToken) (fiveSigns [1, 0, 0, 0, 0x30])
      (five (fun x => { x with per := { x.per with krd := some [1], anchor := some [1] } }) ready) (fun n inp dat c =>
        let g := leAt inp 0 1
        let part := leAt inp 1 1
        thawedB n c && decide (5 ≤ inp.length) && decide (inp.length ≤ 16388) && decide (g < 4) && decide (part < 2) && decide (leAt inp 2 1 < 2) &&
          zeroFrom inp 3 4 && lmkPart (lmkOf (sliceOf c.d n).per g) part == none && (part == 0 || (lmkOf (sliceOf c.d n).per g).aes.isSome) &&
          dat != []) = true ∧
    mirrored (.krdInit []) (fiveAsks []) ready (fun n inp _ c => thawedB n c && inp == []) = true ∧
    mirrored (.anchorSet true) (fiveSigns [0x30]) ready (fun n inp _ c => thawedB n c && inp != [] && decide (inp.length ≤ 4096)) = true ∧
    mirrored (.curveLoad .good) (fiveSigns curveBody) ready (fun n inp _ c =>
      let l := leAt inp 2 1
      let w := bitLen (beNat ((slice8 inp 4 (6 * l)).take l))
      thawedB n c && decide (inp.length = 5 + 6 * l ∧ leAt inp 0 1 < 4 ∧ leAt inp 1 1 = 1 ∧ 32 ≤ l ∧ l ≤ 66 ∧ zeroFrom inp 3 4 = true ∧ 256 ≤ w ∧
        w ≤ 521 ∧ l = (w + 7) / 8 ∧ leAt inp (4 + 6 * l) 1 = 1)) = true ∧
    mirrored .curveClear (fiveSigns [3, 0, 0, 0]) ready (fun n inp _ c =>
      thawedB n c && decide (inp.length = 4 ∧ leAt inp 0 1 < 4 ∧ leAt inp 1 1 = 0 ∧ zeroFrom inp 2 4 = true)) = true ∧
    reached (.lmkTr34Load { ok := false }) (fiveSigns [1, 0, 0, 0, 0x30]) ready (fun r c =>
      thawedB r.q.scope c && decide (5 ≤ r.inp.length) && decide (r.inp.length ≤ 16388) && decide (leAt r.inp 0 1 < 4) && decide (leAt r.inp 1 1 < 2) &&
        decide (leAt r.inp 2 1 < 2) && zeroFrom r.inp 3 4 && lmkPart (lmkOf (sliceOf c.d r.q.scope).per (leAt r.inp 0 1)) (leAt r.inp 1 1) == none) = true := by
  decide +kernel

/-! ## Migration keys, the log and the counters through the mailboxes -/

/-- Every entry of the migration key table taken. -/
def migFull (s : State) : State :=
  State.with (fun d => { d with mg := { d.mg with migration := (List.range 16).map (fun k => (k, { keyId := k, role := .offered })) } }) s

/-- A migration message for a mode, from device 9 under key identifier 1, with no certificate in its chain. -/
def migInput (mode : Nat) : List Byte :=
  [byteOf mode, 0, 0, 0] ++ le 4 1 ++ le 8 9 ++ (4 :: List.replicate 96 1) ++ List.replicate 1568 2 ++ le 2 0 ++ List.replicate 96 3

theorem witness_migration_keys :
    reached .migOffer (devAsks [0, 0, 0, 0]) ready (fun _ c => c.d.sys.lc != 1) = true ∧
    (let offers := fun s (p : Cx → Bool) => reached .migOffer (devAsks [0, 0, 0, 0]) s (fun r c => c.d.sys.lc == 1 && r.inp == [0, 0, 0, 0]
       && r.q.outCap == 65536 && p c)
     offers (closed (migFull ready)) (fun c => freeMig c.d == none) = true ∧
     offers (closed ready) (fun c => (freeMig c.d).isSome && rngServing c.d) = true) ∧
    (let p := fun (r : Req) (c : Cx) => c.d.sys.lc == 1 && leAt r.inp 0 1 == 1
     let accepts := fun inp s (p : Req → Cx → Bool) => reached (.migAccept {}) (devAsks inp) s p
     accepts [1, 0, 0, 0] (closed ready) (fun r c => p r c && !migFormOk r) = true ∧
     accepts (migInput 1) (closed ready) (fun r c => p r c && migFormOk r && leAt (r.inp.drop 4) 4 8 != c.d.sys.serial && r.q.outCap == 65536
       && (freeMig c.d).isSome && rngServing c.d) = true ∧
     reached (.migAccept { chainOk := false }) (devAsks (migInput 1)) (closed ready) (fun r c => p r c && migFormOk r) = true) ∧
    (let completes := fun v s (p : Req → Cx → Bool) => reached (.migComplete v) (devAsks (migInput 2)) s (fun r c => c.d.sys.lc == 1
       && leAt r.inp 0 1 == 2 && migFormOk r && p r c)
     completes { pointOk := false } (closed ready) (fun _ _ => true) = true ∧
     completes {} (closed ready) (fun r c => migOf c.d .offered (leAt (r.inp.drop 4) 0 4) none == none) = true ∧
     completes {} (closed (keyedFor .offered ready)) (fun r c => (migOf c.d .offered (leAt (r.inp.drop 4) 0 4) none).isSome) = true) := by
  decide +kernel

/-- The reply of `witness_migration_keys` fits, whatever the chain holds. -/
theorem witness_migration_output (r : Req) (h : r.q.outCap = 65536) : 1679 + (slotChain 1).length + 96 ≤ r.q.outCap := by
  rw [h]; unfold slotChain; simp only [List.length_take]; omega

theorem witness_log_requests :
    (let reads := fun inp (p : Req → Cx → Bool) => reached .logRead { devAsks inp with outCap := 64 } ready (fun r c => r.inp.length == 16 && p r c)
     reads (le 4 0 ++ le 4 2 ++ le 8 0) (fun r c => logReadOk r.inp && decide (32 * leAt r.inp 4 4 ≤ r.q.outCap)
       && decide ((readLog c.d.sys.cpUp (leAt r.inp 0 1) (leAt r.inp 4 4) (leAt r.inp 8 8) c.d).1.length ≤ r.q.outCap)) = true ∧
     reads (le 4 2 ++ le 4 2 ++ le 8 0) (fun r _ => !logReadOk r.inp) = true ∧
     reads (le 4 1 ++ le 4 3 ++ le 8 0) (fun r _ => logReadOk r.inp && decide (r.q.outCap < 32 * leAt r.inp 4 4)) = true) ∧
    reached .logClear (devSigns [0, 0, 0, 0]) ready (fun r c => r.inp == [0, 0, 0, 0]
      && decide (max c.d.log.clearMark (nextSeq c.d - 262144) < nextSeq c.d)) = true ∧
    reached .logClear (devSigns [0, 0, 0, 0]) (State.with (fun d => { d with log := { d.log with clearMark := 500 } }) ready)
      (fun _ c => decide (nextSeq c.d ≤ max c.d.log.clearMark (nextSeq c.d - 262144))) = true ∧
    (let odd := fun rate burst => reached .logRateSet (devAsks (le 2 0x3004 ++ le 2 rate ++ le 2 burst ++ [0, 0])) ready
       (fun r _ => r.inp.length == 8 && zeroFrom r.inp 6 8 && (decide (4096 < leAt r.inp 2 2) || decide (4096 < leAt r.inp 4 2)
         || (leAt r.inp 2 2 == 0) != (leAt r.inp 4 2 == 0)))
     odd 4097 1 = true ∧ odd 1 4097 = true ∧ odd 0 1 = true) ∧
    (let sets := fun code rate burst (p : Nat → Nat → Bool) => reached .logRateSet (devAsks (le 2 code ++ le 2 rate ++ le 2 burst ++ [0, 0])) ready
       (fun r _ => r.inp.length == 8 && zeroFrom r.inp 6 8 && decide (leAt r.inp 2 2 ≤ 4096) && decide (leAt r.inp 4 2 ≤ 4096)
         && (leAt r.inp 2 2 == 0) == (leAt r.inp 4 2 == 0) && p (leAt r.inp 0 2) (leAt r.inp 2 2))
     sets 0x2000 0 0 (fun code _ => !rateLimited code) = true ∧ sets 0x3004 4096 4096 (fun code rate => rateLimited code && rate != 0) = true ∧
     sets 0x3004 0 0 (fun code rate => rateLimited code && rate == 0) = true) := by
  decide +kernel

/-- Counter 7 granted to slice 5 as its counter 2. -/
def counter7 : Ctr := { value := 3, event := 0x1101, eventMask := 0xFFFF, priv := 1, sliceEn := true, slice := 5, grant := some (5, 2) }
def granted (s : State) : State := State.with (fun d => { d with ctr := { d.ctr with ctr := [(7, counter7)] } }) s

/-- The input of `CTR_SELECT` for counter 7: flags, event and mask. -/
def selection (fl ev mask : Nat) : List Byte :=
  le 2 7 ++ [byteOf fl, 7] ++ le 2 ev ++ le 2 mask ++ le 2 0 ++ le 2 0 ++ le 2 5 ++ [0, 0] ++ le 8 0x1000 ++ le 4 1 ++ [0, 0, 0, 0]

theorem witness_counter_requests :
    (let selects := fun fl ev mask s (p : List Nat → Ctr → Bool) => reached .ctrSelect (devAsks (selection fl ev mask)) s (fun r c =>
       r.inp.length == 32 && decide (leAt r.inp 0 2 < 256) && decide (leAt r.inp 2 1 < 16) && decide (1 ≤ leAt r.inp 3 1) && decide (leAt r.inp 3 1 < 8)
       && decide (leAt r.inp 8 2 < 1024) && decide (leAt r.inp 10 2 < 1024) && decide (leAt r.inp 12 2 < 4096) && zeroFrom r.inp 14 16
       && zeroFrom r.inp 29 32 && p (admitted (leAt r.inp 4 2) (leAt r.inp 6 2)) (ctrOf c.d (leAt r.inp 0 2)))
     selects 1 0xFFFF 0xFFFF ready (fun evs _ => evs == []) = true ∧
     selects 15 0x4000 0xF000 ready (fun evs old => evs != [] && evs.all (fun e => e / 4096 == 4) && old.grant == none) = true ∧
     selects 1 0x2000 0xFFFF (granted ready) (fun evs old => evs != [] && old.grant.isSome && evs.all carriesSlice) = true ∧
     selects 1 0x5000 0xFFFF (granted ready) (fun evs old => evs != [] && old.grant.isSome && evs.any (fun e => !carriesSlice e)) = true) ∧
    (let reads := fun first n op s => reached .ctrRead (devAsks (le 2 first ++ [byteOf n, byteOf op])) s (fun r _ => r.inp.length == 4
       && decide (1 ≤ leAt r.inp 2 1) && decide (leAt r.inp 2 1 ≤ 251) && decide (leAt r.inp 0 2 + leAt r.inp 2 1 ≤ 256) && leAt r.inp 3 1 == op)
     reads 5 251 0 ready = true ∧ reads 255 1 1 (granted ready) = true) ∧
    (let sets := fun addr slots period (p : Req → Bool) => reached .ctrDumpSet (devAsks (le 8 addr ++ le 4 slots ++ le 4 period ++ le 4 1)) ready
       (fun r _ => r.inp.length == 20 && leAt r.inp 0 8 % 64 == 0 && decide (2 ≤ leAt r.inp 8 4) && decide (leAt r.inp 8 4 ≤ 65536)
         && (leAt r.inp 12 4 == 0 || decide (10 ≤ leAt r.inp 12 4)) && decide (leAt r.inp 12 4 ≤ 10000000) && decide (leAt r.inp 16 4 ≤ 1) && p r)
     sets (2 ^ 64 - 64) 2 10 (fun r => decide (2 ^ 64 < leAt r.inp 0 8 + 2240 * leAt r.inp 8 4)) = true ∧
     sets 0 65536 10000000 (fun r => decide (leAt r.inp 0 8 + 2240 * leAt r.inp 8 4 ≤ 2 ^ 64)) = true ∧ sets 64 2 0 (fun r => leAt r.inp 12 4 == 0) = true) ∧
    (let sets := fun m => reached .bwmonSet (devAsks ([byteOf m, 1, 0, 0] ++ le 4 1000000)) ready (fun r _ => r.inp.length == 8 && zeroFrom r.inp 2 4
       && decide (leAt r.inp 1 1 ≤ 1) && decide (leAt r.inp 4 4 ≤ 1000000) && leAt r.inp 0 1 == m)
     sets 7 = true ∧ sets 0xFF = true ∧ sets 8 = true) ∧
    (let grants := fun n m s (p : Ctr → Cx → Bool) => reached .ctrGrant (devAsks (le 2 n ++ le 2 m ++ [7, 0])) s (fun r c => r.inp.length == 6
       && leAt r.inp 5 1 == 0 && decide (leAt r.inp 0 2 < 256) && decide (leAt r.inp 2 2 < 4096) && decide (leAt r.inp 4 1 < 8)
       && p (ctrOf c.d (leAt r.inp 0 2)) c)
     let free := fun (x : Ctr) (c : Cx) => x.grant == none && c.d.ctr.ctr.all (fun e => e.2.grant != some (5, 7))
       && (admitted x.event x.eventMask).all carriesSlice
     let s := State.with (fun d => { d with ctr := { d.ctr with ctr := [(8, { event := 0x1101, eventMask := 0xFFFF })] ++ d.ctr.ctr } }) (granted ready)
     grants 7 5 s (fun x _ => x.grant.isSome) = true ∧ grants 8 5 s (fun x c => free x c && (sliceOf c.d 5).state != .free) = true ∧
     grants 8 4095 s (fun x c => free x c && (sliceOf c.d 4095).state == .free) = true) ∧
    reached .ctrRevoke (devAsks (le 2 7 ++ [0, 0])) (granted ready) (fun r _ => r.inp.length == 4 && zeroFrom r.inp 2 4 && decide (leAt r.inp 0 2 < 256)) = true := by
  decide +kernel

theorem test_a_granted_counter_is_read_and_kept :
    (nextOf (exec (.ctrRead (devAsks (le 2 7 ++ [1, 1]))) (granted ready))).map (fun t => (ctrOf t.dev 7).value) = some 3 := by
  decide +kernel

/-! ## Tamper, life cycle, firmware and pair through the mailboxes -/

/-- Goose changed. -/
def goose (f : Goose → Goose) (s : State) : State := { s with dev := modGoose f s.dev }

/-- The fuses changed. -/
def fused (f : Fuses → Fuses) (s : State) : State := { s with fuse := f s.fuse }

/-- A device without slices. -/
def emptied (s : State) : State := State.with (fun d => { d with slices := [] }) s

/-- An owner-root authorisation block that verifies. -/
def ownerBlk : OwnerBlk := { len := 7416, tagOk := true, digest := 5, ecdsaOk := true, mldsaOk := true }

theorem witness_tamper_requests :
    reached .tamperStatus (devAsks []) ready (fun r _ => r.inp == []) = true ∧
    (let unlocks := fun f (p : Goose → Bool) => reached .tamperUnlock (devSigns []) (goose f ready) (fun r c => r.inp == [] && p c.d.goose)
     let left := fun (g : Goose) => (g.latched &&& g.uncleared).toNat
     reached .tamperUnlock (devSigns [0]) ready (fun r _ => r.inp != []) = true ∧
     unlocks (fun g => g) (fun g => !g.lock) = true ∧
     unlocks (fun g => { g with lock := true, eraseBegun := true, latched := 1 }) (fun g => g.lock && g.eraseBegun) = true ∧
     unlocks (fun g => { g with lock := true, latched := 4, uncleared := 4 }) (fun g => g.lock && !g.eraseBegun && left g != 0) = true ∧
     unlocks (fun g => { g with lock := true, latched := 4 }) (fun g => g.lock && !g.eraseBegun && left g == 0) = true) ∧
    (let configures := fun v s (p : Nat → Cx → Bool) => reached .tamperConfig (devSigns (le 4 v)) s (fun r c => r.inp.length == 4
       && bits (leAt r.inp 0 4) 15 12 == 0 && bits (leAt r.inp 0 4) 31 28 == 0 && onlyBits (bits (leAt r.inp 0 4) 11 0) [3, 4, 6, 7, 11]
       && onlyBits (bits (leAt r.inp 0 4) 27 16) [2, 9] && p (bits (leAt r.inp 0 4) 27 16) c)
     let ok := fun (low : Nat) (c : Cx) => low &&& (c.f.raise0 ||| c.f.raise1).toNat == 0
     configures 0x02040008 (closed ready) (fun low c => low != 0 && c.d.sys.lc != 0) = true ∧
     configures 0x02000000 (fused (fun f => { f with raise1 := 0x200 }) ready) (fun low c => c.d.sys.lc == 0 && !ok low c) = true ∧
     configures 0x02040008 ready (fun low c => c.d.sys.lc == 0 && low != 0 && ok low c) = true ∧
     configures 0x00000800 (closed ready) (fun low c => low == 0 && ok low c) = true) ∧
    reached .tamperFuseDisable (devSigns (le 4 0xC4)) ready (fun r _ => r.inp.length == 4 && onlyBits (leAt r.inp 0 4) [2, 6, 7]) = true ∧
    reached .tamperFuseDisable (devSigns (le 4 0x100)) ready (fun r _ => r.inp.length == 4 && !onlyBits (leAt r.inp 0 4) [2, 6, 7]) = true := by
  decide +kernel

theorem witness_life_cycle_requests :
    (let closes := fun s (p : Cx → Bool) => reached .lcClose { devSigns (List.replicate 7420 0) with owner := some ownerBlk } s (fun r c =>
       r.inp.length == 7420 && zeroFrom r.inp 0 4 && r.q.owner == some ownerBlk && p c)
     closes (closed ready) (fun c => c.d.sys.lc != 0) = true ∧
     closes ready (fun c => c.d.sys.lc == 0 && c.d.slices.any (fun e => e.2.state != .free)) = true ∧
     closes (emptied ready) (fun c => c.d.sys.lc == 0 && c.d.slices.all (fun e => e.2.state == .free) && c.d.pair.state != .paired
       && (c.f.ownerRoot &&& ownerBlk.digest) == c.f.ownerRoot) = true) ∧
    reached .lcScrap (devSigns [0, 0, 0, 0]) ready (fun r _ => r.inp == [0, 0, 0, 0]) = true ∧
    reached .debugChallenge (devAsks []) ready (fun _ c => c.d.sys.lc != 1) = true ∧
    reached .debugChallenge (devAsks []) (closed ready) (fun r c => c.d.sys.lc == 1 && r.inp == [] && rngServing c.d) = true ∧
    (let reopens := fun ok s (p : Req → Cx → Bool) => reached (.debugReopen ok) (devSigns (le 4 1 ++ List.replicate 4727 0)) s (fun r c =>
       r.inp.length == 4731 && zeroFrom r.inp 4 8 && c.d.sys.lc == 1 && p r c)
     let challenged := State.with (fun d => { d with dbg := { d.dbg with challenge := some 1 } }) (closed ready)
     reopens true (closed ready) (fun r c => c.d.dbg.challenge != some (leAt r.inp 0 4)) = true ∧
     reopens true (fused (fun f => { f with debugReopen := 0xFF }) challenged) (fun r c => c.d.dbg.challenge == some (leAt r.inp 0 4)
       && decide (8 ≤ fuseCount c.f.debugReopen)) = true ∧
     reopens true challenged (fun r c => c.d.dbg.challenge == some (leAt r.inp 0 4) && decide (fuseCount c.f.debugReopen < 8)) = true ∧
     reopens false challenged (fun r c => c.d.dbg.challenge == some (leAt r.inp 0 4) && decide (fuseCount c.f.debugReopen < 8)) = true) ∧
    (ready.dev.sys.scheduled ≠ some .lcScrap ∧ ready.dev.sys.scheduled ≠ some .debugReopen ∧ ready.dev.goose.eraseBegun = false ∧
      ready.dev.goose.volatileDone = false ∧ (sys (fun x => { x with scheduled := some .lcScrap }) ready).dev.sys.scheduled = some .lcScrap ∧
      (sys (fun x => { x with scheduled := some .debugReopen }) ready).dev.sys.scheduled = some .debugReopen) := by
  decide +kernel

theorem witness_firmware_requests :
    reached .fwStatus (devAsks []) ready (fun r _ => r.inp == []) = true ∧
    (let with_ := fun st s => State.with (fun d => { d with fw := { d.fw with staging := st, staged := some { fw := 0x0403, sec := 1, digest := [] } } }) s
     let activates := fun s (p : Req → Cx → Bool) => reached .fwActivate (devSigns (le 4 0x0403)) s (fun r c => r.inp.length == 4 && p r c)
     activates (with_ .activating ready) (fun _ c => c.d.fw.staging == .activating) = true ∧
     activates ready (fun _ c => c.d.fw.staging == .none) = true ∧
     activates (with_ .staged (State.with (fun d => modPair (fun p => { p with state := .paired, role := .primary }) d) ready))
       (fun r c => c.d.fw.staging == .staged && leAt r.inp 0 4 == newFw c.d && primaryHeld c.d) = true ∧
     activates (with_ .staged ready) (fun r c => c.d.fw.staging == .staged && leAt r.inp 0 4 == newFw c.d && !primaryHeld c.d) = true ∧
     reached .fwDiscard (devAsks []) (with_ .activating ready) (fun r c => r.inp == [] && c.d.fw.staging == .activating) = true ∧
     reached .fwDiscard (devAsks []) ready (fun r c => r.inp == [] && c.d.fw.staging == .none) = true ∧
     reached .fwDiscard (devAsks []) (with_ .staged ready) (fun r c => r.inp == [] && c.d.fw.staging == .staged) = true) := by
  decide +kernel

/-- The device in a pair state, the pair enabled by its pin. -/
def pairAt (st : PairState) (s : State) : State :=
  sys (fun x => { x with pairEn := true }) (State.with (fun d => modPair (fun p => { p with state := st }) d) s)

theorem witness_pair_requests :
    (let pairs := fun op mode s (p : Cx → Bool) => reached op (devSigns ([byteOf mode] ++ List.replicate 7 0 ++ le 8 9)) s (fun r c => r.inp.length == 16
       && zeroFrom r.inp 1 8 && c.d.sys.pairEn && c.d.pair.cmd == none && leAt r.inp 8 8 != c.d.sys.serial && leAt r.inp 0 1 == mode && p c)
     pairs .pairFound 0 (pairAt .unpaired ready) (fun c => c.d.pair.state == .unpaired && (nextGroup c.f).isSome) = true ∧
     pairs .pairJoin 1 (pairAt .unpaired ready) (fun c => c.d.pair.state == .unpaired && (nextGroup c.f).isSome && slicesInUse c.d != []) = true ∧
     pairs .pairJoin 1 (pairAt .unpaired (emptied ready)) (fun c => c.d.pair.state == .unpaired && (nextGroup c.f).isSome && slicesInUse c.d == []) = true ∧
     pairs .pairAdmit 2 (pairAt .soloUnproven ready) (fun c => c.d.pair.state == .soloUnproven) = true ∧
     pairs .pairAdmit 2 (pairAt .paired ready) (fun c => c.d.pair.state == .paired) = true ∧
     pairs .pairResolve 3 (pairAt .diverged ready) (fun c => c.d.pair.state == .diverged) = true ∧
     pairs .pairResolve 3 (pairAt .paired ready) (fun c => c.d.pair.state == .paired) = true) ∧
    reached .unpair (devSigns [0, 0, 0, 0]) (pairAt .soloProven (emptied ready)) (fun r c => r.inp == [0, 0, 0, 0] && slicesInUse c.d == []
      && c.d.pair.cmd == none && c.d.pair.steps == []) = true ∧
    reached .pairStatus (devAsks []) ready (fun r _ => r.inp == []) = true ∧
    (let sets := fun v => reached .pairTimeoutSet (devAsks (le 4 v)) ready (fun r _ => r.inp.length == 4 && leAt r.inp 0 4 == v)
     sets 100 = true ∧ sets 60000 = true ∧ sets 99 = true ∧ sets 60001 = true) ∧
    (let swaps := fun s (p : Pair → Bool) => reached .pairSwap (devAsks [0, 0, 0, 0]) s (fun r c => r.inp == [0, 0, 0, 0] && p c.d.pair)
     let roled := fun role held => State.with (fun d => modPair (fun p => { p with role, held }) d) (pairAt .paired ready)
     swaps ready (fun p => p.state != .paired) = true ∧ swaps (roled .secondary true) (fun p => p.held) = true ∧
     swaps (roled .primary false) (fun p => p.state == .paired && !p.held && p.role == .primary) = true ∧
     swaps (roled .secondary false) (fun p => p.state == .paired && !p.held && p.role != .primary) = true) ∧
    reached .pairTakeOver (devAsks [1, 0, 0, 0]) (pairAt .waiting ready) (fun r c => r.inp == [1, 0, 0, 0] && c.d.pair.state == .waiting) = true ∧
    reached .pairTakeOver (devAsks [1, 0, 0, 0]) ready (fun r c => r.inp == [1, 0, 0, 0] && c.d.pair.state != .waiting) = true := by
  decide +kernel

theorem test_pair_found_needs_one_identity_slot : nextGroup { pg0 := 1 } = some 1 ∧ nextGroup { pg3 := 1 } = none := by decide +kernel

/-! ## Tamper -/

/-- The sensors armed. -/
def armed (s : State) : State := { s with dev := modGoose (fun g => { g with armed := true }) s.dev }

/-- A source can alarm and has not. -/
def freshB (n : Nat) (s : State) : Bool := sensing s.dev && canAlarm s.cx n && !s.dev.goose.latched.getLsbD n

/-- The sources of a mask that are new. -/
def newOf (mask : Nat) (s : State) : List Nat := (maskList mask).filter (fun n => canAlarm s.cx n && !s.dev.goose.latched.getLsbD n)

/-- Goose armed and changed. -/
def armedWith (f : Goose → Goose) : State := { armed ready with dev := modGoose f (armed ready).dev }

theorem witness_tamper_sources :
    (sensing (armed ready).dev = true ∧ (armed ready).dev.goose.log.length ≤ 16 ∧
      newOf 0xC (armed ready) = [2, 3] ∧ (newOf 0xC (armed ready)).any (fun n => effective (armed ready).cx n == 2) = true ∧
      newOf 0x8 (armed ready) = [3] ∧ (newOf 0x8 (armed ready)).any (fun n => effective (armed ready).cx n == 2) = false ∧
      newOf 0x8 (armedWith (fun g => { g with latched := 8, log := List.replicate 16 ⟨0, false, 3, 1, false, false⟩ })) = [] ∧
      canAlarm (armed ready).cx 3 = true ∧ lasting 3 = true ∧ (armed ready).dev.goose.eraseBegun = false) ∧
    (let s := armedWith (fun g => { g with lock := true, eraseBegun := true, eraseRunning := true })
     s.dev.goose.eraseRunning = true ∧ s.dev.goose.volatileDone = false ∧
       (armedWith (fun g => { g with eraseRunning := true, volatileDone := true })).dev.goose.volatileDone = true ∧ (armed ready).dev.goose.eraseRunning = false) ∧
    ((0 : Nat) ∈ [0, 1, 8, 10] ∧ (11 : Nat) ∉ [0, 1, 8, 10] ∧ sensing (sys (fun x => { x with inReset := true }) ready).dev = false) ∧
    (alive (armed ready).dev = true ∧ freshB 6 (armed ready) = true ∧ freshB 7 (armed ready) = true ∧ freshB 8 (armed ready) = true ∧
      freshB 0 (armed ready) = true ∧ (2 : Nat) ≤ 2 ∧ ¬ (2 : Nat) ≤ 1 ∧ (100 : Nat) < 101) ∧
    ((armed ready).dev.goose.checkDue = true ∧ (armed ready).dev.goose.aPhases < 2 ∧
      2 ≤ (armedWith (fun g => { g with aPhases := 2, bPhases := 2 })).dev.goose.aPhases ∧
      2 ≤ (armedWith (fun g => { g with aPhases := 2, bPhases := 2 })).dev.goose.bPhases ∧
      (armedWith (fun g => { g with aPhases := 2, bPhases := 2 })).dev.goose.checkDue = true ∧ (armed ready).dev.sys.ksk = true ∧
      (let s := sys (fun x => { x with ksk := false, stage := 0 }) (armedWith (fun g => { g with aPhases := 2, bPhases := 2 }))
       alive s.dev = true ∧ s.dev.goose.checkDue = true ∧ s.dev.sys.ksk = false ∧ s.dev.sys.pufOk = true ∧ s.dev.sys.stage = 0 ∧
         s.dev.sys.lc ≠ 2 ∧ s.dev.goose.eraseBegun = false ∧ s.dev.sys.share = .written ∧ 2 ≤ s.dev.goose.aPhases ∧
         2 ≤ s.dev.goose.bPhases)) ∧
    ((armed ready).dev.sys.lc ≠ 1 ∧ freshB 10 (sys (fun x => { x with lc := 1 }) (armed ready)) = true) := by
  decide +kernel

theorem test_a_shield_break_erases :
    (nextOf (exec (.tamperAlarm 1 none) (armed ready))).map (fun t =>
      (t.dev.goose.latched, t.dev.goose.lock, t.dev.goose.eraseBegun, t.dev.goose.log.map (·.source))) = some (1#12, true, true, [0]) := by
  decide +kernel

/-! ## The pair's link -/

/-- The Strait up, and the pair as given. -/
def linked (f : Pair → Pair) (s : State) : State :=
  sys (fun x => { x with pairEn := true }) { s with dev := modPair (fun p => f { p with lanes := 8 }) s.dev }

/-- Under the transport key in a state and role. -/
def keyedIn (state : PairState) (role : Role) (s : State) : State := linked (fun p => { p with state, role, key := true }) s

/-- The journal: position 3 with the two entries behind it. -/
def journalled (s : State) : State :=
  let e2 : Entry := { seq := 2, chain := 5, step := ⟨5, .slotDelete 1⟩ }
  let e3 : Entry := { seq := 3, chain := 7, step := ⟨5, .slotDelete 2⟩ }
  State.with (fun d => { d with store := { d.store with journal := [e2, e3], seq := 3, chain := 7 } }) s

/-- Both can send and take frames. -/
def upB (s : State) : Bool := linkUp s.dev
def keyedB (s : State) : Bool := linkUp s.dev && s.dev.pair.key

/-- A step of slice 5. -/
def aStep : Step := ⟨5, .slotDelete 7⟩

/-- A step under way, in a phase. -/
def pendOf (phase : Phase) : Pend := { step := aStep, origin := .device, phase }

theorem witness_training_and_heartbeats :
    (let s := sys (fun x => { x with pairEn := true }) ready
     alive s.dev = true ∧ s.dev.sys.pairEn = true ∧ s.dev.pair.lanes = 0 ∧ s.dev.pair.training = false ∧ (linked id ready).dev.pair.lanes ≠ 0 ∧
     ({ s with dev := modPair (fun p => { p with training := true }) s.dev } : State).dev.pair.training = true) ∧
    (let s := keyedIn .paired .primary ready
     keyedB s = true ∧ seeks s.dev = false ∧ s.dev.pair.frames + 1 < 2 ^ 32 ∧ s.dev.pair.missed + 1 < 5) ∧
    (let s := linked (fun p => { p with state := .seeking }) ready
     upB s = true ∧ s.dev.pair.key = false ∧ seeks s.dev = true ∧ s.dev.pair.nonce = [] ∧ rngServing s.dev = true) ∧
    linkUp ready.dev = false ∧
    (let s := keyedIn .paired .secondary ready
     keyedB s = true ∧ s.dev.pair.state = .paired ∧ s.dev.pair.role = .secondary) := by
  decide +kernel

/-- A device that seeks its partner, its nonce sent. -/
def seeking (s : State) : State := linked (fun p => { p with state := .seeking, nonce := [1], helloSent := true }) s

/-- The premises on a device that receives a `HELLO`. -/
def greets (s : State) : Bool := upB s && seeks s.dev && s.dev.pair.nonce != [] && s.dev.pair.cmd == none

/-- The partner is known by checks 1 to 4, and is the one recorded with the same major version. -/
def knownB (m : HelloMsg) (s : State) : Bool :=
  m.sigOk && m.lifecycle == s.dev.sys.lc && (s.dev.sys.lc != 1 || (m.chainOk && !m.debugOpen)) && m.group == groupId s.fuse

theorem witness_hello :
    greets (seeking ready) = true ∧ greets (sys (fun x => { x with lc := 1 }) (seeking ready)) = true ∧
    (let m : HelloMsg := { serial := 9 }
     m.sigOk = true ∧ knownB m (seeking ready) = true ∧ m.major = 4 ∧ m.pairMode = none ∧ m.ends = [] ∧ (seeking ready).dev.store.partner = 0 ∧
     knownB { m with lifecycle := 1 } (sys (fun x => { x with lc := 1 }) (seeking ready)) = true) ∧
    (let s := State.with (fun d => { d with store := { d.store with partner := 8 } }) (seeking ready)
     greets s = true ∧ s.dev.store.partner ≠ 0 ∧ ({ serial := 9 } : HelloMsg).serial ≠ s.dev.store.partner ∧
       ({ serial := 8 } : HelloMsg).serial = s.dev.store.partner) ∧
    (let s := journalled (seeking ready)
     let same : HelloMsg := { serial := 9, journalSeq := 3, chain := 7 }
     let behind : HelloMsg := { serial := 9, journalSeq := 2, chain := 5 }
     let ahead : HelloMsg := { serial := 9, journalSeq := 5, chain := 11, chainAtOurs := some 7 }
     let other : HelloMsg := { serial := 9, journalSeq := 2, chain := 6 }
     greets s = true ∧ s.dev.pair.steps = [] ∧
     (knownB same s = true ∧ s.dev.store.seq = same.journalSeq ∧ s.dev.store.chain = same.chain ∧ s.dev.store.seq ≠ 0) ∧
     (knownB behind s = true ∧ behind.journalSeq ≠ 0 ∧ behind.journalSeq < s.dev.store.seq ∧ chainAt s.dev behind.journalSeq = some behind.chain ∧
       (entriesAfter s.dev behind.journalSeq).isSome = true) ∧
     (knownB ahead s = true ∧ s.dev.store.seq ≠ 0 ∧ s.dev.store.seq < ahead.journalSeq ∧ ahead.chainAtOurs = some s.dev.store.chain) ∧
     (knownB other s = true ∧ other.journalSeq < s.dev.store.seq ∧ chainAt s.dev other.journalSeq ≠ some other.chain)) := by
  decide +kernel

theorem witness_journal_frames :
    (let s := keyedIn .paired .primary ready
     keyedB s = true ∧ s.dev.pair.held = false ∧ s.dev.sys.ready = true ∧ s.dev.pair.state = .paired ∧ s.dev.pair.role = .primary) ∧
    (let s := keyedIn .paired .secondary ready
     let t := journalled (linked (fun p => { p with state := .paired, role := .secondary, key := true, steps := [pendOf .requested] }) ready)
     keyedB s = true ∧ keyedB t = true ∧ blocked s.dev aStep = false ∧ blocked t.dev aStep = false ∧
       t.dev.pair.steps = [pendOf .requested] ∧ (pendOf .requested).phase = .requested ∧ (pendOf .requested).step = aStep ∧ t.dev.store.seq + 1 = 4 ∧
       s.dev.store.seq + 1 = 1) ∧
    (let s := linked (fun p => { p with state := .paired, role := .primary, key := true, steps := [pendOf (.sequenced 3)] }) ready
     keyedB s = true ∧ s.dev.pair.steps = [pendOf (.sequenced 3)] ∧ blocked s.dev (pendOf (.sequenced 3)).step = false ∧ 3 ≤ 3 ∧ 2 < 3) ∧
    (let s := keyedIn .forming .secondary ready
     keyedB s = true ∧ s.dev.pair.state = .forming ∧ s.dev.pair.role = .secondary ∧ upB s = true ∧ s.dev.pair.steps = [] ∧
       s.dev.pair.partnerSeq ≤ s.dev.store.seq ∧
       (let t := linked (fun p => { p with state := .forming, role := .secondary, key := true, partnerSeq := 9 }) ready
        t.dev.store.seq < t.dev.pair.partnerSeq)) ∧
    (let s := keyedIn .forming .primary ready; upB s = true ∧ s.dev.pair.state = .forming ∧ s.dev.pair.role = .primary) := by
  decide +kernel

theorem witness_pair_losses :
    (∀ st ∈ [PairState.waiting, .paired, .soloUnproven, .diverged], (let s := keyedIn st .primary ready
       keyedB s = true ∧ s.dev.pair.state = st ∧ s.dev.pair.steps = [])) ∧
    (let s := keyedIn .paired .secondary ready; s.dev.pair.steps = [] ∧ s.dev.pair.cmd = none ∧ s.dev.store.seq ≠ 5 ∧
      alive s.dev = true ∧ s.dev.pair.key = true ∧ s.dev.pair.missed ≤ 5) ∧
    (let s := journalled (linked (fun p => { p with state := .paired, role := .primary, key := true, steps := [pendOf (.sequenced 3)] }) ready)
     alive s.dev = true ∧ s.dev.pair.state = .paired ∧ s.dev.pair.role = .primary ∧ s.dev.pair.steps.any (fun x => x.phase == .sequenced 3) = true ∧
       3 ≤ s.dev.store.seq) ∧
    (let s := linked (fun p => { p with state := .seeking, timer := .ready }) ready
     let t := linked (fun p => { p with state := .waiting, timer := .loss }) ready
     alive s.dev = true ∧ s.dev.pair.steps = [] ∧ s.dev.pair.timer = .ready ∧ s.dev.pair.state = .seeking ∧
     alive t.dev = true ∧ t.dev.pair.steps = [] ∧ t.dev.pair.timer = .loss ∧ t.dev.pair.state = .waiting ∧ ready.dev.pair.timer = .off) := by
  decide +kernel

theorem test_a_primary_sequences_a_request :
    (nextOf (exec (.journalReq true aStep) (keyedIn .paired .primary ready))).map (fun t => (t.dev.store.seq, t.dev.pair.steps.map (·.phase))) =
      some (1, [.sequenced 1]) := by
  decide +kernel

/-! ## The service port -/

/-- A frame with its CRC. -/
def frame (ty : Nat) (p : List Byte) : SvcFrame := { seq := 7, payload := p, crc := crc32 (frameHead 0xA5 ty 7 0 p) }

/-- The port is up with nothing unanswered, and a state with the CP or the boot ROM serving it outside activation. -/
def openB (s : State) : Bool := portUp s.dev && s.dev.fw.response == none && s.dev.fw.unanswered == none
def servedB (s : State) : Bool := alive s.dev && !s.dev.sys.cpRestart && (s.dev.sys.cpUp || s.dev.sys.stage == 5)
def quietB (s : State) : Bool := s.dev.fw.staging != .activating && s.dev.fw.staging != .verifying

/-- The firmware part changed. -/
def fwOf (f : Firmware → Firmware) (s : State) : State := { s with dev := { s.dev with fw := f s.dev.fw } }

theorem witness_port_frames :
    (openB ready && servedB ready && quietB ready) = true ∧ ready.dev.sys.lc ≠ 2 ∧
    portUp (sys (fun x => { x with resetLow := true }) ready).dev = false ∧
    (fwOf (fun w => { w with response := some [1] }) ready).dev.fw.response ≠ none ∧
    (fwOf (fun w => { w with unanswered := some (1, 1) }) ready).dev.fw.unanswered ≠ none ∧
    frameOk 0x01 { seq := 7 } = false ∧ frameOk 0x01 { frame 0x01 [] with sync := 0x5A } = false ∧
    (frameOk 0x01 (frame 0x01 []) = true ∧ frameOk 0x10 (frame 0x10 [1]) = true ∧ ([1] : List Byte).length ≠ 8) ∧
    (let s := sys (fun x => { x with lc := 2 }) ready; openB s = true ∧ s.dev.sys.lc = 2) ∧
    (let s := sys (fun x => { x with cpRestart := true }) ready; openB s = true ∧ s.dev.sys.lc ≠ 2 ∧ s.dev.sys.cpRestart = true) ∧
    (let s := fwOf (fun w => { w with staging := .activating }) ready; (openB s && servedB s && !quietB s) = true) ∧
    (let p := le 4 0 ++ le 4 126 ++ le 8 0; frameOk 0x02 (frame 0x02 p) = true ∧ logReadOk p = true ∧ leAt p 4 4 ≤ 126) ∧
    (ready.dev.sys.lc = 0 ∧ frameOk 0x30 (frame 0x30 []) = true ∧ frameOk 0x30 { seq := 1 } = false ∧
      (sys (fun x => { x with lc := 1 }) ready).dev.sys.lc ≠ 0) := by
  decide +kernel

/-- The five sections of a small image, one byte each. -/
def imageOf : List Byte :=
  let entry := fun (k : Nat) => le 2 k ++ [0, 0] ++ le 4 (335 + k) ++ le 4 1 ++ le 4 0 ++ sha384 [byteOf k]
  text "PGIMAGE1" ++ le 4 0x0403 ++ [1, 5, 0, 0] ++ ([1, 2, 3, 4, 5].map entry).flatten ++ [1, 2, 3, 4, 5]

/-- A delta of one literal record that writes an image. -/
def deltaOf (img : List Byte) : List Byte := [2, 0, 0, 0] ++ le 4 img.length ++ le 4 0 ++ fit img ((img.length + 3) / 4 * 4)

/-- A package header over an image of a length and digest. -/
def pkgHeader (kind imageLen deltaLen : Nat) (digest : List Byte) : List Byte :=
  text "PGFWPKG1" ++ le 2 1 ++ [byteOf kind, 1] ++ le 4 0x0403 ++ List.replicate 48 0 ++ fit digest 48 ++ le 4 imageLen ++ le 4 deltaLen ++ le 4 0 ++ le 4 0

/-- A reception with so many bytes in, of a total. -/
def receiving (p : List Byte) (total : Nat) (s : State) : State :=
  let b : Bank := { fw := 0x0402, sec := 1, digest := List.replicate 48 0 }
  fwOf (fun w => { w with staging := .receiving, package := p, total, bank0 := some b }) s

theorem witness_package_begin :
    (let begins := fun n => (let p := le 4 n ++ le 4 0; frameOk 0x10 (frame 0x10 p) && p.length == 8 && leAt p 0 4 == n && leAt p 4 4 == 0)
     begins 0 = true ∧ begins 16777217 = true ∧ begins 16777216 = true ∧ ready.dev.fw.staging = .none ∧
       (receiving [] 10 ready).dev.fw.staging ≠ .none) := by
  decide +kernel

theorem witness_package_bytes :
    (let s := receiving [] 6000 ready
     let f := frame 0x11 (le 4 0 ++ le 4 0 ++ [1])
     (openB s && servedB s && quietB s) = true ∧ frameOk 0x11 f = true ∧ 9 ≤ f.payload.length ∧ f.payload.length ≤ 4096 ∧ s.dev.fw.staging = .receiving ∧
       leAt f.payload 0 4 = s.dev.fw.package.length ∧ (s.dev.fw.package ++ f.payload.drop 8).length < 128 ∧
       (s.dev.fw.package ++ f.payload.drop 8).length ≤ s.dev.fw.total ∧ leAt (le 4 5 ++ le 4 0 ++ [1]) 0 4 ≠ s.dev.fw.package.length ∧
       ready.dev.fw.staging ≠ .receiving) := by
  decide +kernel

theorem witness_package_header :
    (let h := pkgHeader 0 5 17 []
     let s := receiving [] (128 + 17 + 4723) ready
     let f := frame 0x11 (le 4 0 ++ le 4 0 ++ h)
     frameOk 0x11 f = true ∧ leAt f.payload 0 4 = s.dev.fw.package.length ∧ s.dev.fw.package.length < 128 ∧
       128 ≤ (s.dev.fw.package ++ f.payload.drop 8).length ∧ (s.dev.fw.package ++ f.payload.drop 8).length ≤ s.dev.fw.total ∧
       headerFails s.cx (s.dev.fw.package ++ f.payload.drop 8) s.dev.fw.total = none ∧
       (rebuilt s.dev (s.dev.fw.package ++ f.payload.drop 8)).isSome = true ∧
       headerFails s.cx (List.replicate 128 0) s.dev.fw.total = some 1) := by
  decide +kernel

/-- A reception that is whole, of an image under a stated digest. -/
def wholeOf (img digest : List Byte) : State :=
  let p := fit (pkgHeader 0 img.length (deltaOf img).length digest ++ deltaOf img) (128 + (deltaOf img).length + 4723)
  receiving p p.length ready

theorem witness_package_end :
    (let f := frame 0x12 []
     let s := wholeOf [1] []
     (openB s && servedB s && quietB s) = true ∧ frameOk 0x12 f = true ∧ s.dev.fw.staging = .receiving ∧
       s.dev.fw.package.length = s.dev.fw.total ∧ 128 ≤ s.dev.fw.package.length ∧ ({ vendorOk := false } : PkgVerdict).vendorOk = false ∧
       (sys (fun x => { x with lc := 1 }) s).dev.sys.lc = 1 ∧
       sha384 ((rebuilt s.dev s.dev.fw.package).getD []) ≠ slice8 s.dev.fw.package 0x40 48 ∧
       (receiving [] 1 ready).dev.fw.package.length ≠ (receiving [] 1 ready).dev.fw.total) ∧
    (let t := wholeOf [1] (sha384 [1])
     let img := (rebuilt t.dev t.dev.fw.package).getD []
     sha384 img = slice8 t.dev.fw.package 0x40 48 ∧ imageOk img 0x0403 1 = false) ∧
    (let v : PkgVerdict := {}
     v.vendorOk = true ∧ v.ownerOk = true ∧ v.digestOk = true ∧ frameOk 0x13 (frame 0x13 []) = true) := by
  decide +kernel

theorem witness_package_staged :
    let t := wholeOf imageOf (sha384 imageOf)
    let img := (rebuilt t.dev t.dev.fw.package).getD []
    sha384 img = slice8 t.dev.fw.package 0x40 48 ∧ imageOk img (leAt t.dev.fw.package 0x0C 4) (leAt t.dev.fw.package 0x0B 1) = true ∧
      t.dev.sys.stage ≠ 5 ∧ (sys (fun x => { x with stage := 5 }) t).dev.sys.stage = 5 := by
  decide +kernel

theorem witness_port_activation :
    (let with_ := fun st s => fwOf (fun w => { w with staging := st, staged := some { fw := 0x0403, sec := 1, digest := [] } }) s
     let p := le 4 0x0403
     let s := with_ .staged ready
     let t := with_ .staged (State.with (fun d => modPair (fun p => { p with state := .paired, role := .primary }) d) ready)
     frameOk 0x20 (frame 0x20 p) = true ∧ (openB s && servedB s && quietB s) = true ∧ s.dev.fw.staging = .staged ∧ leAt p 0 4 = newFw s.dev ∧
       s.dev.goose.lock = false ∧ primaryHeld s.dev = false ∧ primaryHeld t.dev = true ∧ (openB t && servedB t && quietB t) = true ∧
       ready.dev.fw.staging ≠ .staged ∧ leAt (le 4 1) 0 4 ≠ newFw s.dev) ∧
    (alive (receiving [] 1 ready).dev = true ∧ (receiving [] 1 ready).dev.sys.cpRestart = false) := by
  decide +kernel

/-- The CRC-32 of the nine digits (the check value of IEEE 802.3's CRC). -/
theorem test_crc32 : crc32 (text "123456789") = 0xCBF43926 := by decide +kernel

end Sys2Proof.Tests
end

section
/-! PROOF. What a register write does (O11): the bytes a write puts into a register, the writes that no rule of R36 turns away, and then
one register after the other. -/

namespace Sys2Proof.Machine

/-! ## Bytes of a value -/

/-- Bytes that are those of `x`, least significant first, have the value of `x` cut to their number. -/
theorem leAt_eq_mod (l : List Byte) (x : Nat) :
    ∀ (n o : Nat), (∀ i < n, l.getD (o + i) 0 = byteOf (x / 2 ^ (8 * i))) → leAt l o n = x % 256 ^ n := by
  intro n
  induction n generalizing x with
  | zero => intro o _; simp [leAt, Nat.mod_one]
  | succ n ih =>
    intro o h
    have first : (l.getD o 0).toNat = x % 256 := by
      have h0 : l.getD o 0 = byteOf x := by simpa using h 0 (by omega)
      rw [h0]; simp [byteOf]
    have rest : leAt l (o + 1) n = x / 256 % 256 ^ n := by
      refine ih _ _ fun i hi => ?_
      have hi1 := h (i + 1) (by omega)
      rwa [show o + (i + 1) = o + 1 + i by omega, show 8 * (i + 1) = 8 + 8 * i by omega, pow_add, ← Nat.div_div_eq_div_mul] at hi1
    rw [leAt, first, rest, pow_succ', Nat.mod_mul]

/-- A write that begins at a register and covers it leaves the written value. -/
theorem merge_covered {a : BarAccess} {reg n : Nat} (old : Nat) (h : a.off = reg) (hn : n ≤ a.size) : merge a reg n old = a.value % 256 ^ n := by
  refine leAt_eq_mod _ _ _ _ fun i hi => ?_
  have hs : i < a.size := by omega
  simp [List.getD_eq_getElem?_getD, hi, hs, h]

/-- A write that misses a register leaves its value, as wide as the register is. -/
theorem merge_missed {a : BarAccess} {reg n : Nat} (old : Nat) (h : reg + n ≤ a.off ∨ a.off + a.size ≤ reg) :
    merge a reg n old = old % 256 ^ n := by
  refine leAt_eq_mod _ _ _ _ fun i hi => ?_
  have hc : ¬ (a.off ≤ reg + i ∧ reg + i < a.off + a.size) := by omega
  simp [List.getD_eq_getElem?_getD, hi, hc]

/-! ## Fields -/

theorem bitAt_mod_two_pow (v : Nat) {i k : Nat} (h : i < k) : bitAt (v % 2 ^ k) i = bitAt v i := by
  have bitAt_testBit (x : Nat) : bitAt x i = x.testBit i := by simp [bitAt, Nat.testBit_eq_decide_div_mod_eq, beq_eq_decide]
  simp [bitAt_testBit, h]

theorem bits_mod_two_pow (v : Nat) {hi lo k : Nat} (hlo : lo ≤ hi) (h : hi < k) : bits (v % 2 ^ k) hi lo = bits v hi lo := by
  unfold bits
  rw [show k = lo + (k - lo) by omega, pow_add, Nat.mod_mul_right_div_self, Nat.mod_mod_of_dvd _ (pow_dvd_pow 2 (by omega))]

/-- The three flags at the foot of `MSG_CTRL` lie below its vector (R62). -/
theorem msgCtrl_flags : ∀ masked pending mode : Bool,
    let k := bitOf masked 0 + bitOf pending 1 + bitOf mode 2
    k < 8 ∧ bitAt k 0 = masked ∧ bitAt k 2 = mode := by decide

theorem msgCtrl_lt {e : IrqEntry} (h : e.vector < 2048) : msgCtrl e < 2 ^ 32 := by
  obtain ⟨hk, _, _⟩ := msgCtrl_flags e.masked e.pending e.msixMode
  unfold msgCtrl
  omega

/-- `MSG_CTRL` reads back as the fields it was made of (R62). -/
theorem msgCtrl_fields {e : IrqEntry} (h : e.vector < 2048) :
    bitAt (msgCtrl e) 0 = e.masked ∧ bitAt (msgCtrl e) 2 = e.msixMode ∧ bits (msgCtrl e) 26 16 = e.vector := by
  obtain ⟨hk, hmask, hmode⟩ := msgCtrl_flags e.masked e.pending e.msixMode
  simp only [bitAt] at hmask hmode
  simp only [bitAt, bits, msgCtrl]
  generalize bitOf e.masked 0 + bitOf e.pending 1 + bitOf e.msixMode 2 = k at *
  rw [← hmask, ← hmode]
  refine ⟨?_, ?_, ?_⟩
  · congr 1; omega
  · congr 1; omega
  · omega

/-! ## Two changes of one slice -/

theorem Tab.put_put_same {α : Type} (t : Tab α) (k : Nat) (v w : α) : Tab.put (Tab.put t k v) k w = Tab.put t k w := by
  induction t with
  | nil => simp [Tab.put]
  | cons e t ih =>
    obtain ⟨j, u⟩ := e
    simp only [Tab.put]
    split
    · simp [Tab.put]
    · split
      · simp [Tab.put]
      · next h1 h2 => simp [Tab.put, h1, h2, ih]

theorem modSlice_modSlice_same (n : Nat) (f g : Slice → Slice) (d : Dev) :
    modSlice n g (modSlice n f d) = modSlice n (fun x => g (f x)) d := by
  simp [modSlice, Tab.upd, Tab.put_put_same]

/-! ## The status word -/

theorem devStatus_emit (o : Out) (d : Dev) : devStatus (emit o d) = devStatus d := rfl

theorem devStatus_modSlice (n : Nat) (f : Slice → Slice) (d : Dev) : devStatus (modSlice n f d) = devStatus d := rfl

theorem devStatus_modBox (m : Nat) (f : Mailbox → Mailbox) (d : Dev) : devStatus (modBox m f d) = devStatus d := rfl

/-- Of the host interface's registers the status word shows `VC1_ACTIVE` alone (R40, R64). -/
theorem devStatus_modHif {f : Hif → Hif} {d : Dev} (h1 : (f d.hif).vc1Enable = d.hif.vc1Enable) (h2 : (f d.hif).tc7Alone = d.hif.tc7Alone) :
    devStatus (modHif f d) = devStatus d := by
  simp [devStatus, modHif, vc1Active, devFault, h1, h2]

/-- Where the status word stays, a command leaves exactly its device. -/
theorem Does.next {i : Instr} {s : State} {d : Dev} (h : Does i s d) (hs : devStatus d = devStatus s.dev) :
    exec i s = .next { s with dev := d } := by
  rwa [Does, watch_same (fun _ => d) s.dev hs] at h

/-! ## Writes that no rule turns away (R36) -/

/-- The BARs are open and the Owner does not ask for IDE. -/
structure HostOpen (d : Dev) : Prop where
  bars : barsOpen d = true
  ide : d.hif.ideRequired = false

/-- A write of a register of BAR0 or BAR4 that keeps R36. -/
structure PlainAccess (a : BarAccess) : Prop where
  inBar : barExists a = true
  isWrite : a.write = true
  notPage : a.bar ≠ 2
  noPasid : a.pasid = none
  size : sizeOk a = true

theorem sizeOk_of_aligned {a : BarAccess} {k : Nat} (hk : k = 4 ∨ k = 8) (hs : a.size = k) (h : a.off % k = 0) : sizeOk a = true := by
  simp [sizeOk, hs, h, hk]

/-- An aligned write of 4 or 8 bytes inside BAR0. -/
theorem plainAccess_bar0 {off size : Nat} (v : Nat) (hin : off + size ≤ 2 ^ 20) (hk : size = 4 ∨ size = 8) (h : off % size = 0) :
    PlainAccess { bar := 0, off := off, size := size, value := v } where
  inBar := by simpa [barExists] using hin
  isWrite := rfl
  notPage := by simp
  noPasid := rfl
  size := sizeOk_of_aligned hk rfl h

theorem PlainAccess.not_rejected {a : BarAccess} {d : Dev} (ha : PlainAccess a) (hd : HostOpen d) : rejection d a = none := by
  simp [rejection, hd.ide, ha.notPage, ha.noPasid, accessSizeOk, ha.size]

theorem PlainAccess.hostWrite {a : BarAccess} {d : Dev} (ha : PlainAccess a) (hd : HostOpen d) : hostWrite a d = plainWrite a d := by
  simp [Machine.hostWrite, hd.bars, ha.isWrite, ha.not_rejected hd, ha.notPage]

theorem does_registerWrite {a : BarAccess} {s : State} (hb : barExists a = true) (hw : a.write = true) :
    Does (.registerWrite a) s (hostWrite a s.dev) := by
  rw [Does, exec_registerWrite, execRegisterWrite, onUnit, hb, hw, ← watch_const]
  rfl

theorem PlainAccess.does_registerWrite {a : BarAccess} {s : State} (ha : PlainAccess a) (hs : HostOpen s.dev) :
    Does (.registerWrite a) s (plainWrite a s.dev) :=
  ha.hostWrite hs ▸ Machine.does_registerWrite ha.inBar ha.isWrite

/-! ## The error and fault registers (R41, R346) -/

/-- The ones that a 32-bit write puts into the W1C bits `[4:0]`. -/
theorem written_low_five {a : BarAccess} {reg : Nat} (h : a.off = reg) (hn : 4 ≤ a.size) : written a reg 4 % 32 = a.value % 32 := by
  rw [written, merge_covered 0 h hn, Nat.mod_mod_of_dvd _ (by decide)]

theorem plainWrite_err (v : Nat) (d : Dev) :
    plainWrite { bar := 0, off := 0x20, size := 4, value := v } d =
      modHif (fun h => { h with err := h.err &&& ~~~(BitVec.ofNat 32 (v % 32)) }) d := by
  simp [plainWrite, touches, written_low_five]

theorem plainWrite_faultStatus (v : Nat) (d : Dev) :
    plainWrite { bar := 0, off := 0x400, size := 4, value := v } d =
      { d with sys := { d.sys with faultStatus := d.sys.faultStatus &&& ~~~(BitVec.ofNat 32 (v % 32)) } } := by
  simp [plainWrite, touches, written_low_five]

theorem registerWrite_err (s : State) (v : Nat) (hs : HostOpen s.dev) :
    exec (.registerWrite { bar := 0, off := 0x20, size := 4, value := v }) s =
      .next { s with dev := modHif (fun h => { h with err := h.err &&& ~~~(BitVec.ofNat 32 (v % 32)) }) s.dev } := by
  have ha := plainAccess_bar0 (off := 0x20) v (by decide) (.inl rfl) (by decide)
  have hd := ha.does_registerWrite hs
  rw [plainWrite_err] at hd
  exact hd.next (devStatus_modHif rfl rfl)

theorem registerWrite_faultStatus (s : State) (v : Nat) (hs : HostOpen s.dev) :
    Does (.registerWrite { bar := 0, off := 0x400, size := 4, value := v }) s
      { s.dev with sys := { s.dev.sys with faultStatus := s.dev.sys.faultStatus &&& ~~~(BitVec.ofNat 32 (v % 32)) } } := by
  have ha := plainAccess_bar0 (off := 0x400) v (by decide) (.inl rfl) (by decide)
  rw [← plainWrite_faultStatus]
  exact ha.does_registerWrite hs

/-! ## A slice's sticky bits (R44) -/

theorem pageWrite_sliceStatus {n v : Nat} {d : Dev} (hide : d.hif.ideRequired = false) (hn : n < 4096) (hf : (sliceOf d n).state ≠ .free) :
    pageWrite { bar := 2, off := 0x1000 * n + 0x40, size := 8, value := v, pasid := some (sliceOf d n).per.pasid } d =
      modSlice n (fun x => { x with
        spoof := x.spoof && !bitAt v 4, dbErr := x.dbErr && !bitAt v 5, dmaErr := x.dmaErr && !bitAt v 6 }) d := by
  have hpage : (0x1000 * n + 0x40) / 0x1000 % 4096 = n := by omega
  have hreg : (0x1000 * n + 0x40) % 0x1000 = 0x40 := by omega
  have haligned : (0x1000 * n + 0x40) % 8 = 0 := by omega
  simp [pageWrite, hpage, hreg, haligned, hide, hf, sizeOk]

theorem registerWrite_sliceStatus (s : State) (n v : Nat) (hs : HostOpen s.dev) (hn : n < 4096) (hf : (sliceOf s.dev n).state ≠ .free) :
    exec (.registerWrite { bar := 2, off := 0x1000 * n + 0x40, size := 8, value := v, pasid := some (sliceOf s.dev n).per.pasid }) s =
      .next { s with dev := modSlice n (fun x => { x with
        spoof := x.spoof && !bitAt v 4, dbErr := x.dbErr && !bitAt v 5, dmaErr := x.dmaErr && !bitAt v 6 }) s.dev } := by
  have hd := Machine.does_registerWrite (s := s)
    (a := { bar := 2, off := 0x1000 * n + 0x40, size := 8, value := v, pasid := some (sliceOf s.dev n).per.pasid })
    (by simp [barExists]; omega) rfl
  simp only [hostWrite, hs.bars, rejection, hs.ide, Bool.not_true, Bool.or_self, Bool.false_and, Bool.false_eq_true, if_true, if_false,
    pageWrite_sliceStatus hs.ide hn hf] at hd
  exact hd.next (devStatus_modSlice _ _ _)

/-! ## A request window (R259) -/

theorem plainWrite_window {m x : Nat} (v : Nat) (d : Dev) (hm : m < 8) (hx : x < 0x800) :
    plainWrite { bar := 0, off := 0x1000 + 0x1000 * m + x, size := 8, value := v } d =
      modBox m (fun b => if b.state = .busy then b else { b with window := Mem.writeAll b.window x (leBytes 8 v), ide := false }) d := by
  have hwin : 0x1000 ≤ 0x1000 + 0x1000 * m + x ∧ 0x1000 + 0x1000 * m + x < 0x9000 := by omega
  have hbox : (0x1000 + 0x1000 * m + x - 0x1000) / 0x1000 = m := by omega
  have hoff : (0x1000 + 0x1000 * m + x) % 0x1000 = x := by omega
  have herr : ¬ 0x1000 + 0x1000 * m + x < 0x24 := by omega
  have hfault : ¬ 0x1000 + 0x1000 * m + x < 0x404 := by omega
  have hregs : ¬ 0x1000 + 0x1000 * m + x < 0x200 := by omega
  have hresp : ¬ 0x800 ≤ x := by omega
  simp [plainWrite, mailboxWrite, touches, hwin, hbox, hoff, herr, hfault, hregs, hresp]

theorem registerWrite_window (s : State) (m x v : Nat) (hs : HostOpen s.dev) (hm : m < 8) (hx : x < 0x800) (h8 : x % 8 = 0) :
    exec (.registerWrite { bar := 0, off := 0x1000 + 0x1000 * m + x, size := 8, value := v }) s =
      .next { s with dev := modBox m (fun b =>
        if b.state = .busy then b else { b with window := Mem.writeAll b.window x (leBytes 8 v), ide := false }) s.dev } := by
  have ha := plainAccess_bar0 (off := 0x1000 + 0x1000 * m + x) v (by omega) (.inr rfl) (by omega)
  have hd := ha.does_registerWrite hs
  rw [plainWrite_window v _ hm hx] at hd
  exact hd.next (devStatus_modBox _ _ _)

/-! ## An MSI-X entry (R35) -/

theorem releaseMsix_no_pending {d : Dev} (h : d.hif.pba = []) : releaseMsix d = d := by
  rw [releaseMsix, h]; rfl

/-- A write of an entry's address keeps its mask. -/
theorem bitAt_merge_mask {a : BarAccess} {reg : Nat} (b : Bool) (h : a.off + a.size ≤ reg) : bitAt (merge a reg 4 (bitOf b 0)) 0 = b := by
  rw [merge_missed _ (.inr h)]
  cases b <;> rfl

theorem plainWrite_msixAddr {n : Nat} (v : Nat) {d : Dev} (hn : n < 2048) (hp : d.hif.pba = []) :
    plainWrite { bar := 4, off := 16 * n, size := 8, value := v } d =
      modHif (fun h => { h with msix := Tab.put h.msix n { Tab.getD d.hif.msix n {} with
        addr := v % 2 ^ 64, data := (Tab.getD d.hif.msix n {}).data % 2 ^ 32 } }) d := by
  have hin : 16 * n < 0x8000 := by omega
  have hentry : 16 * n / 16 = n := by omega
  simp only [plainWrite, hin, if_true, msixWrite, hentry]
  rw [merge_covered _ rfl le_rfl, merge_missed _ (.inr le_rfl), bitAt_merge_mask _ (by simp)]
  exact releaseMsix_no_pending hp

theorem registerWrite_msixAddr (s : State) (n v : Nat) (hs : HostOpen s.dev) (hn : n < 2048) (hp : s.dev.hif.pba = []) :
    exec (.registerWrite { bar := 4, off := 16 * n, size := 8, value := v }) s =
      .next { s with dev := modHif (fun h => { h with msix := Tab.put h.msix n { Tab.getD s.dev.hif.msix n {} with
        addr := v % 2 ^ 64, data := (Tab.getD s.dev.hif.msix n {}).data % 2 ^ 32 } }) s.dev } := by
  have ha : PlainAccess { bar := 4, off := 16 * n, size := 8, value := v } :=
    ⟨by simp [barExists]; omega, rfl, by simp, rfl, sizeOk_of_aligned (.inr rfl) rfl (by dsimp only; omega)⟩
  have hd := ha.does_registerWrite hs
  rw [plainWrite_msixAddr v hn hp] at hd
  exact hd.next (devStatus_modHif rfl rfl)

/-! ## A reserved offset (R10) -/

theorem plainWrite_reserved (v : Nat) (d : Dev) : plainWrite { bar := 0, off := 0xA0000, size := 8, value := v } d = d := by
  simp [plainWrite, touches]

theorem registerWrite_reserved (s : State) (v : Nat) (hs : HostOpen s.dev) :
    exec (.registerWrite { bar := 0, off := 0xA0000, size := 8, value := v }) s = .next s := by
  have ha := plainAccess_bar0 (off := 0xA0000) v (by decide) (.inr rfl) (by decide)
  have hd := ha.does_registerWrite hs
  rw [plainWrite_reserved] at hd
  exact hd.next rfl

/-! ## An interrupt message store entry (R61 to R63) -/

/-- An entry's fields are no wider than its registers (R61). -/
structure IrqFits (e : IrqEntry) : Prop where
  addr : e.addr < 2 ^ 64
  data : e.data < 2 ^ 32
  vector : e.vector < 2048

/-- An entry after a write: each register the write covers holds the written bytes, and the fields are read from them. -/
def irqStored (a : BarAccess) (e : IrqEntry) : IrqEntry :=
  let base := 0x80000 + 16 * ((a.off - 0x80000) / 16)
  let ctrl := merge a (base + 12) 4 (msgCtrl e)
  { e with
    addr := merge a base 8 e.addr
    data := merge a (base + 8) 4 e.data
    masked := bitAt ctrl 0
    msixMode := bitAt ctrl 2
    vector := bits ctrl 26 16 }

/-- The entry names a vector that mode 1 reserves (R62). -/
def badVector (e : IrqEntry) : Bool := e.msixMode && decide (e.vector < 16)

/-- A write to the entry of slice `n`, at offset `o` of its 16 bytes. -/
def irqAccess (n o v : Nat) : BarAccess := { bar := 0, off := 0x80000 + 16 * n + o, size := 4, value := v }

/-- What a write does to an entry, in the model's own steps. -/
theorem irqWrite_eq (a : BarAccess) (d : Dev) :
    irqWrite a d =
      let n := (a.off - 0x80000) / 16
      let e1 := irqStored a (sliceOf d n).irq
      let d1 := modSlice n (fun x => { x with irq := e1 }) d
      let d2 := if badVector e1 then hifError 4 n a.off d1 else d1
      if e1.pending && !e1.masked then sendMessage n d2 else d2 := rfl

theorem irqAccess_slice {n o v : Nat} (ho : o < 16) : ((irqAccess n o v).off - 0x80000) / 16 = n := by
  simp only [irqAccess]; omega

section
variable {n o v : Nat} {d : Dev} (ho : o < 16)
include ho

/-- With nothing owed, a write stores its fields. -/
theorem irqWrite_stores {e1 : IrqEntry} (he : irqStored (irqAccess n o v) (sliceOf d n).irq = e1) (hp : e1.pending = false)
    (hv : badVector e1 = false) : irqWrite (irqAccess n o v) d = modSlice n (fun x => { x with irq := e1 }) d := by
  simp [irqWrite_eq, irqAccess_slice ho, he, hp, hv]

theorem irqWrite_badVector {e1 : IrqEntry} (he : irqStored (irqAccess n o v) (sliceOf d n).irq = e1) (hp : e1.pending = false)
    (hv : badVector e1 = true) :
    irqWrite (irqAccess n o v) d = hifError 4 n (irqAccess n o v).off (modSlice n (fun x => { x with irq := e1 }) d) := by
  simp [irqWrite_eq, irqAccess_slice ho, he, hp, hv]

/-- An entry in mode 0 left unmasked sends the message it owes. -/
theorem irqWrite_sends {e1 : IrqEntry} (he : irqStored (irqAccess n o v) (sliceOf d n).irq = e1) (hp : e1.pending = true)
    (hm : e1.masked = false) (hx : e1.msixMode = false) :
    irqWrite (irqAccess n o v) d =
      emit (.message e1.addr e1.data) (modSlice n (fun x => { x with irq := { e1 with pending := false } }) d) := by
  have hv : badVector e1 = false := by simp [badVector, hx]
  simp [irqWrite_eq, irqAccess_slice ho, he, hp, hm, hx, hv, sendMessage, modSlice_modSlice_same]

end

/-- A write of `MSG_DATA` changes the data alone. -/
theorem irqStored_data {n v : Nat} {e : IrqEntry} (he : IrqFits e) : irqStored (irqAccess n 8 v) e = { e with data := v % 2 ^ 32 } := by
  obtain ⟨hmask, hmode, hvec⟩ := msgCtrl_fields he.vector
  have haddr : merge (irqAccess n 8 v) (0x80000 + 16 * n) 8 e.addr = e.addr :=
    (merge_missed _ (.inl (by simp [irqAccess]))).trans (Nat.mod_eq_of_lt he.addr)
  have hdata : merge (irqAccess n 8 v) (0x80000 + 16 * n + 8) 4 e.data = v % 2 ^ 32 := merge_covered _ (by simp [irqAccess]) (by simp [irqAccess])
  have hctrl : merge (irqAccess n 8 v) (0x80000 + 16 * n + 12) 4 (msgCtrl e) = msgCtrl e :=
    (merge_missed _ (.inr (by simp [irqAccess]))).trans (Nat.mod_eq_of_lt (msgCtrl_lt he.vector))
  simp only [irqStored, irqAccess_slice (show 8 < 16 by decide), haddr, hdata, hctrl, hmask, hmode, hvec]

/-- A write of `MSG_CTRL` changes mask, mode and vector. -/
theorem irqStored_ctrl {n v : Nat} {e : IrqEntry} (he : IrqFits e) :
    irqStored (irqAccess n 12 v) e = { e with masked := bitAt v 0, msixMode := bitAt v 2, vector := bits v 26 16 } := by
  have haddr : merge (irqAccess n 12 v) (0x80000 + 16 * n) 8 e.addr = e.addr :=
    (merge_missed _ (.inl (by simp [irqAccess]))).trans (Nat.mod_eq_of_lt he.addr)
  have hdata : merge (irqAccess n 12 v) (0x80000 + 16 * n + 8) 4 e.data = e.data :=
    (merge_missed _ (.inl (by simp [irqAccess]))).trans (Nat.mod_eq_of_lt he.data)
  have hctrl : merge (irqAccess n 12 v) (0x80000 + 16 * n + 12) 4 (msgCtrl e) = v % 2 ^ 32 :=
    merge_covered _ (by simp [irqAccess]) (by simp [irqAccess])
  simp only [irqStored, irqAccess_slice (show 12 < 16 by decide), haddr, hdata, hctrl, bitAt_mod_two_pow v (show 0 < 32 by decide),
    bitAt_mod_two_pow v (show 2 < 32 by decide), bits_mod_two_pow v (show 16 ≤ 26 by decide) (show 26 < 32 by decide)]

theorem irqAccess_inStore {n o v : Nat} (hn : n < 4096) (ho : o < 16) :
    0x80000 ≤ (irqAccess n o v).off ∧ (irqAccess n o v).off < 0x90000 := by
  simp only [irqAccess]; omega

theorem plainWrite_irq {n o : Nat} (v : Nat) (d : Dev) (hn : n < 4096) (ho : o < 16) :
    plainWrite (irqAccess n o v) d = irqWrite (irqAccess n o v) d := by
  have hstore := irqAccess_inStore (v := v) hn ho
  have herr : touches (irqAccess n o v) 0x20 4 = false := by simp [touches]; omega
  have hfault : touches (irqAccess n o v) 0x400 4 = false := by simp [touches]; omega
  have hbox : ¬ ((0x100 ≤ (irqAccess n o v).off ∧ (irqAccess n o v).off < 0x200) ∨
      (0x1000 ≤ (irqAccess n o v).off ∧ (irqAccess n o v).off < 0x9000)) := by omega
  have hbar : ¬ (irqAccess n o v).bar = 4 := by simp [irqAccess]
  rw [plainWrite, if_neg hbar, herr, hfault, if_neg (by decide), if_neg (by decide), if_neg hbox, if_pos hstore]

theorem does_interruptMessageStoreWrite {s : State} {n o : Nat} (v : Nat) (hs : HostOpen s.dev) (hn : n < 4096) (ho : o < 16)
    (h4 : o % 4 = 0) : Does (.interruptMessageStoreWrite (irqAccess n o v)) s (irqWrite (irqAccess n o v) s.dev) := by
  have ha : PlainAccess (irqAccess n o v) := plainAccess_bar0 v (by omega) (.inl rfl) (by omega)
  have hunit : (barExists (irqAccess n o v) && (irqAccess n o v).write && (irqAccess n o v).bar == 0 &&
      decide (0x80000 ≤ (irqAccess n o v).off) && decide ((irqAccess n o v).off < 0x90000)) = true := by
    have hbar : (irqAccess n o v).bar = 0 := rfl
    simp [ha.inBar, ha.isWrite, hbar, irqAccess_inStore hn ho]
  rw [Does, exec_interruptMessageStoreWrite, execInterruptMessageStoreWrite, onUnit, if_pos hunit, watch_const, ha.hostWrite hs,
    plainWrite_irq v _ hn ho]

section
variable {s : State} {n : Nat} (v : Nat) (hs : HostOpen s.dev) (hn : n < 4096) (he : IrqFits (sliceOf s.dev n).irq)
include hs hn he

theorem interruptMessageStoreWrite_data (hp : (sliceOf s.dev n).irq.pending = false) (hv : badVector (sliceOf s.dev n).irq = false) :
    exec (.interruptMessageStoreWrite (irqAccess n 8 v)) s =
      .next { s with dev := modSlice n (fun x => { x with irq := { (sliceOf s.dev n).irq with data := v % 2 ^ 32 } }) s.dev } := by
  have hd := does_interruptMessageStoreWrite v hs hn (show 8 < 16 by decide) rfl
  rw [irqWrite_stores (by decide) (irqStored_data he) hp hv] at hd
  exact hd.next (devStatus_modSlice _ _ _)

theorem interruptMessageStoreWrite_ctrl (hp : (sliceOf s.dev n).irq.pending = false) (hv : bitAt v 2 = true → 16 ≤ bits v 26 16) :
    exec (.interruptMessageStoreWrite (irqAccess n 12 v)) s =
      .next { s with dev := modSlice n (fun x => { x with irq := { (sliceOf s.dev n).irq with
        masked := bitAt v 0, msixMode := bitAt v 2, vector := bits v 26 16 } }) s.dev } := by
  have hd := does_interruptMessageStoreWrite v hs hn (show 12 < 16 by decide) rfl
  rw [irqWrite_stores (by decide) (irqStored_ctrl he) hp (by simpa [badVector] using hv)] at hd
  exact hd.next (devStatus_modSlice _ _ _)

theorem interruptMessageStoreWrite_badVector (hp : (sliceOf s.dev n).irq.pending = false) (hm : bitAt v 2 = true) (hv : bits v 26 16 < 16) :
    Does (.interruptMessageStoreWrite (irqAccess n 12 v)) s (hifError 4 n (irqAccess n 12 v).off
      (modSlice n (fun x => { x with irq := { (sliceOf s.dev n).irq with
        masked := bitAt v 0, msixMode := true, vector := bits v 26 16 } }) s.dev)) := by
  have hd := does_interruptMessageStoreWrite v hs hn (show 12 < 16 by decide) rfl
  rwa [irqWrite_badVector (by decide) (irqStored_ctrl he) hp (by simp [badVector, hm, hv]), hm] at hd

theorem interruptMessageStoreWrite_sends (hp : (sliceOf s.dev n).irq.pending = true) (hmask : bitAt v 0 = false) (hmode : bitAt v 2 = false)
    (hm : (sliceOf s.dev n).irq.msixMode = false) :
    exec (.interruptMessageStoreWrite (irqAccess n 12 v)) s =
      .next { s with dev := emit (.message (sliceOf s.dev n).irq.addr (sliceOf s.dev n).irq.data) (modSlice n (fun x => { x with
        irq := { (sliceOf s.dev n).irq with masked := false, pending := false, vector := bits v 26 16 } }) s.dev) } := by
  have stored : irqStored (irqAccess n 12 v) (sliceOf s.dev n).irq =
      { (sliceOf s.dev n).irq with masked := false, vector := bits v 26 16 } := by
    simp [irqStored_ctrl he, hmask, hmode, hm]
  have hd := does_interruptMessageStoreWrite v hs hn (show 12 < 16 by decide) rfl
  rw [irqWrite_sends (by decide) stored hp rfl hm] at hd
  exact hd.next (devStatus_emit _ _)

end

/-! ## The obligation -/

/-- Settles O11: each register by its own lemma above, the interrupt message store by what an entry holds after the write. -/
theorem registerWrites : Obligations.RegisterWrites := by
  unfold Obligations.RegisterWrites
  constructor
  · intro s v hb hi
    have hs : HostOpen s.dev := ⟨hb, hi⟩
    exact ⟨registerWrite_err s v hs, registerWrite_faultStatus s v hs, fun n hn hf => registerWrite_sliceStatus s n v hs hn hf,
      fun m x hm hx h8 => registerWrite_window s m x v hs hm hx h8, fun n hn hp => registerWrite_msixAddr s n v hs hn hp,
      registerWrite_reserved s v hs⟩
  · intro s n v hb hi hn e w
    have hs : HostOpen s.dev := ⟨hb, hi⟩
    constructor
    · intro hp hdata haddr hvec hmode
      have he : IrqFits e := ⟨haddr, hdata, hvec⟩
      have hv : badVector e = false := by simpa [badVector] using hmode
      exact ⟨interruptMessageStoreWrite_data v hs hn he hp hv, interruptMessageStoreWrite_ctrl v hs hn he hp,
        interruptMessageStoreWrite_badVector v hs hn he hp⟩
    · intro hp hm hdata haddr hvec hmask hmode
      exact interruptMessageStoreWrite_sends v hs hn ⟨haddr, hdata, hvec⟩ hp hmask hmode hm

end Sys2Proof.Machine
end

section
/-! PROOF. What one step does (O1): the two cases of the queue, and the three rates at which an OCLK cycle moves the time base. -/

namespace Sys2Proof.Machine

/-! ## The queue -/

theorem step_front (c : Instr) (s : State) : step { s with pending := c :: s.pending } = exec c s := rfl

theorem step_empty {s : State} (h : s.pending = []) : step s = .next { s with dev := oclkTick s.dev } := by
  rw [step, h]

/-! ## One OCLK cycle (R25, R386) -/

/-- A secondary whose time base is ahead of its primary's, which therefore counts at half rate (R386). -/
def AheadOfPrimary (d : Dev) : Prop := d.pair.state = .paired ∧ d.pair.role = .secondary ∧ 0 < d.pair.ahead

theorem oclkTick_stopped {d : Dev} (h : d.sys.powered = false ∨ d.sys.inReset = true) : oclkTick d = d := by
  obtain h | h := h <;> simp [oclkTick, h]

theorem oclkTick_fullRate {d : Dev} (hp : d.sys.powered = true) (hr : d.sys.inReset = false) (ha : ¬ AheadOfPrimary d) :
    oclkTick d = { d with sys := { d.sys with time := (d.sys.time + 20) % 2 ^ 63, uptime := d.sys.uptime + 20 } } := by
  have half : (d.pair.state == .paired && d.pair.role == .secondary && decide (0 < d.pair.ahead)) = false := by
    simpa [AheadOfPrimary] using ha
  simp [oclkTick, hp, hr, half]

theorem oclkTick_halfRate {d : Dev} (hp : d.sys.powered = true) (hr : d.sys.inReset = false) (ha : AheadOfPrimary d) :
    oclkTick d = { d with
      sys := { d.sys with time := (d.sys.time + 10) % 2 ^ 63, uptime := d.sys.uptime + 20 }
      pair := { d.pair with ahead := d.pair.ahead - 10 } } := by
  obtain ⟨hstate, hrole, hahead⟩ := ha
  simp [oclkTick, hp, hr, hstate, hrole, hahead]

/-! ## The obligation -/

/-- Settles O1: the front of the queue by definition, and an empty queue by the rate at which an OCLK cycle counts. -/
theorem stepTakesTheFrontCommand : Obligations.StepTakesTheFrontCommand := by
  unfold Obligations.StepTakesTheFrontCommand
  refine ⟨step_front, fun s hq => ?_⟩
  rw [step_empty hq]
  refine ⟨fun h => ?_, fun hp hr ha => ?_, fun hp hr hstate hrole hahead => ?_⟩
  · rw [oclkTick_stopped h]
  · rw [oclkTick_fullRate hp hr ha]
  · rw [oclkTick_halfRate hp hr ⟨hstate, hrole, hahead⟩]

end Sys2Proof.Machine
end

section
/-! PROOF. The reset state (O4), the signal of a changed status word (O5), and the resets that start the device again (O8). -/

namespace Sys2Proof.Machine

/-! ## The reset state -/

theorem losesVolatile_reset : LosesVolatile State.reset.dev := ⟨rfl, rfl, rfl, rfl, rfl, rfl, rfl, rfl⟩

theorem keepsBits_refl {w : Nat} (a : BitVec w) : KeepsBits a a := BitVec.and_self

theorem keepsFuses_refl (f : Fuses) : KeepsFuses f f := by
  simp [KeepsFuses, keepsBits_refl]

/-- Settles O4: field by field from the state after reset; blank fuses keep themselves. -/
theorem resetState : Obligations.ResetState := by
  unfold Obligations.ResetState
  exact ⟨rfl, rfl, rfl, rfl, rfl, rfl, rfl, by decide, rfl, rfl, rfl, rfl, rfl, rfl, rfl, losesVolatile_reset, keepsFuses_refl _⟩

/-! ## Vector 8 (R40, R63) -/

/-- A watched device whose status word changed has been signalled. -/
theorem watch_changed {d d0 : Dev} (h : devStatus (watch (fun _ => d) d0) ≠ devStatus d0) : watch (fun _ => d) d0 = signal 8 d := by
  by_cases hs : devStatus d = devStatus d0
  · rw [watch_same (fun _ => d) d0 hs] at h
    exact absurd hs h
  · simp [watch, hs]

/-- A signalled vector leaves as the newest message, or is pending while it is masked or MSI-X is disabled (R35, R63). -/
theorem signal_sends_or_pends (v : Nat) (d : Dev) :
    ((signal v d).hif.msixEnable = true ∧ (Tab.getD (signal v d).hif.msix v {}).masked = false ∧ (signal v d).out.head? = some (.msix v)) ∨
      (((signal v d).hif.msixEnable = false ∨ (Tab.getD (signal v d).hif.msix v {}).masked = true) ∧ v ∈ (signal v d).hif.pba) := by
  unfold signal
  dsimp only
  split
  · next hopen =>
    left
    simpa using hopen
  · next hclosed =>
    have held : d.hif.msixEnable = false ∨ (Tab.getD d.hif.msix v {}).masked = true := by
      simpa [or_iff_not_imp_left] using hclosed
    right
    split
    · next hp => exact ⟨held, by simpa using hp⟩
    · exact ⟨held, List.mem_cons_self⟩

/-- Settles O5: a command that begins or ends no reset answers a watched device, and watching signals every change of the status word. -/
theorem statusChangeSignalsVector8 : Obligations.StatusChangeSignalsVector8 := by
  unfold Obligations.StatusChangeSignalsVector8
  intro c s t hc ht hchange
  have hreset : beginsOrEndsReset c = false := by
    cases c <;> simp [beginsOrEndsReset] at hc ⊢
  obtain ⟨d, f, rfl⟩ := exec_watched c s hreset t ht
  rw [watch_changed hchange]
  exact signal_sends_or_pends 8 d

/-! ## Hot reset, link-down and the scheduled resets (R34, R285, R367, R424) -/

/-- With the Strait down there is nobody to tell of the loss. -/
theorem relinquish_unkeyed {d : Dev} (h : straitKeyed d = false) : relinquish d = d := by
  simp [relinquish, h]

theorem settleSteps_nil {c : Cx} (h : c.d.pair.steps = []) : settleSteps c = c := by
  obtain ⟨d, f⟩ := c
  simp only at h
  simp only [settleSteps, h, List.filter_nil, List.foldl_nil, Cx.mod, modPair]
  rw [← h]

theorem enterReset_nil {port : Bool} {c : Cx} (h : c.d.pair.steps = []) : enterReset port c = c.mod (cleared port) := by
  rw [enterReset, settleSteps_nil h]

/-- A record is taken into the log's queue; what the log areas hold stays. -/
theorem raise_log (code source p1 p2 : Nat) (d : Dev) :
    ∃ g, raise code source p1 p2 d = { d with log := g } ∧ g.circ = d.log.circ ∧ g.perm = d.log.perm := by
  unfold raise
  simp only [accept, suppress]
  split_ifs <;> exact ⟨_, rfl, rfl, rfl⟩

/-- A record is all that sensing the life-cycle copies can leave. -/
theorem dissent_log (c : Cx) : ∃ g, dissent c = { c with d := { c.d with log := g } } ∧ g.circ = c.d.log.circ ∧ g.perm = c.d.log.perm := by
  unfold dissent
  dsimp only
  split
  · obtain ⟨g, hg, hareas⟩ := raise_log 0x2005 0xFFFF _ _ c.d
    exact ⟨g, congrArg (fun d => ({ c with d := d } : Cx)) hg, hareas⟩
  · exact ⟨_, rfl, rfl, rfl⟩

/-- The device as a start senses it: straps, fuses and the PUF's reading (R347, R377, R427). -/
def sensed (p : Pins) (cause : Nat) (c : Cx) : Dev :=
  { c.d with
    sys := { c.d.sys with
      powered := true
      inReset := false
      resetLow := false
      pairEn := p.pairEn
      preferPrimary := p.preferPrimary
      lc := sensedLc c.f
      pg40 := c.f.part == .pg40
      serial := c.f.serial.toNat
      cause := BitVec.ofNat 6 (2 ^ cause)
      pufReads := 1
      pufOk := p.pufOk && !c.f.secretsBlown }
    goose := { armed := true }
    pair := { state := if groupId c.f = 0 then .unpaired else .seeking } }

/-- A start with Skerry's share in place: the copies of the life cycle and the known-answer tests follow what is sensed, and an invalid life
cycle halts it. -/
theorem start_eq {p : Pins} {c : Cx} (cause : Nat) (hshare : c.d.sys.share ≠ .erased) :
    start p cause c =
      let c1 := (dissent { c with d := sensed p cause c }).mod (startTests p.katFails)
      if c1.d.sys.lc = 2 then c1.mod haltInvalid else c1 := by
  unfold start
  dsimp only
  rw [if_neg hshare]
  rfl

/-- What a start with its known-answer tests passed and a valid life cycle leaves of the device it starts on. -/
structure StartsOn (cause : Nat) (d t : Dev) : Prop where
  inReset : t.sys.inReset = false
  cause : t.sys.cause = BitVec.ofNat 6 (2 ^ cause)
  ready : t.sys.ready = d.sys.ready
  scheduled : t.sys.scheduled = d.sys.scheduled
  sched : t.sched = d.sched
  keys : t.keys = d.keys
  eng : t.eng = d.eng
  fen : t.fen = d.fen
  mg : t.mg = d.mg
  inst : t.rng.inst = d.rng.inst
  store : t.store = d.store
  fw : t.fw = d.fw
  hif : t.hif = d.hif
  circ : t.log.circ = d.log.circ
  perm : t.log.perm = d.log.perm

theorem start_startsOn {p : Pins} {c : Cx} (cause : Nat) (hkat : p.katFails = 0) (hshare : c.d.sys.share ≠ .erased)
    (hlc : sensedLc c.f ≠ 2) : StartsOn cause c.d (start p cause c).d := by
  obtain ⟨g, hg, hcirc, hperm⟩ := dissent_log { c with d := sensed p cause c }
  have hvalid : ¬ (sensed p cause c).sys.lc = 2 := hlc
  simp only [start_eq cause hshare, hg, hkat, startTests, if_true, Cx.mod_d, modRng_sys, if_neg hvalid]
  exact ⟨rfl, rfl, rfl, rfl, rfl, rfl, rfl, rfl, rfl, rfl, rfl, rfl, rfl, hcirc, hperm⟩

/-- A reset of a running device with no step under way starts it again from what the reset keeps. -/
theorem hostReset_startsOn {p : Pins} {s : State} (cause : Nat) (hkat : p.katFails = 0) (hsteps : s.dev.pair.steps = [])
    (hperst : s.dev.sys.perstHigh = true) (hkey : straitKeyed s.dev = false) (hshare : s.dev.sys.share ≠ .erased)
    (hlc : sensedLc s.fuse ≠ 2) : StartsOn cause (cleared true s.dev) (hostReset p cause s.cx).d := by
  have hc : enterReset true (s.cx.mod relinquish) = s.cx.mod (cleared true) := by
    rw [show s.cx.mod relinquish = s.cx by simp [Cx.mod, relinquish_unkeyed hkey, State.cx], enterReset_nil hsteps]
  have hp : (s.cx.mod (cleared true)).d.sys.perstHigh = true := hperst
  rw [hostReset, hc]
  simp only [hp, if_true]
  exact start_startsOn (c := s.cx.mod (cleared true)) cause hkat hshare hlc

/-- Settles O8: each of the resets leaves what `cleared` keeps, and the start on it changes none of the rest. -/
theorem hostResetsRestartTheDevice : Obligations.HostResetsRestartTheDevice := by
  unfold Obligations.HostResetsRestartTheDevice
  intro s p hkat hsteps halive hperst hkey hshare hlc again
  have restarts : ∀ {cause d f}, StartsOn cause (cleared true s.dev) d → again cause { s with dev := d, fuse := f } := fun h => by
    refine ⟨rfl, h.inReset, h.ready, h.cause, h.scheduled, h.sched, h.keys, h.eng, h.fen, ?_, ?_, h.inst, h.store, ?_, ?_, ?_, ?_, ?_, ?_,
      h.circ, h.perm, ?_⟩ <;> simp [h.mg, h.fw, h.hif, cleared]
  have starts := fun cause => restarts (f := (hostReset p cause s.cx).f) (hostReset_startsOn cause hkat hsteps hperst hkey hshare hlc)
  have hlinked : linked s.dev = true := by simp [linked, halive, hperst]
  refine ⟨⟨_, ?_, starts 2⟩, ⟨_, ?_, starts 3⟩, fun hr => ⟨_, ?_, starts 4⟩, fun hr => ⟨_, ?_, starts 5⟩⟩
  · rw [exec_hotReset, execHotReset, if_pos hlinked, resetTo]
  · rw [exec_linkDown, execLinkDown, if_pos hlinked, resetTo]
  · rw [exec_devResetStart, execDevResetStart, hr]
    simp only [halive, if_true, resetTo]
  · rw [exec_devResetStart, execDevResetStart, hr]
    simp only [halive, if_true, resetTo]

end Sys2Proof.Machine
end

section
/-! PROOF. Configuration requests (O9): what enabling and disabling MSI-X releases, and then one capability after the other. -/

namespace Sys2Proof.Machine

/-! ## Pending messages (R35) -/

/-- The device with its pending bits and its output replaced: what a release of pending messages can change. -/
def withPending (d : Dev) (pba : List Nat) (out : List Out) : Dev := { d with hif := { d.hif with pba := pba }, out := out }

/-- One pending vector is sent where nothing holds it back. -/
def releaseOne (d : Dev) (v : Nat) : Dev :=
  if d.hif.msixEnable && !(Tab.getD d.hif.msix v {}).masked then
    emit (.msix v) (modHif (fun h => { h with pba := h.pba.filter (· != v) }) d)
  else d

theorem releaseMsix_eq (d : Dev) : releaseMsix d = d.hif.pba.foldl releaseOne d := rfl

theorem releaseOne_disabled {d : Dev} (h : d.hif.msixEnable = false) (v : Nat) : releaseOne d v = d := by
  simp [releaseOne, h]

theorem releaseMsix_disabled {d : Dev} (h : d.hif.msixEnable = false) : releaseMsix d = d := by
  rw [releaseMsix_eq]
  generalize d.hif.pba = l
  induction l with
  | nil => rfl
  | cons v l ih => rw [List.foldl_cons, releaseOne_disabled h, ih]

/-- With MSI-X enabled, a vector that one release leaves pending was pending, and is masked if it was its turn. -/
theorem releaseOne_enabled {d : Dev} (h : d.hif.msixEnable = true) (v : Nat) :
    ∃ pba out, releaseOne d v = withPending d pba out ∧
      ∀ w ∈ pba, w ∈ d.hif.pba ∧ (w = v → (Tab.getD d.hif.msix w {}).masked = true) := by
  by_cases hm : (Tab.getD d.hif.msix v {}).masked = true
  · exact ⟨d.hif.pba, d.out, by simp [releaseOne, hm, withPending], fun w hw => ⟨hw, fun e => e ▸ hm⟩⟩
  · refine ⟨d.hif.pba.filter (· != v), .msix v :: d.out, by simp [releaseOne, h, hm, withPending, emit, modHif], fun w hw => ?_⟩
    obtain ⟨hmem, hne⟩ := List.mem_filter.mp hw
    exact ⟨hmem, fun e => absurd e (by simpa using hne)⟩

/-- With MSI-X enabled, of the vectors whose turn comes the masked ones alone stay pending. -/
theorem foldl_releaseOne_enabled (l : List Nat) : ∀ {d : Dev}, d.hif.msixEnable = true →
    ∃ pba out, l.foldl releaseOne d = withPending d pba out ∧
      ∀ w ∈ pba, w ∈ d.hif.pba ∧ (w ∈ l → (Tab.getD d.hif.msix w {}).masked = true) := by
  induction l with
  | nil => exact fun {d} _ => ⟨d.hif.pba, d.out, rfl, fun w hw => ⟨hw, by simp⟩⟩
  | cons v l ih =>
    intro d h
    obtain ⟨pba1, out1, h1, hp1⟩ := releaseOne_enabled h v
    obtain ⟨pba2, out2, h2, hp2⟩ := ih (d := withPending d pba1 out1) h
    refine ⟨pba2, out2, by rw [List.foldl_cons, h1, h2]; rfl, fun w hw => ?_⟩
    obtain ⟨hmem, hlater⟩ := hp2 w hw
    obtain ⟨hold, hturn⟩ := hp1 w hmem
    exact ⟨hold, fun hin => (List.mem_cons.mp hin).elim hturn hlater⟩

theorem releaseMsix_enabled {d : Dev} (h : d.hif.msixEnable = true) :
    ∃ pba out, releaseMsix d = withPending d pba out ∧ ∀ w ∈ pba, (Tab.getD d.hif.msix w {}).masked = true := by
  obtain ⟨pba, out, heq, hp⟩ := foldl_releaseOne_enabled d.hif.pba h
  exact ⟨pba, out, heq, fun w hw => (hp w hw).2 (hp w hw).1⟩

/-! ## Requests (R31 to R35, R64, R65, R425) -/

/-- A configuration request taken up: what it does to the capability it addresses. -/
def configWritten (op : ConfigOp) (d : Dev) : Dev :=
  match op with
  | .read | .otherWrite => d
  | .relaxedOrdering on => modHif (fun h => { h with relaxedOrdering := on }) d
  | .virtualChannel en tc => modHif (fun h => { h with vc1Enable := en, tc7Alone := tc }) d
  | .completionTimeout v => modHif (fun h => { h with cplTimeout := v }) d
  | .msixEnable on => releaseMsix (modHif (fun h => { h with msixEnable := on }) d)

section
variable {s : State} (ha : alive s.dev = true) (hp : s.dev.sys.perstHigh = true)
include ha hp

theorem does_configurationRequest_retried (op : ConfigOp) (h : s.dev.sys.stage < 4) :
    Does (.configurationRequest op) s (emit (.configAnswer true) s.dev) := by
  rw [Does, exec_configurationRequest, execConfigurationRequest, onDev, watch_const]
  simp [ha, hp, h]

theorem does_configurationRequest (op : ConfigOp) (h : 4 ≤ s.dev.sys.stage) :
    Does (.configurationRequest op) s (emit (.configAnswer false) (configWritten op s.dev)) := by
  rw [Does, exec_configurationRequest, execConfigurationRequest, onDev, watch_const]
  simp only [ha, hp, Nat.not_lt.mpr h, Bool.not_true, Bool.or_self, Bool.false_eq_true, if_false]
  cases op <;> rfl

/-- Enabling MSI-X sends what no mask holds back. -/
theorem configurationRequest_msixEnable (h : 4 ≤ s.dev.sys.stage) :
    ∃ t, exec (.configurationRequest (.msixEnable true)) s = .next t ∧ t.dev.hif.msixEnable = true ∧
      t.dev.out.head? = some (.configAnswer false) ∧ ∀ v ∈ t.dev.hif.pba, (Tab.getD s.dev.hif.msix v {}).masked = true := by
  obtain ⟨pba, out, heq, hmasked⟩ := releaseMsix_enabled (d := modHif (fun h => { h with msixEnable := true }) s.dev) rfl
  have hd := does_configurationRequest ha hp (.msixEnable true) h
  rw [configWritten, heq] at hd
  exact ⟨_, hd.next rfl, rfl, rfl, hmasked⟩

theorem does_unsupportedRequest (k : UrKind) :
    Does (.unsupportedRequest k) s (emit (.barAnswer .unsupportedRequest 0) (modHif (fun h => { h with aerUnsupported := true }) s.dev)) := by
  rw [Does, exec_unsupportedRequest, execUnsupportedRequest, onDev, watch_const]
  simp [ha, hp]

theorem linkRetrain_sets {speed width : Nat} (hspeed : speed ∈ [64, 32, 16, 8, 5, 2]) (hwidth : width ∈ [16, 8, 4, 2, 1]) :
    exec (.linkRetrain speed width) s =
      .next { s with dev := { s.dev with sys := { s.dev.sys with linkSpeed := speed, linkWidth := width } } } := by
  have hd : Does (.linkRetrain speed width) s { s.dev with sys := { s.dev.sys with linkSpeed := speed, linkWidth := width } } := by
    have hunit : ([64, 32, 16, 8, 5, 2].contains speed && [16, 8, 4, 2, 1].contains width) = true := by
      simp only [List.contains_iff_mem.mpr hspeed, List.contains_iff_mem.mpr hwidth, Bool.and_self]
    rw [Does, exec_linkRetrain, execLinkRetrain, onUnit, if_pos hunit, watch_const]
    simp [ha, hp]
  exact hd.next rfl

end

/-- Settles O9: retried before stage 4, and each capability as `configWritten` says after it. -/
theorem configurationRequests : Obligations.ConfigurationRequests := by
  unfold Obligations.ConfigurationRequests
  intro s ha hp
  refine ⟨fun op h => does_configurationRequest_retried ha hp op h, fun h => ?_, fun k => does_unsupportedRequest ha hp k,
    fun _ _ hspeed hwidth => linkRetrain_sets ha hp hspeed hwidth⟩
  have does := fun op => does_configurationRequest ha hp op h
  refine ⟨does .read, does .otherWrite, fun on => does (.relaxedOrdering on), fun en tc => does (.virtualChannel en tc),
    fun v => does (.completionTimeout v), ?_, configurationRequest_msixEnable ha hp h⟩
  have hd := does (.msixEnable false)
  rwa [configWritten, releaseMsix_disabled rfl] at hd

end Sys2Proof.Machine
end

section
/-! PROOF. SPDM over DOE: negotiation, certificates and measurements (O16), and secured sessions (O17). -/

namespace Sys2Proof.Machine

/-! ## The frame of every DOE object (R68) -/

theorem onDoe_tooLong {code : Nat} {r : DoeReq} {f : Dev → Option (Dev × List Byte)} {s : State} (hb : barsOpen s.dev = true)
    (hl : 4096 < r.len) : onDoe code r f s = .next { s with dev := watch (fun _ => emit (.doe code 2 []) s.dev) s.dev } := by
  rw [onDoe, onDev, watch_const]
  simp [hb, hl, doeAnswer]

section
variable {s : State} {r : DoeReq} {code : Nat} {f : Dev → Option (Dev × List Byte)} (hb : barsOpen s.dev = true) (hl : r.len ≤ 4096)
include hb hl

theorem onDoe_answers {d : Dev} {data : List Byte} (hf : f s.dev = some (d, data)) :
    onDoe code r f s = .next { s with dev := watch (fun _ => emit (.doe code 0 data) d) s.dev } := by
  rw [onDoe, onDev, watch_const]
  simp [hb, Nat.not_lt.mpr hl, hf, doeAnswer]

theorem onDoe_errs (hf : f s.dev = none) :
    onDoe code r f s = .next { s with dev := watch (fun _ => emit (.doe code 1 []) s.dev) s.dev } := by
  rw [onDoe, onDev, watch_const]
  simp [hb, Nat.not_lt.mpr hl, hf, doeAnswer]

end

/-! ## Negotiation, certificates and measurements (R68, R69) -/

theorem atPhase_of_le {n : Nat} {d : Dev} (h : n ≤ d.hif.spdmPhase) : atPhase n d = true := by simpa [atPhase] using h

theorem certSlot_zero (d : Dev) : certSlot d 0 = (d.sys.lc != 2) := by simp [certSlot]

theorem certSlot_one (d : Dev) : certSlot d 1 = (d.sys.lc == 1) := by simp [certSlot]

/-- The slots that the manual gives chains in a life cycle (R68, R364, R365). -/
theorem certSlot_of {d : Dev} {k : Nat} (h : (k = 0 ∧ d.sys.lc ≠ 2) ∨ (k = 1 ∧ d.sys.lc = 1)) : certSlot d k = true := by
  obtain ⟨rfl, h⟩ | ⟨rfl, h⟩ := h
  · simpa [certSlot_zero] using h
  · simpa [certSlot_one] using h

section
variable {s : State} {r : DoeReq} (hb : barsOpen s.dev = true) (hl : r.len ≤ 4096)
include hb hl

theorem does_doeDiscovery : Does (.doeDiscovery r) s (emit (.doe 0 0 [0, 1, 2]) s.dev) :=
  (exec_doeDiscovery r s).trans (onDoe_answers hb hl rfl)

theorem does_getVersion :
    Does (.getVersion r) s (emit (.doe 0x84 0 [0x00, 0x13]) { s.dev with hif := { s.dev.hif with spdmPhase := 1 } }) :=
  (exec_getVersion r s).trans (onDoe_answers hb hl rfl)

theorem does_getCapabilities (h : 1 ≤ s.dev.hif.spdmPhase) :
    Does (.getCapabilities r) s (emit (.doe 0xE1 0 []) { s.dev with hif := { s.dev.hif with spdmPhase := 2 } }) :=
  (exec_getCapabilities r s).trans (onDoe_answers hb hl (by rw [atPhase_of_le h]; rfl))

theorem does_negotiateAlgorithms (h : 2 ≤ s.dev.hif.spdmPhase) :
    Does (.negotiateAlgorithms r) s (emit (.doe 0xE3 0 []) { s.dev with hif := { s.dev.hif with spdmPhase := 3 } }) :=
  (exec_negotiateAlgorithms r s).trans (onDoe_answers hb hl (by rw [atPhase_of_le h]; rfl))

theorem does_negotiateAlgorithms_early (h : s.dev.hif.spdmPhase < 2) : Does (.negotiateAlgorithms r) s (emit (.doe 0xE3 1 []) s.dev) :=
  (exec_negotiateAlgorithms r s).trans (onDoe_errs hb hl (by simp [atPhase, h]))

theorem does_getDigests_invalid (h : s.dev.sys.lc = 2) : Does (.getDigests r) s (emit (.doe 0x81 1 []) s.dev) :=
  (exec_getDigests r s).trans (onDoe_errs hb hl (by simp [certSlot_zero, h]))

section
variable (h3 : 3 ≤ s.dev.hif.spdmPhase)
include h3

theorem does_getDigests (h : s.dev.sys.lc ≠ 2) :
    Does (.getDigests r) s (emit (.doe 0x81 0 (([0, 1].filter (certSlot s.dev)).map (fun k => sha384 (slotChain k))).flatten) s.dev) :=
  (exec_getDigests r s).trans (onDoe_answers hb hl (by simp only [atPhase_of_le h3, certSlot_of (.inl ⟨rfl, h⟩), Bool.and_self, if_true]))

theorem does_getDigests_open (h : s.dev.sys.lc = 0) : Does (.getDigests r) s (emit (.doe 0x81 0 (sha384 (slotChain 0))) s.dev) := by
  have hd := does_getDigests hb hl h3 (by rw [h]; decide)
  simpa [List.filter_cons, certSlot_zero, certSlot_one, h] using hd

theorem does_getDigests_closed (h : s.dev.sys.lc = 1) :
    Does (.getDigests r) s (emit (.doe 0x81 0 (sha384 (slotChain 0) ++ sha384 (slotChain 1))) s.dev) := by
  have hd := does_getDigests hb hl h3 (by rw [h]; decide)
  simpa [List.filter_cons, certSlot_zero, certSlot_one, h] using hd

theorem does_getCertificate (h : certSlot s.dev r.a = true) : Does (.getCertificate r) s (emit (.doe 0x82 0 (slotChain r.a)) s.dev) :=
  (exec_getCertificate r s).trans (onDoe_answers hb hl (by simp only [atPhase_of_le h3, h, Bool.and_self, if_true]))

theorem does_challenge (h : certSlot s.dev r.a = true) :
    Does (.challenge r) s (emit (.doe 0x83 0
      (sha384 (slotChain r.a) ++ beBytes 96 (Config.deviceSign r.a (leBytes 8 s.dev.sys.serial)))) s.dev) :=
  (exec_challenge r s).trans (onDoe_answers hb hl (by simp only [atPhase_of_le h3, h, Bool.and_self, if_true]))

/-- The measurements a request names: one, or all seven (R69). -/
def measured (r : DoeReq) : List Nat := if r.a = 0xFF then List.range' 1 7 else [r.a]

theorem does_getMeasurements (hk : (measured r).all (fun k => decide (1 ≤ k) && decide (k ≤ 7)) = true) (hs : r.b = 0 ∨ s.dev.sys.lc ≠ 2) :
    Does (.getMeasurements r) s (emit (.doe 0xE0 0
      (let data := ((measured r).map (measurement s.cx)).flatten
       if r.b = 0 then data else data ++ beBytes 96 (Config.deviceSign 0 data))) s.dev) := by
  refine (exec_getMeasurements r s).trans (onDoe_answers hb hl ?_)
  have hsign : (r.b != 0 && !certSlot s.dev 0) = false := by
    obtain h | h := hs
    · simp [h]
    · simp [certSlot_zero, h]
  unfold measured at hk
  simp only [atPhase_of_le h3, hk, hsign, Bool.not_true, Bool.or_self, Bool.false_eq_true, if_false]
  rfl

theorem does_getMeasurements_one (h1 : 1 ≤ r.a) (h7 : r.a ≤ 7) (hs : r.b = 0 ∨ s.dev.sys.lc ≠ 2) :
    Does (.getMeasurements r) s (emit (.doe 0xE0 0
      (if r.b = 0 then measurement s.cx r.a else measurement s.cx r.a ++ beBytes 96 (Config.deviceSign 0 (measurement s.cx r.a)))) s.dev) := by
  have hm : measured r = [r.a] := if_neg (by omega)
  have hd := does_getMeasurements hb hl h3 (by simp [hm, h1, h7]) hs
  simpa [hm] using hd

theorem does_getMeasurements_all (ha : r.a = 0xFF) (h0 : r.b = 0) :
    Does (.getMeasurements r) s (emit (.doe 0xE0 0 ([1, 2, 3, 4, 5, 6, 7].flatMap (measurement s.cx))) s.dev) := by
  have hm : measured r = [1, 2, 3, 4, 5, 6, 7] := if_pos ha
  have hd := does_getMeasurements hb hl h3 (by rw [hm]; decide) (.inl h0)
  simpa only [hm, h0, if_true, List.flatMap_def] using hd

end
end

/-- Settles O16: one lemma for each request, from the frame of DOE objects. -/
theorem spdmNegotiation : Obligations.SpdmNegotiation := by
  unfold Obligations.SpdmNegotiation
  intro s r hb
  refine ⟨fun hl => (exec_getVersion r s).trans (onDoe_tooLong hb hl), fun hl => ⟨does_doeDiscovery hb hl, does_getVersion hb hl,
    does_getCapabilities hb hl, does_negotiateAlgorithms hb hl, does_negotiateAlgorithms_early hb hl, fun h3 => ?_⟩⟩
  refine ⟨does_getDigests_open hb hl h3, does_getDigests_closed hb hl h3, does_getDigests_invalid hb hl,
    fun h => ⟨does_getCertificate hb hl h3 (certSlot_of h), does_challenge hb hl h3 (certSlot_of h)⟩,
    fun h1 h7 => ⟨fun h0 => ?_, fun h0 hlc => ?_⟩, does_getMeasurements_all hb hl h3⟩
  · simpa only [h0, if_true] using does_getMeasurements_one hb hl h3 h1 h7 (.inl h0)
  · simpa only [h0, if_false] using does_getMeasurements_one hb hl h3 h1 h7 (.inr hlc)

/-! ## Secured sessions (R67, R68) -/

theorem secured_found {d : Dev} {r : DoeReq} {k : Nat} {x : SpdmSession} (hk : r.session = some k) (hx : Tab.find d.hif.spdm k = some x)
    (hf : x.finished = true) (hok : r.ok = true) : secured d r = some (k, x) := by
  simp [secured, hk, hx, hf, hok]

theorem secured_outside {d : Dev} {r : DoeReq} (h : r.session = none) : secured d r = none := by
  simp [secured, h]

section
variable {s : State} {r : DoeReq} (hb : barsOpen s.dev = true) (hl : r.len ≤ 4096)
include hb hl

theorem does_keyExchange (h3 : 3 ≤ s.dev.hif.spdmPhase) (hok : r.ok = true) (hc : certSlot s.dev r.a = true)
    (h4 : s.dev.hif.spdm.length < 4) :
    Does (.keyExchange r) s (emit (.doe 0xE4 0 (leBytes 4 s.dev.hif.spdmNext ++ beBytes 96 (Config.ephemeral 0 s.dev.hif.spdmNext)))
      (modHif (fun h => { h with spdm := Tab.put h.spdm h.spdmNext {}, spdmNext := h.spdmNext + 1 }) s.dev)) := by
  refine (exec_keyExchange r s).trans (onDoe_answers hb hl ?_)
  simp [atPhase_of_le h3, hok, hc, h4, modHif]

theorem does_keyExchange_fifth (h4 : 4 ≤ s.dev.hif.spdm.length) : Does (.keyExchange r) s (emit (.doe 0xE4 1 []) s.dev) := by
  refine (exec_keyExchange r s).trans (onDoe_errs hb hl ?_)
  simp [h4]

theorem does_finish_outside (h : r.session = none) : Does (.finish r) s (emit (.doe 0xE5 1 []) s.dev) := by
  rw [Does, exec_finish, execFinish, onDev, watch_const]
  simp [hb, Nat.not_lt.mpr hl, h, doeAnswer]

section
variable {k : Nat} {x : SpdmSession} (hk : r.session = some k) (hx : Tab.find s.dev.hif.spdm k = some x)
include hk hx

theorem does_finish (hf : x.finished = false) (hok : r.ok = true) :
    Does (.finish r) s (emit (.doe 0xE5 0 []) (modHif (fun h => { h with spdm := Tab.put h.spdm k { x with finished := true } }) s.dev)) := by
  rw [Does, exec_finish, execFinish, onDev, watch_const]
  simp [hb, Nat.not_lt.mpr hl, hk, hx, hf, hok, doeAnswer]

theorem does_finish_failed (hf : x.finished = false) (hok : r.ok = false) :
    Does (.finish r) s (emit (.doe 0xE5 1 []) (modHif (fun h => { h with spdm := Tab.del h.spdm k }) s.dev)) := by
  rw [Does, exec_finish, execFinish, onDev, watch_const]
  simp [hb, Nat.not_lt.mpr hl, hk, hx, hf, hok, doeAnswer]

end

section
variable {k : Nat} {x : SpdmSession} (hs : secured s.dev r = some (k, x))
include hs

theorem does_heartbeatSpdm : Does (.heartbeatSpdm r) s (emit (.doe 0xE8 0 []) s.dev) :=
  (exec_heartbeatSpdm r s).trans (onDoe_answers hb hl (by simp [hs]))

theorem does_keyUpdate :
    Does (.keyUpdate r) s
      (emit (.doe 0xE9 0 []) (modHif (fun h => { h with spdm := Tab.put h.spdm k { x with updates := x.updates + 1 } }) s.dev)) :=
  (exec_keyUpdate r s).trans (onDoe_answers hb hl (by simp [hs]))

theorem does_endSession : Does (.endSession r) s (emit (.doe 0xEC 0 []) (modHif (fun h => { h with spdm := Tab.del h.spdm k }) s.dev)) :=
  (exec_endSession r s).trans (onDoe_answers hb hl (by simp [hs]))

theorem does_ideKm_keyed (hr : r.b < 9) (ha : r.a = 1) :
    Does (.ideKm r) s (emit (.doe 0xFE 0 []) (modHif (fun h => { h with ide := Tab.put h.ide r.b { keyed := true } }) s.dev)) :=
  (exec_ideKm r s).trans (onDoe_answers hb hl (by simp [hs, hr, ha]))

theorem does_ideKm_stopped (hr : r.b < 9) (ha : r.a = 2) :
    Does (.ideKm r) s (emit (.doe 0xFE 0 []) (modHif (fun h => { h with ide := Tab.del h.ide r.b }) s.dev)) :=
  (exec_ideKm r s).trans (onDoe_answers hb hl (by simp [hs, hr, ha]))

theorem does_ideKm_query (hr : r.b < 9) (ha : r.a = 0) : Does (.ideKm r) s (emit (.doe 0xFE 0 []) s.dev) :=
  (exec_ideKm r s).trans (onDoe_answers hb hl (by simp [hs, hr, ha]))

end
end

/-- Settles O17: the exchange by the number of sessions, `FINISH` by its own check, and the rest inside a session that is found secured. -/
theorem spdmSessions : Obligations.SpdmSessions := by
  unfold Obligations.SpdmSessions
  intro s r hb hl h
  refine ⟨fun h3 hok hc => ⟨does_keyExchange hb hl h3 hok hc, does_keyExchange_fifth hb hl⟩, fun k x hk hx => ?_, fun hnone => ?_⟩
  · refine ⟨does_finish hb hl hk hx, does_finish_failed hb hl hk hx, fun hf hok => ?_⟩
    have hs := secured_found hk hx hf hok
    exact ⟨does_heartbeatSpdm hb hl hs, does_keyUpdate hb hl hs, does_endSession hb hl hs, does_ideKm_keyed hb hl hs,
      does_ideKm_stopped hb hl hs, does_ideKm_query hb hl hs⟩
  · exact ⟨(exec_heartbeatSpdm r s).trans (onDoe_errs hb hl (by simp [secured_outside hnone])), does_finish_outside hb hl hnone⟩

end Sys2Proof.Machine
end

section
/-! PROOF. Failed reads of the device and failed IDE checks (O15). -/

namespace Sys2Proof.Machine

/-! ## What a failed read comes to (R65, R66) -/

theorem serving_aerRead {d : Dev} (f : ReadFail) (h : serving d = true) : serving (aerRead f d) = true := h

theorem runningOn_aerRead {d : Dev} {c t : Nat} {e : Nat × Item} (f : ReadFail) (h : runningOn d c t = some e) :
    runningOn (aerRead f d) c t = some e := h

theorem fetches_aerRead {d : Dev} {n ring : Nat} (f : ReadFail) (h : (ringOf (sliceOf d n) ring).fetches ≠ []) :
    (ringOf (sliceOf (aerRead f d) n) ring).fetches ≠ [] := h

/-- The read of an item at work ends it with `ST_DMA_FAULT`. -/
theorem itemReadFailed_atWork {d : Dev} {c t id : Nat} {i : Item} (what : Nat) (f : ReadFail) (addr : Nat)
    (hrun : runningOn d c t = some (id, i)) (hres : i.res = none) (hwait : i.wait = .none) (habort : i.abort = false) :
    itemReadFailed c t what f addr d = setRes id { status := .dmaFault } (dmaFailed i.slice i.ring what f addr d) := by
  simp [itemReadFailed, hrun, hres, hwait, habort]

/-- A failed fetch that was outstanding halts its ring. -/
theorem fetchFailed_outstanding {d : Dev} {n ring : Nat} (f : ReadFail) (addr : Nat) (h : (ringOf (sliceOf d n) ring).fetches ≠ []) :
    fetchFailed n ring f addr d = checkDrained n (haltRecord n ring (dmaFailed n ring 3 f addr (modRing n ring (fun x => { x with
      halted := true, haltOwed := true, fetches := x.fetches.tail, inflight := x.inflight - 1 }) d))) := by
  simp [fetchFailed, h]

/-- A row that reports a failed read sets the AER error of its cause and fails the read. -/
theorem does_readFailed {i : Instr} {s : State} {r : ReadFor} {f : ReadFail} {addr : Nat} (hs : serving s.dev = true)
    (hrow : exec i s = onUnit (readUnit s.dev r) (fun d => if serving d then readFailed r f addr (aerRead f d) else d) s)
    (hunit : readUnit s.dev r = true) : Does i s (readFailed r f addr (aerRead f s.dev)) := by
  rw [Does, hrow, onUnit, if_pos hunit, watch_const, if_pos hs]

section
variable {d : Dev} (hs : serving d = true)
include hs

theorem readFailed_input (c t : Nat) (f : ReadFail) (addr : Nat) : readFailed (.input c t) f addr d = itemReadFailed c t 1 f addr d := by
  simp [readFailed, hs]

theorem readFailed_keyBlock (c t : Nat) (f : ReadFail) (addr : Nat) :
    readFailed (.keyBlock c t) f addr d = itemReadFailed c t 2 f addr d := by
  simp [readFailed, hs]

theorem readFailed_descriptor (n ring : Nat) (f : ReadFail) (addr : Nat) :
    readFailed (.descriptor n ring) f addr d = fetchFailed n ring f addr d := by
  simp [readFailed, hs]

end

/-! ## A failed IDE check (R67) -/

/-- A keyed stream that is still secure goes Insecure, and its outstanding reads fail. -/
theorem does_ideCheckFail {s : State} {stream : Nat} {rs : List ReadFor} (hstream : stream < 9) (hunits : rs.all (readUnit s.dev) = true)
    (hb : barsOpen s.dev = true) (hk : (Tab.getD s.dev.hif.ide stream {}).keyed = true)
    (hi : (Tab.getD s.dev.hif.ide stream {}).insecure = false) :
    Does (.ideCheckFail stream rs) s (rs.foldl (fun d r => readFailed r .ide 0 d)
      (raise 0x9011 0xFFFF stream 0 (hifError 2 0 0 (aerRead .ide (modHif (fun h => { h with
        ide := Tab.put h.ide stream { keyed := true, insecure := true } }) s.dev))))) := by
  rw [Does, exec_ideCheckFail, execIdeCheckFail, onUnit, if_pos (by rw [hunits]; simpa using hstream), watch_const]
  simp [hb, hk, hi]

/-- Settles O15: what the failed read was for decides its effect, whichever row reports it. -/
theorem failedReads : Obligations.FailedReads := by
  unfold Obligations.FailedReads
  intro s hs reads
  have fails : ∀ i r f addr,
      exec i s = onUnit (readUnit s.dev r) (fun d => if serving d then readFailed r f addr (aerRead f d) else d) s → reads i r f addr := by
    intro i r f addr hrow
    have does := does_readFailed hs hrow
    cases r with
    | input c t =>
      intro id i' hrun hres hwait habort hthread
      rw [readFailed_input (serving_aerRead f hs), itemReadFailed_atWork 1 f addr (runningOn_aerRead f hrun) hres hwait habort] at does
      exact does hthread
    | keyBlock c t =>
      intro id i' hrun hres hwait habort hthread
      rw [readFailed_keyBlock (serving_aerRead f hs), itemReadFailed_atWork 2 f addr (runningOn_aerRead f hrun) hres hwait habort] at does
      exact does hthread
    | descriptor n ring =>
      intro hn hring hf
      rw [readFailed_descriptor (serving_aerRead f hs), fetchFailed_outstanding f addr (fetches_aerRead f hf)] at does
      exact does (by simp [readUnit, hn, hring])
  exact ⟨fun r f addr => fails _ r f addr (exec_dmaReadFault r f addr s),
    fun r addr => fails _ r .timeout addr (exec_pcieCompletionTimeout r addr s),
    fun _ _ hstream hunits hb hk hi => does_ideCheckFail hstream hunits hb hk hi⟩

end Sys2Proof.Machine
end

section
/-! PROOF. What the work of Sheepdog and the host interface never takes back: an item that is gone stays gone, and what has left the device
stays sent. One lemma for each operation a finished item runs through. -/

namespace Sys2Proof.Machine

/-- From `d` to `e` no item comes back, and the output only grows. -/
structure Advances (d e : Dev) : Prop where
  gone : ∀ id, itemOf d id = none → itemOf e id = none
  sent : d.out <:+ e.out

namespace Advances

theorem refl (d : Dev) : Advances d d := ⟨fun _ h => h, List.suffix_refl _⟩

theorem trans {d e f : Dev} (h1 : Advances d e) (h2 : Advances e f) : Advances d f :=
  ⟨fun id h => h2.gone id (h1.gone id h), h1.sent.trans h2.sent⟩

/-- A change of neither the items nor the output. -/
theorem of_same {d e : Dev} (hs : e.sched.items = d.sched.items) (ho : e.out = d.out) : Advances d e :=
  ⟨fun id h => by rwa [itemOf, hs], by rw [ho]⟩

/-- Such a change before an operation. -/
theorem after_same {d e f : Dev} (h : Advances e f) (hs : e.sched.items = d.sched.items) (ho : e.out = d.out) : Advances d f :=
  (of_same hs ho).trans h

/-- Such a change after an operation. -/
theorem then_same {d e f : Dev} (h : Advances d e) (hs : f.sched.items = e.sched.items) (ho : f.out = e.out) : Advances d f :=
  h.trans (of_same hs ho)

theorem mem {d e : Dev} {o : Out} (h : Advances d e) (ho : o ∈ d.out) : o ∈ e.out := h.sent.mem ho

theorem foldl {α : Type} {f : Dev → α → Dev} (hf : ∀ d x, Advances d (f d x)) (l : List α) : ∀ d, Advances d (l.foldl f d) := by
  induction l with
  | nil => exact refl
  | cons x l ih => exact fun d => (hf d x).trans (ih _)

end Advances

/-! ## Updates -/

theorem advances_emit (o : Out) (d : Dev) : Advances d (emit o d) := ⟨fun _ h => h, List.suffix_cons o d.out⟩

theorem advances_modSlice (n : Nat) (f : Slice → Slice) (d : Dev) : Advances d (modSlice n f d) := .of_same rfl rfl

theorem advances_modRing (n r : Nat) (f : RingDyn → RingDyn) (d : Dev) : Advances d (modRing n r f d) := .of_same rfl rfl

theorem advances_modBox (m : Nat) (f : Mailbox → Mailbox) (d : Dev) : Advances d (modBox m f d) := .of_same rfl rfl

theorem advances_raise (code source p1 p2 : Nat) (d : Dev) : Advances d (raise code source p1 p2 d) := .of_same (by simp) (by simp)

theorem advances_signal (v : Nat) (d : Dev) : Advances d (signal v d) := by
  unfold signal
  dsimp only
  split
  · exact advances_emit _ _
  · split <;> exact .of_same rfl rfl

theorem advances_modItem (id : Nat) (f : Item → Item) (d : Dev) : Advances d (modItem id f d) := by
  unfold modItem
  split
  · next i hi =>
    refine ⟨fun j hj => ?_, List.suffix_refl _⟩
    have hne : j ≠ id := by rintro rfl; simp [hi] at hj
    simpa [itemOf, Tab.find_put_ne _ _ hne] using hj
  · exact .refl _

theorem advances_modThread (k : Nat) (f : Thread → Thread) (d : Dev) : Advances d (modThread k f d) := .of_same rfl rfl

theorem advances_freeThread (p : Place) (d : Dev) : Advances d (freeThread p d) := by
  cases p with
  | running c t => exact advances_modThread _ _ _
  | stalled c t => exact advances_modThread _ _ _
  | _ => exact .refl _

theorem advances_setRes (id : Nat) (r : Res) (d : Dev) : Advances d (setRes id r d) := advances_modItem _ _ _

/-! ## Completion (R50, R57, R63) -/

theorem advances_sendMessage (n : Nat) (d : Dev) : Advances d (sendMessage n d) := by
  unfold sendMessage
  dsimp only
  split
  · exact advances_modSlice _ _ _
  · split
    · exact (advances_modSlice _ _ _).trans (advances_signal _ _)
    · exact (advances_modSlice _ _ _).trans (advances_emit _ _)

theorem advances_putRecord (n ring tag status opcode seq outLen flags : Nat) (inl : List Byte) (d : Dev) :
    Advances d (putRecord n ring tag status opcode seq outLen flags inl d) :=
  (advances_emit _ _).trans (advances_modRing _ _ _ _)

theorem advances_haltRecord (n ring : Nat) (d : Dev) : Advances d (haltRecord n ring d) := by
  unfold haltRecord
  dsimp only
  split
  · exact ((advances_modRing _ _ _ _).trans (advances_putRecord ..)).trans (advances_sendMessage _ _)
  · exact .refl _

theorem advances_countItem (n opcode : Nat) (status : Status) (fenced : Bool) (d : Dev) :
    Advances d (countItem n opcode status fenced d) := by
  unfold countItem
  dsimp only
  refine .of_same ?_ ?_ <;> split_ifs <;> rfl

/-- What follows a completion's record. -/
theorem advances_putRecord_complete (n ring tag : Nat) (status : Status) (opcode seq outLen flags : Nat) (inl : List Byte) (irq : Bool)
    (d : Dev) : Advances (putRecord n ring tag status.code opcode seq outLen flags inl d)
      (complete n ring tag status opcode seq outLen flags inl irq d) := by
  have counted := (advances_modRing n ring (fun r => { r with inflight := r.inflight - 1 })
    (putRecord n ring tag status.code opcode seq outLen flags inl d)).trans (advances_countItem n opcode status (bitAt flags 1) _)
  unfold complete
  cases irq
  · exact counted.trans (advances_haltRecord _ _ _)
  · exact (counted.trans (advances_sendMessage _ _)).trans (advances_haltRecord _ _ _)

theorem advances_complete (n ring tag : Nat) (status : Status) (opcode seq outLen flags : Nat) (inl : List Byte) (irq : Bool) (d : Dev) :
    Advances d (complete n ring tag status opcode seq outLen flags inl irq d) :=
  (advances_putRecord ..).trans (advances_putRecord_complete ..)

/-! ## Answers of a mailbox (R261, R266) -/

theorem advances_writeResponse (m : Nat) (r : Resp) (d : Dev) : Advances d (writeResponse m r d) := by
  unfold writeResponse
  dsimp only
  split
  · exact (advances_modBox _ _ _).trans (advances_emit _ _)
  · split
    · exact (advances_modBox _ _ _).trans (advances_signal _ _)
    · exact advances_modBox _ _ _

theorem advances_respond (m : Nat) (r : Resp) (out : List Byte) (outAddr session : Nat) (d : Dev) :
    Advances d (respond m r out outAddr session d) := by
  have delivered : ∀ b : List Byte, Advances d (if b.isEmpty then d else emit (.mailboxData outAddr b) d) := by
    intro b
    split
    · exact .refl _
    · exact advances_emit _ _
  have answered : ∀ {e : Dev} {r2 : Resp}, Advances d e →
      Advances d (if e.log.held.isEmpty then writeResponse m r2 e else modBox m (fun b => { b with wait := .record r2 }) e) := by
    intro e r2 he
    split
    · exact he.trans (advances_writeResponse _ _ _)
    · exact he.trans (advances_modBox _ _ _)
  unfold respond
  dsimp only
  split <;> exact answered (delivered _)

theorem advances_answer (m : Nat) (st : Status) (body out : List Byte) (unm : Bool) (before : Nat) (d : Dev) :
    Advances d (answer m st body out unm before d) := by
  unfold answer
  split
  · exact .refl _
  · next op q _ =>
    have responded : ∀ r, Advances d (respond m r out q.outAddr q.session d) := fun _ => advances_respond ..
    have closed : ∀ e : Dev, Advances e { e with mg := { e.mg with sessions := Tab.del e.mg.sessions q.session } } :=
      fun _ => .of_same rfl rfl
    dsimp only
    split
    · exact responded _
    · split
      · exact (responded _).trans (closed _)
      · split
        · exact ((responded _).trans (closed _)).trans (advances_raise ..)
        · exact responded _

/-! ## Release (R50, R75, R77, R92) -/

theorem advances_answers {ms : List Nat} {f : Dev → Nat → Nat → Dev} (hf : ∀ d k m, Advances d (f d k m)) :
    ∀ x : Dev × Nat, Advances x.1 (ms.foldl (fun x m => (f x.1 x.2 m, nextSeq (f x.1 x.2 m))) x).1 := by
  induction ms with
  | nil => exact fun x => .refl _
  | cons m ms ih => exact fun x => (hf x.1 x.2 m).trans (ih (f x.1 x.2 m, nextSeq (f x.1 x.2 m)))

theorem advances_checkDrained (n : Nat) (d : Dev) : Advances d (checkDrained n d) := by
  unfold checkDrained
  dsimp only
  split
  · exact .refl _
  · split
    · exact .refl _
    · next dr _ _ =>
      generalize hbody : leBytes 4 dr.drained ++ leBytes 4 dr.aborted ++ leBytes 4 ((dr.last - dr.start) / 1000) ++ leBytes 4 0 = body
      cases hfailed : (sliceOf d n).state == .error
      · exact ((advances_modSlice _ _ _).trans (advances_raise ..)).trans (advances_answers (ms := dr.mailboxes)
          (f := fun e k m => answer m .ok body [] false k e) (fun _ _ _ => advances_answer ..) (_, _))
      · exact (advances_modSlice _ _ _).trans (advances_answers (ms := dr.mailboxes)
          (f := fun e k m => answer m .sliceState [] [] false k e) (fun _ _ _ => advances_answer ..) (_, _))

theorem advances_fillReorder (fuel : Nat) : ∀ d, Advances d (fillReorder fuel d) := by
  induction fuel with
  | zero => exact .refl
  | succ fuel ih =>
    intro d
    unfold fillReorder
    split
    · exact .refl _
    · split
      · exact .refl _
      · exact ((advances_freeThread _ _).trans (advances_modItem _ _ _)).trans (ih _)

/-! ## Dispatch and preemption (R78, R82, R83) -/

theorem advances_dispatchTo (id k : Nat) (d : Dev) : Advances d (dispatchTo id k d) := by
  unfold dispatchTo
  split
  · exact .refl _
  · next i _ =>
    dsimp only
    have dispatched : ∀ g h e, Advances e (modSched (fun s => { s with clock := s.clock + 1 }) (modThread k h (modItem id g e))) :=
      fun g h e => ((advances_modItem id g e).trans (advances_modThread k h _)).trans (.of_same rfl rfl)
    have turned : ∀ n f g e, Advances e (modSlice n f (modSched (fun s => { s with rrSlice := g }) e)) := fun _ _ _ _ => .of_same rfl rfl
    split <;> split
    · exact dispatched _ _ _
    · exact (dispatched _ _ _).trans (turned _ _ _ _)
    · exact dispatched _ _ _
    · exact (dispatched _ _ _).trans (turned _ _ _ _)

theorem advances_fillThread (k : Nat) (d : Dev) : Advances d (fillThread k d) := by
  unfold fillThread
  split
  · exact .refl _
  · split
    · exact .refl _
    · exact advances_dispatchTo _ _ _

theorem advances_parkOne (d : Dev) : Advances d (parkOne d) := by
  unfold parkOne
  split
  · split
    · exact ((advances_freeThread _ _).trans (advances_modItem _ _ _)).trans (advances_fillThread _ _)
    · exact .refl _
  · exact .refl _

theorem advances_testPreempt (d : Dev) : Advances d (testPreempt d) := by
  unfold testPreempt
  dsimp only
  split
  · exact .refl _
  · split
    · exact .refl _
    · split
      · exact .refl _
      · split
        · exact .refl _
        · exact advances_modItem _ _ _

/-! ## Delivery of results (R116, R125, R129) -/

theorem advances_dropEntry (id : Nat) (d : Dev) : Advances d (dropEntry id d) := by
  unfold dropEntry
  split
  · exact .refl _
  · dsimp only
    split
    · split <;> exact .of_same rfl rfl
    · exact .of_same rfl rfl

theorem advances_evict (id : Nat) (d : Dev) : Advances d (evict id d) := by
  unfold evict
  split
  · exact .refl _
  · exact (advances_dropEntry _ _).after_same rfl rfl

theorem advances_install {slice : Nat} {src : CacheSrc} {key : Key} {pinned : Bool} (fuel : Nat) :
    ∀ {d e : Dev}, install slice src key pinned fuel d = some e → Advances d e := by
  induction fuel with
  | zero => exact fun h => by simp [install] at h
  | succ fuel ih =>
    intro d e h
    have after_evict : ∀ id, install slice src key pinned fuel (evict id d) = some e → Advances d e :=
      fun id h => (advances_evict id d).trans (ih h)
    unfold install at h
    dsimp only at h
    split at h
    · split at h
      · exact after_evict _ h
      · simp at h
    · split at h
      · cases h
        exact .of_same rfl rfl
      · split at h
        · exact after_evict _ h
        · split at h
          · exact after_evict _ h
          · simp at h

theorem advances_strait (o : Out) (d : Dev) : Advances d (strait o d) :=
  (advances_emit o _).after_same rfl rfl

theorem advances_sequence (origin : Nat) (p : Pend) (d : Dev) : Advances d (sequence origin p d) := by
  have sent : Advances d (strait (.journal (nextEntry origin (fixReserve p.step d) d))
      (countEntry (fixReserve p.step d) (writeEntry (nextEntry origin (fixReserve p.step d) d) d))) :=
    (advances_strait _ _).after_same rfl rfl
  exact sent.then_same rfl rfl

theorem advances_submit (st : Step) (origin : Origin) (draft : Res) (d : Dev) : Advances d (submit st origin draft d) := by
  unfold submit
  dsimp only
  split
  · exact .of_same rfl rfl
  · split
    · exact advances_sequence _ _ _
    · exact (advances_strait _ _).after_same rfl rfl
    · split <;> exact .of_same rfl rfl

theorem advances_deliver (id slice : Nat) (r : Res) (a : After) (d : Dev) : Advances d (deliver id slice r a d) := by
  cases a with
  | nothing => exact advances_setRes _ _ _
  | step k =>
    simp only [deliver]
    split
    · exact advances_setRes _ _ _
    · exact (advances_modItem _ _ _).trans (advances_submit _ _ _ _)
  | handle key =>
    simp only [deliver]
    split
    · exact advances_setRes _ _ _
    · split
      · exact advances_setRes _ _ _
      · next h => exact ((advances_install _ h).trans (advances_modSlice _ _ _)).trans (advances_setRes _ _ _)

theorem advances_deliverQueued (d : Dev) : Advances d (deliverQueued d) := by
  unfold deliverQueued
  refine Advances.foldl (fun d e => ?_) _ d
  split
  · exact (advances_modItem _ _ _).trans (advances_deliver ..)
  · exact .refl _

end Sys2Proof.Machine
end

section
/-! PROOF. How an item leaves the device (O19): its release, the three ways in which its work comes to an end, and the drain that orders the
items left over aborted. -/

namespace Sys2Proof.Machine

/-! ## Items (R74) -/

theorem itemOf_modItem_same (id : Nat) (f : Item → Item) (d : Dev) : itemOf (modItem id f d) id = (itemOf d id).map f := by
  cases h : itemOf d id with
  | none => simp [modItem, h]
  | some i =>
    simp only [modItem, h]
    exact find_put_same _ _ _

theorem modItem_slices (id : Nat) (f : Item → Item) (d : Dev) : (modItem id f d).slices = d.slices := by
  unfold modItem
  split <;> rfl

theorem freeThread_slices (p : Place) (d : Dev) : (freeThread p d).slices = d.slices := by
  cases p <;> rfl

theorem runningOn_some {d : Dev} {c t id : Nat} {i : Item} (h : runningOn d c t = some (id, i)) : itemOf d id = some i := by
  unfold runningOn at h
  split at h
  · cases h
  · split at h
    · next hitem =>
      split at h
      · cases h
        exact hitem
      · cases h
    · cases h

theorem needsEntry_unordered {i : Item} (d : Dev) (h : flowType i ≠ .ordered) : needsEntry d i = false := by
  simp [needsEntry, h]

/-! ## Release (R50, R57, R75) -/

/-- Output that leaves with a result. -/
def resultOut (r : Res) : List Byte := if r.status = .ok then r.out else []

/-- The completion of an item with a result: the record of R57, to the slot its ring comes to (R50). -/
def completionOf (d : Dev) (i : Item) (r : Res) : Out :=
  let sl := sliceOf d i.slice
  let ring := ringOf sl i.ring
  .completion sl.per.pasid ((ringCfg sl i.ring).cqBase + 64 * ring.write)
    (recordBytes i.slice ring.phase ring.head (dTag i.desc) r.status.code (dOpcode i.desc) (i.seq.getD 0xFFFFFFFF) (resultOut r).length
      (resultFlags i r) (if r.status = .ok ∧ dInlineOut i.desc = true then resultOut r else r.fixed))

/-- A drain with one item less to wait for: completed, or aborted (R92, R305). -/
def drainStepped (r : Res) (uptime : Nat) (dr : Drain) : Drain :=
  { dr with
    drained := if r.status = .aborted then dr.drained else dr.drained + 1
    aborted := if r.status = .aborted then dr.aborted + 1 else dr.aborted
    last := uptime }

/-- The device as the completion of a released item begins: its output sent, its thread free, the drain's count stepped. -/
def shipped (id : Nat) (i : Item) (r : Res) (d : Dev) : Dev :=
  let d1 := if r.status == .ok && !dInlineOut i.desc && !(resultOut r).isEmpty then
    emit (.data (sliceOf d i.slice).per.pasid (dOutAddr i.desc) (resultOut r)) d else d
  modSlice i.slice (fun s => { s with drain := s.drain.map (drainStepped r d.sys.uptime) })
    (freeThread i.place (modSched (fun s => { s with items := Tab.del s.items id }) d1))

theorem release_eq {id : Nat} {i : Item} {r : Res} {d : Dev} (h : itemOf d id = some i) (hr : i.res = some r) :
    release id d = checkDrained i.slice (complete i.slice i.ring (dTag i.desc) r.status (dOpcode i.desc) (i.seq.getD 0xFFFFFFFF)
      (resultOut r).length (resultFlags i r) (if r.status = .ok ∧ dInlineOut i.desc = true then resultOut r else r.fixed) (dIrq i.desc)
      (shipped id i r d)) := by
  unfold release
  simp [h, hr, shipped, resultOut]
  rfl

theorem itemOf_shipped (id : Nat) (i : Item) (r : Res) (d : Dev) : itemOf (shipped id i r d) id = none := by
  unfold shipped
  refine (advances_modSlice _ _ _).gone _ ((advances_freeThread _ _).gone _ ?_)
  exact Tab.find_del_same id _

/-- Shipping an item changes no more of its slice than its drain. -/
theorem sliceOf_shipped (id : Nat) (i : Item) (r : Res) (d : Dev) :
    sliceOf (shipped id i r d) i.slice =
      { sliceOf d i.slice with drain := (sliceOf d i.slice).drain.map (drainStepped r d.sys.uptime) } := by
  unfold shipped
  dsimp only
  rw [sliceOf_modSlice, sliceOf, freeThread_slices]
  split <;> rfl

theorem release_gone {id : Nat} {i : Item} {r : Res} {d : Dev} (h : itemOf d id = some i) (hr : i.res = some r) :
    itemOf (release id d) id = none := by
  rw [release_eq h hr]
  exact ((advances_complete ..).trans (advances_checkDrained _ _)).gone _ (itemOf_shipped id i r d)

theorem release_completes {id : Nat} {i : Item} {r : Res} {d : Dev} (h : itemOf d id = some i) (hr : i.res = some r) :
    completionOf d i r ∈ (release id d).out := by
  rw [release_eq h hr]
  refine ((advances_putRecord_complete ..).trans (advances_checkDrained _ _)).mem ?_
  simp only [putRecord, sliceOf_shipped]
  exact List.mem_cons_self

/-! ## An item finished (R75) -/

/-- What a finished item of an unordered or atomic flow leaves: it is gone, and its completion with `r` has been sent. -/
structure Left (d : Dev) (id : Nat) (i : Item) (r : Res) (e : Dev) : Prop where
  gone : itemOf e id = none
  completed : completionOf d i r ∈ e.out

theorem Left.advances {d e f : Dev} {id : Nat} {i : Item} {r : Res} (h : Left d id i r e) (ha : Advances e f) : Left d id i r f :=
  ⟨ha.gone _ h.gone, ha.mem h.completed⟩

theorem finishItem_left {id : Nat} {i : Item} {r : Res} {d : Dev} (h : itemOf d id = some i) (hr : i.res = some r)
    (hf : flowType i ≠ .ordered) : Left d id i r (finishItem id d) := by
  let i1 : Item := { i with copies := [], run := none, queued := none }
  let d1 := modItem id (fun _ => i1) d
  have hitem : itemOf d1 id = some i1 := by rw [itemOf_modItem_same, h]; rfl
  have hsl : sliceOf d1 i.slice = sliceOf d i.slice := by rw [sliceOf, modItem_slices]; rfl
  have released : Left d id i r (release id d1) := by
    refine ⟨release_gone hitem hr, ?_⟩
    have hc := release_completes hitem hr
    rwa [show completionOf d1 i1 r = completionOf d i r by simp only [completionOf, i1, hsl]; rfl] at hc
  have heq : finishItem id d = fillReorder (itemList (release id d1)).length (release id d1) := by
    have hentry : needsEntry d1 i1 = false := needsEntry_unordered d1 hf
    have hflow : ¬ flowType i1 = .ordered := hf
    unfold finishItem
    simp only [h]
    rw [if_neg (by rw [hentry]; decide), if_neg hflow]
  rw [heq]
  exact released.advances (advances_fillReorder _ _)

theorem finishWith_left {id : Nat} {i : Item} {d : Dev} (st : Status) (h : itemOf d id = some i) (hf : flowType i ≠ .ordered) :
    Left d id i { status := st } (finishWith st id d) := by
  have hitem : itemOf (modItem id (fun i => { i with res := some { status := st } }) d) id = some { i with res := some { status := st } } := by
    rw [itemOf_modItem_same, h]; rfl
  obtain ⟨hgone, hcomp⟩ := finishItem_left hitem rfl hf
  refine ⟨hgone, ?_⟩
  rwa [completionOf, sliceOf, modItem_slices] at hcomp

theorem abortNow_left {id : Nat} {i : Item} {d : Dev} (h : itemOf d id = some i) (hf : flowType i ≠ .ordered) :
    Left d id i { status := .aborted } (abortNow id d) := by
  obtain ⟨hgone, hcompleted⟩ := finishWith_left (d := cancelSteps id (cancelRequests id d)) .aborted h hf
  exact ⟨hgone, hcompleted⟩

/-! ## Work that comes to an end (R53, R75, R93) -/

/-- The result with which an item's work ends: `ST_ABORTED` where an abort was ordered, its own result, or else `ST_OPCODE`. -/
def finalRes (i : Item) : Res := if i.abort then { status := .aborted } else i.res.getD { status := .opcode }

theorem finishOn_left {d : Dev} {c t id : Nat} {i : Item} (hfault : devFault d = false) (hrun : runningOn d c t = some (id, i))
    (hbusy : engineBusy d id = false) (hf : flowType i ≠ .ordered)
    (hend : i.abort = true ∨ i.res.isSome = true ∨ opcodeDefined (dOpcode i.desc) = false) :
    Left d id i (finalRes i) (finishOn c t d) := by
  have hitem := runningOn_some hrun
  have dispatched : ∀ {e : Dev}, Left d id i (finalRes i) e → Left d id i (finalRes i) (parkOne (testPreempt e)) :=
    fun h => (h.advances (advances_testPreempt _)).advances (advances_parkOne _)
  unfold finishOn
  simp only [hfault, hrun, hbusy, Bool.false_eq_true, if_false]
  cases habort : i.abort with
  | true =>
    rw [if_pos rfl]
    refine dispatched ?_
    rw [show finalRes i = { status := .aborted } by simp [finalRes, habort]]
    exact abortNow_left hitem hf
  | false =>
    rw [if_neg Bool.false_ne_true]
    cases hres : i.res with
    | some r =>
      refine dispatched ?_
      rw [show finalRes i = r by simp [finalRes, habort, hres]]
      exact finishItem_left hitem hres hf
    | none =>
      have hop : opcodeDefined (dOpcode i.desc) = false := by simpa [habort, hres] using hend
      simp only [hop, Bool.false_eq_true, if_false]
      refine dispatched ?_
      rw [show finalRes i = { status := .opcode } by simp [finalRes, habort, hres]]
      exact finishWith_left .opcode hitem hf

/-- An item still at work stays. -/
theorem finishOn_atWork {d : Dev} {c t id : Nat} {i : Item} (hrun : runningOn d c t = some (id, i)) (habort : i.abort = false)
    (hres : i.res = none) (hop : opcodeDefined (dOpcode i.desc) = true) : finishOn c t d = d := by
  simp [finishOn, hrun, habort, hres, hop]

/-- Without an engine result that waits nothing is delivered. -/
theorem deliverQueued_none {d : Dev} (h : ∀ e ∈ itemList d, e.2.queued = none) : deliverQueued d = d := by
  have skip : ∀ (l : List (Nat × Item)) (e : Dev), (∀ x ∈ l, x.2.queued = none) →
      l.foldl (fun d e => match e.2.queued, e.2.place with
        | some (r, a), .running _ _ => deliver e.1 e.2.slice r a (modItem e.1 (fun i => { i with queued := none }) d)
        | _, _ => d) e = e := by
    intro l
    induction l with
    | nil => exact fun _ _ => rfl
    | cons x l ih =>
      intro e hl
      rw [List.foldl_cons]
      simp only [hl x List.mem_cons_self]
      exact ih e fun y hy => hl y (List.mem_cons_of_mem _ hy)
  exact skip _ d h

/-! ## The rows -/

theorem does_itemFinish {s : State} {core thread : Nat} (hc : core < coreCount s.dev) (ht : thread < 4) :
    Does (.itemFinish core thread) s (deliverQueued (finishOn core thread s.dev)) := by
  rw [Does, exec_itemFinish, execItemFinish, onUnit, if_pos (by simp [threadExists, hc, ht]), watch_const]

theorem itemFinish_left {s : State} {core thread id : Nat} {i : Item} {r : Res} (hc : core < coreCount s.dev) (ht : thread < 4)
    (h : Left s.dev id i r (finishOn core thread s.dev)) :
    ∃ t, exec (.itemFinish core thread) s = .next t ∧ Left s.dev id i r t.dev := by
  refine ⟨_, does_itemFinish hc ht, ?_⟩
  have delivered := h.advances (advances_deliverQueued _)
  obtain hw | hw := watch_cases (fun _ => deliverQueued (finishOn core thread s.dev)) s.dev
  · rw [hw]; exact delivered
  · rw [hw]; exact delivered.advances (advances_signal 8 _)

theorem itemFinish_atWork {s : State} {core thread id : Nat} {i : Item} (hc : core < coreCount s.dev) (ht : thread < 4)
    (hrun : runningOn s.dev core thread = some (id, i)) (habort : i.abort = false) (hres : i.res = none)
    (hop : opcodeDefined (dOpcode i.desc) = true) (hq : ∀ e ∈ itemList s.dev, e.2.queued = none) :
    exec (.itemFinish core thread) s = .next s := by
  have hd := does_itemFinish hc ht
  rw [finishOn_atWork hrun habort hres hop, deliverQueued_none hq] at hd
  exact hd.next rfl

theorem does_drainCeilingExpiry {s : State} {n : Nat} (hn : n < 4096) :
    Does (.drainCeilingExpiry n) s (if (sliceOf s.dev n).drain.isSome && !devFault s.dev then abortSlice n s.dev else s.dev) := by
  rw [Does, exec_drainCeilingExpiry, execDrainCeilingExpiry, onUnit, if_pos (by simpa using hn), watch_const]

/-- Settles O19: the three ways in which an item's work ends all leave through its release, which sends the record before anything else
changes its ring; no later operation brings an item back or takes a message back. -/
theorem itemsAreReleased : Obligations.ItemsAreReleased := by
  unfold Obligations.ItemsAreReleased
  intro s hfault
  refine ⟨fun core thread id i hc ht hrun hbusy hf hend => ?_,
    fun core thread id i hc ht hrun _ habort hres hop hq => itemFinish_atWork hc ht hrun habort hres hop hq,
    fun n hn hdrain => ?_, fun n hn hdrain => ?_⟩
  · obtain ⟨t, hexec, hgone, hcompleted⟩ := itemFinish_left hc ht (finishOn_left hfault hrun hbusy hf hend)
    exact ⟨t, hexec, hgone, hcompleted⟩
  · have hd := does_drainCeilingExpiry (s := s) hn
    rwa [if_pos (by simp [hdrain, hfault])] at hd
  · have hd := does_drainCeilingExpiry (s := s) hn
    rw [if_neg (by simp [hdrain])] at hd
    exact hd.next rfl

end Sys2Proof.Machine
end

section
/-! PROOF. Why a fetched descriptor that passes every check need not become the next item of its flow (O14): a slice in ERROR aborts what
Sheepdog accepts for it, and the item is gone within the same command. -/

namespace Sys2Proof.Machine

/-- A descriptor accepted for a slice in ERROR, the first of an unordered or atomic flow, leaves at once with `ST_ABORTED` (R310). -/
theorem acceptItem_inError_gone {n ring : Nat} {desc : List Byte} {d : Dev} (hnew : Tab.find d.sched.flows (flowKey n (dFlow desc)) = none)
    (hquota : flowsOf d n < (sliceOf d n).per.flowQuota) (herr : (sliceOf d n).state = .error)
    (hf : flowType { slice := n, ring, desc } ≠ .ordered) : itemOf (acceptItem n ring desc d) d.sched.nextItem = none := by
  unfold acceptItem
  simp only [hnew, Nat.not_le.mpr hquota, herr, or_true, if_true, if_false]
  refine (finishWith_left .aborted (i := { slice := n, ring, desc, seq := some 0 }) ?_ hf).gone
  exact find_put_same _ _ _

/-- A descriptor of its ring's own slice, in good form and not urgent, reaches Sheepdog. -/
theorem arrive_accepted {n ring i : Nat} {rest : List Nat} {raw : List Byte} {d : Dev} (hfault : devFault d = false)
    (hfetch : (ringOf (sliceOf d n) ring).fetches = i :: rest) (hn : n < 4096) (hslice : dSlice (fit raw 128) = n)
    (hflags : dFlags (fit raw 128) / 256 = 0) (htype : dFlowType (fit raw 128) ≠ 3) (hprio : dPriority (fit raw 128) ≠ 7) :
    arrive n ring raw d = acceptItem n ring (fit raw 128) (count 0x1000 1 (some n) none false none
      (modRing n ring (fun r => { r with fetches := rest, head := (i + 1) % ringSize (sliceOf d n) ring }) d)) := by
  have hmod : dSlice (fit raw 128) % 4096 = n := by omega
  have hdiv : dSlice (fit raw 128) / 4096 = 0 := by omega
  simp [arrive, hfetch, hfault, hmod, hdiv, hflags, htype, hprio]

/-- A slice that went into ERROR while a descriptor fetch of its ring pair 0 was under way. -/
def erredSlice : Slice :=
  { per := { rings := [{ log2 := 6 }] }
    state := .error
    rings := [(0, { enabled := true, tail := 1, fetches := [0], inflight := 1 })] }

/-- A device in service with that slice as its slice 0. -/
def fetchedInError : State :=
  { State.reset with dev := { State.reset.dev with
      sys := { State.reset.dev.sys with perstHigh := true, stage := 4, ready := true, ksk := true, share := .written }
      slices := [(0, erredSlice)] } }

/-- The arrival of a descriptor of zeros leaves no item. -/
theorem arrival_inError_gone : itemOf (arrive 0 0 [] fetchedInError.dev) 0 = none := by
  rw [arrive_accepted (i := 0) (rest := []) rfl rfl (by decide) (by decide) (by decide) (by decide) (by decide)]
  exact acceptItem_inError_gone rfl (by decide) rfl (by decide)

/-- Refutes O14: its last clause asks that Goose hold no Lock, but not that the slice be out of ERROR. In `fetchedInError` the descriptor
passes every check, and yet no item is left: it has been aborted (R310). -/
theorem not_arrivalsAreChecked : ¬ Obligations.ArrivalsAreChecked := by
  unfold Obligations.ArrivalsAreChecked
  intro h
  obtain ⟨-, -, accepted⟩ := h fetchedInError 0 0 0 [] [] (by decide) (by decide) rfl rfl
  obtain ⟨-, enters⟩ := accepted (by decide) (by decide) (by decide)
  obtain ⟨-, newFlow⟩ := enters (.inl (by decide))
  obtain ⟨-, becomesItem⟩ := newFlow rfl
  obtain ⟨t, ht, hitem, -⟩ := becomesItem (by decide) rfl
  have hrow : exec (.descriptorArrival 0 0 []) fetchedInError =
      .next { fetchedInError with dev := watch (arrive 0 0 []) fetchedInError.dev } := rfl
  rw [hrow] at ht
  cases ht
  rw [itemOf, watch_sched] at hitem
  have hgone := arrival_inError_gone
  rw [itemOf] at hgone
  exact absurd (hgone.symm.trans hitem) (by simp)

end Sys2Proof.Machine
end

section
/-! PROOF. How Sheepdog chooses an item for a thread and a thread for an item (O18): the candidate of least rank, the rules of a dispatch,
and a thread that a preempted item has freed. -/

namespace Sys2Proof.Machine

/-! ## Entries of the tables -/

theorem Tab.mem_of_find {α : Type} {k : Nat} {v : α} : ∀ {t : Tab α}, Tab.find t k = some v → (k, v) ∈ t
  | (j, w) :: t, h => by
    simp only [Tab.find] at h
    split at h
    · next hj => cases h; subst hj; exact List.mem_cons_self
    · exact List.mem_cons_of_mem _ (Tab.mem_of_find h)

theorem Tab.find_of_mem {α : Type} {e : Nat × α} : ∀ {t : Tab α}, e ∈ t → ∃ v, Tab.find t e.1 = some v
  | (j, w) :: t, h => by
    simp only [Tab.find]
    split
    · exact ⟨w, rfl⟩
    · next hj =>
      obtain rfl | h := List.mem_cons.mp h
      · exact absurd rfl hj
      · exact Tab.find_of_mem h

theorem Tab.mem_put {α : Type} {k : Nat} {v : α} {e : Nat × α} : ∀ {t : Tab α}, e ∈ Tab.put t k v → e = (k, v) ∨ e ∈ t
  | [], h => .inl (List.mem_singleton.mp h)
  | (j, w) :: t, h => by
    simp only [Tab.put] at h
    split at h
    · exact List.mem_cons.mp h
    · split at h
      · exact (List.mem_cons.mp h).imp_right (List.mem_cons_of_mem _)
      · obtain rfl | h := List.mem_cons.mp h
        · exact .inr List.mem_cons_self
        · exact (Tab.mem_put h).imp_right (List.mem_cons_of_mem _)

/-! ## The element of least rank -/

theorem leastBy_eq_none {α : Type} {rank : α → Nat} {l : List α} (h : leastBy rank l = none) : l = [] := by
  cases l with
  | nil => rfl
  | cons y l =>
    simp only [leastBy] at h
    split at h
    · cases h
    · split at h <;> cases h

theorem leastBy_mem {α : Type} {rank : α → Nat} {x : α} : ∀ {l : List α}, leastBy rank l = some x → x ∈ l
  | y :: l, h => by
    simp only [leastBy] at h
    split at h
    · cases h
      exact List.mem_cons_self
    · next z hz =>
      split at h
      · cases h
        exact List.mem_cons_of_mem _ (leastBy_mem hz)
      · cases h
        exact List.mem_cons_self

theorem leastBy_le {α : Type} {rank : α → Nat} {x : α} : ∀ {l : List α}, leastBy rank l = some x → ∀ y ∈ l, rank x ≤ rank y
  | z :: l, h, y, hy => by
    simp only [leastBy] at h
    split at h
    · next hz =>
      cases h
      rw [leastBy_eq_none hz] at hy
      exact (congrArg rank (List.mem_singleton.mp hy)).ge
    · next w hw =>
      have least := leastBy_le hw
      obtain rfl | hy := List.mem_cons.mp hy
      · split at h <;> cases h <;> omega
      · have := least y hy
        split at h <;> cases h <;> omega

/-! ## What a dispatch can change -/

/-- From `d` to `e` nothing but Sheepdog and the slices has changed. -/
def Schedules (d e : Dev) : Prop := ∃ sch sl, e = { d with sched := sch, slices := sl }

namespace Schedules

theorem refl (d : Dev) : Schedules d d := ⟨_, _, rfl⟩

theorem trans {d e f : Dev} (h1 : Schedules d e) (h2 : Schedules e f) : Schedules d f := by
  obtain ⟨_, _, rfl⟩ := h1
  obtain ⟨sch, sl, rfl⟩ := h2
  exact ⟨sch, sl, rfl⟩

variable {d e : Dev} (h : Schedules d e)
include h

theorem dispatchStopped : dispatchStopped e = dispatchStopped d := by
  obtain ⟨_, _, rfl⟩ := h; rfl

theorem coreUp (c : Nat) : coreUp e c = coreUp d c := by
  obtain ⟨_, _, rfl⟩ := h; rfl

theorem sys : e.sys = d.sys := by
  obtain ⟨_, _, rfl⟩ := h; rfl

theorem fen : e.fen = d.fen := by
  obtain ⟨_, _, rfl⟩ := h; rfl

theorem keys : e.keys = d.keys := by
  obtain ⟨_, _, rfl⟩ := h; rfl

theorem mg : e.mg = d.mg := by
  obtain ⟨_, _, rfl⟩ := h; rfl

theorem store : e.store = d.store := by
  obtain ⟨_, _, rfl⟩ := h; rfl

end Schedules

theorem schedules_modItem (id : Nat) (f : Item → Item) (d : Dev) : Schedules d (modItem id f d) := by
  unfold modItem
  split <;> exact ⟨_, _, rfl⟩

theorem schedules_freeThread (p : Place) (d : Dev) : Schedules d (freeThread p d) := by
  cases p <;> exact ⟨_, _, rfl⟩

/-! ## Items and threads -/

theorem itemOf_modItem_ne {id j : Nat} (f : Item → Item) (d : Dev) (h : j ≠ id) : itemOf (modItem id f d) j = itemOf d j := by
  unfold modItem
  split
  · exact Tab.find_put_ne _ _ h
  · rfl

theorem itemOf_of_mem {d : Dev} {e : Nat × Item} (h : e ∈ itemList d) : ∃ i, itemOf d e.1 = some i := Tab.find_of_mem h

@[simp] theorem itemOf_freeThread (p : Place) (d : Dev) (id : Nat) : itemOf (freeThread p d) id = itemOf d id := by
  cases p <;> rfl

@[simp] theorem threadOf_modItem (id : Nat) (f : Item → Item) (d : Dev) (k : Nat) : threadOf (modItem id f d) k = threadOf d k := by
  unfold modItem
  split <;> rfl

@[simp] theorem threadOf_modThread_same (k : Nat) (f : Thread → Thread) (d : Dev) : threadOf (modThread k f d) k = f (threadOf d k) := by
  simp [threadOf, modThread, Tab.upd]

@[simp] theorem threadOf_watch (f : Dev → Dev) (d : Dev) (k : Nat) : threadOf (watch f d) k = threadOf (f d) k := by simp [threadOf]

@[simp] theorem itemOf_watch (f : Dev → Dev) (d : Dev) (id : Nat) : itemOf (watch f d) id = itemOf (f d) id := by simp [itemOf]

theorem runningOn_place {d : Dev} {c t id : Nat} {i : Item} (h : runningOn d c t = some (id, i)) : i.place = .running c t := by
  unfold runningOn at h
  split at h
  · cases h
  · split at h
    · split at h
      · next hplace =>
        cases h
        exact hplace
      · cases h
    · cases h

/-! ## Engine results that wait (R84) -/

/-- No item has an engine result that waits for it to run again. -/
def NoneQueued (d : Dev) : Prop := ∀ e ∈ itemList d, e.2.queued = none

theorem NoneQueued.modItem {d : Dev} (h : NoneQueued d) (id : Nat) {f : Item → Item} (hf : ∀ i, (f i).queued = i.queued) :
    NoneQueued (modItem id f d) := by
  unfold Machine.modItem
  split
  · next i hi =>
    intro e he
    obtain rfl | he := Tab.mem_put he
    · exact (hf i).trans (h _ (Tab.mem_of_find hi))
    · exact h e he
  · exact h

theorem NoneQueued.freeThread {d : Dev} (h : NoneQueued d) (p : Place) : NoneQueued (freeThread p d) := by
  cases p <;> exact h

/-! ## A dispatch (R82, R86) -/

/-- An item as it is put on thread `k`. -/
def dispatchedItem (k clock : Nat) (i : Item) : Item :=
  { i with place := .running (k / 4) (k % 4), front := false, preempt := false, stamp := clock }

/-- A thread as it takes an item: the rules of another slice become its own. -/
def dispatchedThread (id slice : Nat) (h : Thread) : Thread :=
  { item := some id, last := some slice
    shadow := if h.last = some slice then h.shadow else .slice slice
    active := if h.last = some slice then h.active else .slice slice }

/-- A dispatch changes one item and one thread; beside them only the clock and the round-robin positions move. -/
theorem dispatchTo_places {d : Dev} {id : Nat} {i : Item} (k : Nat) (h : itemOf d id = some i) :
    (dispatchTo id k d).sched.items = (modItem id (dispatchedItem k d.sched.clock) d).sched.items ∧
      (dispatchTo id k d).sched.threads =
        (modThread k (dispatchedThread id i.slice) (modItem id (dispatchedItem k d.sched.clock) d)).sched.threads ∧
      Schedules (modItem id (dispatchedItem k d.sched.clock) d) (dispatchTo id k d) := by
  unfold dispatchTo
  simp only [h]
  split <;> exact ⟨rfl, rfl, _, _, rfl⟩

theorem itemOf_dispatchTo {d : Dev} {id : Nat} {i : Item} (k : Nat) (h : itemOf d id = some i) :
    itemOf (dispatchTo id k d) id = some (dispatchedItem k d.sched.clock i) := by
  rw [itemOf, (dispatchTo_places k h).1]
  exact (itemOf_modItem_same _ _ _).trans (by rw [h]; rfl)

theorem threadOf_dispatchTo {d : Dev} {id : Nat} {i : Item} (k : Nat) (h : itemOf d id = some i) :
    threadOf (dispatchTo id k d) k = dispatchedThread id i.slice (threadOf d k) := by
  rw [threadOf, (dispatchTo_places k h).2.1]
  exact (threadOf_modThread_same _ _ _).trans (by rw [threadOf_modItem])

theorem dispatchTo_none {d : Dev} {id : Nat} (k : Nat) (h : itemOf d id = none) : dispatchTo id k d = d := by simp [dispatchTo, h]

theorem schedules_dispatchTo (id k : Nat) (d : Dev) : Schedules d (dispatchTo id k d) := by
  cases h : itemOf d id with
  | none => rw [dispatchTo_none k h]; exact .refl d
  | some i => exact (schedules_modItem _ _ _).trans (dispatchTo_places k h).2.2

theorem NoneQueued.dispatchTo {d : Dev} (hd : NoneQueued d) (id k : Nat) : NoneQueued (dispatchTo id k d) := by
  cases h : itemOf d id with
  | none => rwa [dispatchTo_none k h]
  | some i =>
    have placed : NoneQueued (Machine.modItem id (dispatchedItem k d.sched.clock) d) := hd.modItem id fun _ => rfl
    rwa [NoneQueued, itemList, ← (dispatchTo_places k h).1] at placed

theorem NoneQueued.fillThread {d : Dev} (h : NoneQueued d) (k : Nat) : NoneQueued (fillThread k d) := by
  unfold Machine.fillThread
  split
  · exact h
  · split
    · exact h
    · exact h.dispatchTo _ _

/-! ## The test for a preemption (R83) -/

/-- The test flags one item for preemption, or none. -/
theorem testPreempt_cases (d : Dev) : testPreempt d = d ∨ ∃ id, testPreempt d = modItem id (fun i => { i with preempt := true }) d := by
  unfold testPreempt
  dsimp only
  split
  · exact .inl rfl
  · split
    · exact .inl rfl
    · split
      · exact .inl rfl
      · split
        · exact .inl rfl
        · exact .inr ⟨_, rfl⟩

theorem testPreempt_stopped {d : Dev} (h : dispatchStopped d = true) : testPreempt d = d := by simp [testPreempt, h]

@[simp] theorem threadOf_testPreempt (d : Dev) (k : Nat) : threadOf (testPreempt d) k = threadOf d k := by
  obtain h | ⟨id, h⟩ := testPreempt_cases d <;> simp [h]

theorem itemOf_testPreempt {d : Dev} {id : Nat} {i : Item} (h : itemOf d id = some i) :
    ∃ p, itemOf (testPreempt d) id = some { i with preempt := p } := by
  obtain ht | ⟨j, ht⟩ := testPreempt_cases d
  · exact ⟨i.preempt, by rw [ht, h]⟩
  · rw [ht]
    by_cases hj : id = j
    · subst hj
      exact ⟨true, by rw [itemOf_modItem_same, h]; rfl⟩
    · exact ⟨i.preempt, by rw [itemOf_modItem_ne _ _ hj, h]⟩

theorem schedules_testPreempt (d : Dev) : Schedules d (testPreempt d) := by
  obtain h | ⟨id, h⟩ := testPreempt_cases d <;> rw [h]
  · exact .refl d
  · exact schedules_modItem _ _ _

theorem NoneQueued.testPreempt {d : Dev} (h : NoneQueued d) : NoneQueued (testPreempt d) := by
  obtain ht | ⟨id, ht⟩ := testPreempt_cases d <;> rw [ht]
  · exact h
  · exact h.modItem id fun _ => rfl

/-! ## The choice of an item (R82) -/

theorem headOf_mem {d : Dev} {k : Nat} {f : Flow} {e : Nat × Item} (h : headOf d k f = some e) :
    e ∈ itemList d ∧ e.2.place = .ready := by
  obtain ⟨hmem, hready⟩ := List.mem_filter.mp (leastBy_mem h)
  exact ⟨hmem, by simpa using (Bool.and_eq_true_iff.mp hready).2⟩

theorem readyHeads_mem {d : Dev} {e : Nat × Item} (h : e ∈ readyHeads d) : e ∈ itemList d ∧ e.2.place = .ready := by
  obtain ⟨⟨k, f⟩, -, hf⟩ := List.mem_filterMap.mp h
  dsimp only at hf
  split at hf
  · next hhead =>
    split at hf
    · cases hf
    · cases hf
      exact headOf_mem hhead
  · cases hf

theorem candidates_mem {d : Dev} {c : Nat} {e : Nat × Item} (h : e ∈ candidates d c) : e ∈ itemList d := by
  obtain h | h := List.mem_append.mp h
  · split at h
    · cases h
    · exact (readyHeads_mem h).1
  · exact (List.mem_filter.mp (List.mem_filter.mp h).1).1

theorem priority_lt (i : Item) : priority i < 8 := Nat.mod_lt _ (by decide)

/-- Slices and flows in turn decide only between items of one priority: their part of the rank stays below one priority's step. -/
theorem candRank_ready {i : Item} (d : Dev) (h : i.place = .ready) :
    ((7 - priority i) * 2 + 1) * 2 ^ 40 ≤ candRank d i ∧ candRank d i < ((7 - priority i) * 2 + 2) * 2 ^ 40 := by
  simp only [candRank, h]
  omega

theorem priority_le_of_candRank_le {i j : Item} {d : Dev} (hi : i.place = .ready) (hj : j.place = .ready)
    (h : candRank d i ≤ candRank d j) : priority j ≤ priority i := by
  have low := (candRank_ready d hi).1
  have high := (candRank_ready d hj).2
  have := priority_lt j
  omega

/-! ## The choice of a thread (R82) -/

theorem chooseThread_idle {d : Dev} {i : Item} {k : Nat} (h : chooseThread d i = some k) :
    coreUp d (k / 4) = true ∧ (threadOf d k).item = none := by
  have hidle := (List.mem_filter.mp (leastBy_mem h)).1
  simpa using (List.mem_filter.mp hidle).2

theorem dispatchOne_stopped {d : Dev} (h : dispatchStopped d = true) : dispatchOne d = d := by simp [dispatchOne, h]

/-- With no preempted item to resume, the best ready head takes the thread chosen for it. -/
theorem dispatchOne_ready {d : Dev} {id k : Nat} {i : Item} (hstop : dispatchStopped d = false) (hnew : resumeOnly d = false)
    (hres : resumable d = []) (hbest : leastBy (fun e => candRank d e.2) (readyHeads d) = some (id, i)) (hk : chooseThread d i = some k) :
    dispatchOne d = testPreempt (dispatchTo id k d) := by
  have hup := (chooseThread_idle hk).1
  have hsome : ¬ (List.range (coreCount d)).all (fun c => !coreUp d c) = true := by
    intro hall
    have hlt : k / 4 < coreCount d := by
      simp only [coreUp, Bool.and_eq_true, decide_eq_true_eq] at hup
      exact hup.1
    simpa [hup] using List.all_eq_true.mp hall (k / 4) (List.mem_range.mpr hlt)
  unfold dispatchOne
  simp only [hstop, hnew, hres, Bool.false_eq_true, if_false, List.map_nil, List.append_nil]
  rw [if_neg hsome]
  simp only [hbest, List.find?_nil, hk]

/-! ## A thread that becomes idle (R82, R84) -/

theorem fillThread_stopped {d : Dev} (k : Nat) (h : dispatchStopped d = true) : fillThread k d = d := by simp [fillThread, h]

/-- An idle thread of an unfenced core takes the candidate of least rank, if there is one. -/
theorem threadOf_fillThread {d : Dev} {k : Nat} (hstop : dispatchStopped d = false) (hup : coreUp d (k / 4) = true)
    (hidle : (threadOf d k).item = none) :
    (threadOf (fillThread k d) k).item = (leastBy (fun e => candRank d e.2) (candidates d (k / 4))).map (·.1) := by
  unfold fillThread
  simp only [hstop, hup, hidle, Bool.not_true, Bool.or_false, Option.isSome_none, Bool.false_eq_true, if_false]
  cases hbest : leastBy (fun e => candRank d e.2) (candidates d (k / 4)) with
  | none => exact hidle
  | some e =>
    obtain ⟨i, hi⟩ := itemOf_of_mem (candidates_mem (leastBy_mem hbest))
    exact congrArg Thread.item (threadOf_dispatchTo k hi)

/-- The device once a preempted item's state has been saved and its thread is free. -/
def preempted (core slot id : Nat) (i : Item) (d : Dev) : Dev :=
  modItem id (fun i => { i with place := .preempted core slot, preempt := false }) (freeThread i.place d)

theorem saveOn_preempted {d : Dev} {core thread id k : Nat} {i : Item} (hfault : devFault d = false)
    (hrun : runningOn d core thread = some (id, i)) (hpre : i.preempt = true) (habort : i.abort = false)
    (hbusy : engineBusy d id = false) (hslot : freeSlot d core = some k) :
    saveOn core thread d = testPreempt (fillThread (4 * core + thread) (preempted core k id i d)) := by
  simp [saveOn, hfault, hrun, hbusy, habort, hpre, hslot, preempted]

theorem schedules_preempted (core slot id : Nat) (i : Item) (d : Dev) : Schedules d (preempted core slot id i d) :=
  (schedules_freeThread _ _).trans (schedules_modItem _ _ _)

theorem itemOf_preempted {d : Dev} {id : Nat} {i : Item} (core slot : Nat) (h : itemOf d id = some i) :
    itemOf (preempted core slot id i d) id = some { i with place := .preempted core slot, preempt := false } := by
  rw [preempted, itemOf_modItem_same, itemOf_freeThread, h]
  rfl

theorem threadOf_preempted {d : Dev} {core thread id : Nat} {i : Item} (slot : Nat) (h : i.place = .running core thread) :
    (threadOf (preempted core slot id i d) (4 * core + thread)).item = none := by
  rw [preempted, threadOf_modItem, h]
  exact congrArg Thread.item (threadOf_modThread_same _ _ _)

theorem NoneQueued.preempted {d : Dev} (h : NoneQueued d) (core slot id : Nat) (i : Item) : NoneQueued (preempted core slot id i d) :=
  (h.freeThread _).modItem id fun _ => rfl

/-! ## The rows -/

theorem does_itemDispatch (s : State) : Does .itemDispatch s (deliverQueued (dispatchOne s.dev)) := by
  rw [Does, exec_itemDispatch, execItemDispatch, onDev, watch_const]

theorem does_preemptSave {s : State} {core thread : Nat} (hc : core < coreCount s.dev) (ht : thread < 4) :
    Does (.preemptSave core thread) s (deliverQueued (saveOn core thread s.dev)) := by
  rw [Does, exec_preemptSave, execPreemptSave, onUnit, if_pos (by simp [threadExists, hc, ht]), watch_const]

theorem devFault_of_serving {d : Dev} (h : serving d = true) : devFault d = false := by
  simp only [serving, Bool.and_eq_true, Bool.not_eq_true'] at h
  exact h.1.1.2

theorem dispatchStopped_of_serving {d : Dev} (h : serving d = true) : dispatchStopped d = d.goose.lock := by simp [dispatchStopped, h]

/-- Settles O18: a dispatch decision takes the ready head of least rank, whose priority no other exceeds, and the thread chosen for it; a
saved item leaves its thread to the candidate of least rank. The preemption test that follows touches no thread. -/
theorem itemsAreDispatched : Obligations.ItemsAreDispatched := by
  unfold Obligations.ItemsAreDispatched
  intro s hserving hqueued
  have hquiet : NoneQueued s.dev := hqueued
  have hstop := dispatchStopped_of_serving hserving
  refine ⟨fun hlock => ?_, fun id i k hlock hstep hres hbest hk hi => ?_, fun core thread id i k hc ht hrun hpre habort hbusy hslot => ?_⟩
  · have hd := does_itemDispatch s
    rw [dispatchOne_stopped (hstop.trans hlock), deliverQueued_none hqueued] at hd
    exact hd.next rfl
  · have hready := fun e he => (readyHeads_mem (d := s.dev) (e := e) he).2
    have hmem := leastBy_mem hbest
    refine ⟨fun e he => priority_le_of_candRank_le (hready _ hmem) (hready e he) (leastBy_le hbest e he), (chooseThread_idle hk).1,
      (chooseThread_idle hk).2, ?_⟩
    have hd := does_itemDispatch s
    rw [dispatchOne_ready (hstop.trans hlock) (by simp [resumeOnly, Nat.not_le.mpr hstep]) hres hbest hk,
      deliverQueued_none (hquiet.dispatchTo id k).testPreempt] at hd
    obtain ⟨p, hitem⟩ := itemOf_testPreempt (itemOf_dispatchTo k hi)
    have hkeeps := (schedules_dispatchTo id k s.dev).trans (schedules_testPreempt _)
    have hthread : threadOf (testPreempt (dispatchTo id k s.dev)) k = dispatchedThread id i.slice (threadOf s.dev k) :=
      (threadOf_testPreempt _ _).trans (threadOf_dispatchTo k hi)
    refine ⟨_, _, hd, ?_, ?_, fun hlast => ?_, (itemOf_watch _ _ _).trans hitem, rfl, rfl, rfl, rfl, rfl, ?_, ?_, ?_⟩
    · rw [threadOf_watch, hthread]; rfl
    · rw [threadOf_watch, hthread]; rfl
    · rw [threadOf_watch, hthread, dispatchedThread, if_neg hlast]
    · exact (watch_keys _ _).trans hkeeps.keys
    · exact (watch_mg _ _).trans hkeeps.mg
    · exact (watch_store _ _).trans hkeeps.store
  · have hd := does_preemptSave (s := s) hc ht
    have hfree := threadOf_preempted (d := s.dev) (id := id) k (runningOn_place hrun)
    have hkeeps := schedules_preempted core k id i s.dev
    rw [saveOn_preempted (devFault_of_serving hserving) hrun hpre habort hbusy hslot,
      deliverQueued_none ((hquiet.preempted core k id i).fillThread _).testPreempt] at hd
    refine ⟨_, hd, fun hlock => ?_, fun hlock hup => ?_⟩
    · have hheld := hkeeps.dispatchStopped.trans (hstop.trans hlock)
      rw [fillThread_stopped _ hheld, testPreempt_stopped hheld, threadOf_watch, itemOf_watch]
      exact ⟨hfree, itemOf_preempted core k (runningOn_some hrun)⟩
    · have hcore : (4 * core + thread) / 4 = core := by omega
      rw [threadOf_watch, threadOf_testPreempt,
        threadOf_fillThread (hkeeps.dispatchStopped.trans (hstop.trans hlock)) (by rw [hcore, hkeeps.coreUp, hup]) hfree, hcore]
      rfl

end Sys2Proof.Machine
end

section
/-! PROOF. What a fence does (O20): it takes its unit out of use and is reported; then a core's items are taken back, an engine's item is
retried, a bank's entries are lost and a DRBG is uninstantiated. -/

namespace Sys2Proof.Machine

/-! ## The fence of a unit (R327, R345, R346) -/

theorem getLsbD_bitOr_ne {w k n : Nat} (x : BitVec w) (h : k ≠ n) : (bitOr x n).getLsbD k = x.getLsbD k := by
  rw [bitOr, BitVec.getLsbD_or, BitVec.getLsbD_ofNat, Nat.testBit_two_pow_of_ne h.symm, Bool.and_false, Bool.or_false]

@[simp] theorem fenceReport_fen (cls unit cause : Nat) (d : Dev) : (fenceReport cls unit cause d).fen = d.fen := by simp [fenceReport]

@[simp] theorem fenceReport_sched (cls unit cause : Nat) (d : Dev) : (fenceReport cls unit cause d).sched = d.sched := by
  simp [fenceReport]

@[simp] theorem fenceReport_keys (cls unit cause : Nat) (d : Dev) : (fenceReport cls unit cause d).keys = d.keys := by
  simp [fenceReport]

@[simp] theorem fenceReport_sys (cls unit cause : Nat) (d : Dev) : (fenceReport cls unit cause d).sys =
    { d.sys with faultStatus := d.sys.faultStatus ||| 1, lastFence := BitVec.ofNat 32 (cls + unit * 256 + cause * 65536) } := by
  simp [fenceReport, setFault]

/-! ## One change for each entry of a list -/

theorem Tab.key_mem_of_find {α : Type} {t : Tab α} {k : Nat} {v : α} (h : Tab.find t k = some v) : k ∈ t.map (·.1) :=
  List.mem_map.mpr ⟨_, Tab.mem_of_find h, rfl⟩

/-- A fold whose every step changes one entry by an idempotent change, under an invariant, changes the entries listed. -/
theorem foldl_changes_listed {σ β : Type} {P : σ → Prop} {get : σ → Nat → Option β} {g : Option β → Option β} {step : σ → Nat → σ}
    (hidem : ∀ x, g (g x) = g x) (hkeeps : ∀ d id, P d → P (step d id))
    (hstep : ∀ d id j, P d → get (step d id) j = if j = id then g (get d j) else get d j) (l : List Nat) :
    ∀ {d : σ}, P d → P (l.foldl step d) ∧ ∀ j, get (l.foldl step d) j = if j ∈ l then g (get d j) else get d j := by
  induction l with
  | nil => exact fun h => ⟨h, fun j => by simp⟩
  | cons id l ih =>
    intro d h
    obtain ⟨hP, hget⟩ := ih (hkeeps d id h)
    refine ⟨hP, fun j => ?_⟩
    rw [List.foldl_cons, hget, hstep d id j h]
    by_cases hj : j = id <;> by_cases hl : j ∈ l <;> simp [hj, hl, hidem]

/-! ## The items of a core (R89) -/

/-- An item taken back for its one retry. -/
def takenBack (i : Item) : Item :=
  { i with
    place := .ready, front := true, retried := true, res := none, wait := .none, preempt := false, run := none, copies := []
    queued := none }

/-- What a fence of core `n` makes of an item. -/
def afterFence (n : Nat) (i : Item) : Item := if onCore n i = true then takenBack i else i

theorem onCore_afterFence (n : Nat) (i : Item) : onCore n (afterFence n i) = false := by
  unfold afterFence
  split
  · rfl
  · next h => simpa using h

theorem afterFence_afterFence (n : Nat) (i : Item) : afterFence n (afterFence n i) = afterFence n i := by
  rw [afterFence, if_neg (by simp [onCore_afterFence])]

/-- The device as a core is fenced: out of use and reported. -/
def coreFenced (n cause : Nat) (d : Dev) : Dev := fenceReport 1 n cause { d with fen := { d.fen with tc := bitOr d.fen.tc n } }

/-- Every item that core `n` holds still has its retry, and none of them is ordered aborted. -/
def Retryable (n : Nat) (d : Dev) : Prop := ∀ id i, itemOf d id = some i → onCore n i = true → i.retried = false ∧ i.abort = false

/-- The item is taken back if core `n` holds it. -/
def takeBackFrom (n : Nat) (d : Dev) (id : Nat) : Dev := if (itemOf d id).any (onCore n) then takeBack id d else d

theorem fenceCore_eq {n : Nat} (cause : Nat) {d : Dev} (h : d.fen.tc.getLsbD n = false) :
    fenceCore n cause d = ((itemList d).map (·.1)).foldl (takeBackFrom n) (coreFenced n cause d) := by
  simp only [fenceCore, h, Bool.false_eq_true, if_false, itemList, fenceReport_sched]
  rfl

theorem takeBack_retryable {d : Dev} {id : Nat} {i : Item} (h : itemOf d id = some i) (hr : i.retried = false) (ha : i.abort = false) :
    takeBack id d = modItem id takenBack (cancelSteps id (cancelRequests id (freeThread i.place d))) := by
  simp only [takeBack, h, hr, ha, Bool.false_eq_true, if_false]
  rfl

theorem takeBackFrom_held {n id : Nat} {d : Dev} {i : Item} (hd : Retryable n d) (h : itemOf d id = some i) (hon : onCore n i = true) :
    takeBackFrom n d id = modItem id takenBack (cancelSteps id (cancelRequests id (freeThread i.place d))) := by
  obtain ⟨hr, ha⟩ := hd id i h hon
  rw [takeBackFrom, h, if_pos (by simpa using hon), takeBack_retryable h hr ha]

theorem takeBackFrom_elsewhere {n id : Nat} {d : Dev} (h : ∀ i, itemOf d id = some i → onCore n i = false) : takeBackFrom n d id = d := by
  refine if_neg ?_
  cases hi : itemOf d id with
  | none => simp
  | some i => simp [h i hi]

theorem itemOf_takeBackFrom {n : Nat} {d : Dev} (hd : Retryable n d) (id j : Nat) :
    itemOf (takeBackFrom n d id) j = if j = id then (itemOf d j).map (afterFence n) else itemOf d j := by
  by_cases hheld : ∃ i, itemOf d id = some i ∧ onCore n i = true
  · obtain ⟨i, hi, hon⟩ := hheld
    have hsame : ∀ k, itemOf (cancelSteps id (cancelRequests id (freeThread i.place d))) k = itemOf d k := itemOf_freeThread _ _
    rw [takeBackFrom_held hd hi hon]
    by_cases hj : j = id
    · subst hj
      simp [itemOf_modItem_same, hsame, hi, afterFence, hon]
    · rw [itemOf_modItem_ne _ _ hj, hsame, if_neg hj]
  · have helse : ∀ i, itemOf d id = some i → onCore n i = false := fun i hi => by
      simpa using fun hon => hheld ⟨i, hi, hon⟩
    rw [takeBackFrom_elsewhere helse]
    split
    · next hj =>
      subst hj
      cases hi : itemOf d j with
      | none => rfl
      | some i => simp [afterFence, helse i hi]
    · rfl

theorem Retryable.takeBackFrom {n : Nat} {d : Dev} (hd : Retryable n d) (id : Nat) : Retryable n (takeBackFrom n d id) := by
  intro j i hi hon
  rw [itemOf_takeBackFrom hd] at hi
  split at hi
  · obtain ⟨i0, -, rfl⟩ := Option.map_eq_some_iff.mp hi
    simp [onCore_afterFence] at hon
  · exact hd j i hi hon

/-- Taking an item back changes neither the status of the device nor the fences. -/
theorem takeBackFrom_frame {n : Nat} {d : Dev} (hd : Retryable n d) (id : Nat) :
    (takeBackFrom n d id).sys = d.sys ∧ (takeBackFrom n d id).fen = d.fen := by
  by_cases hheld : ∃ i, itemOf d id = some i ∧ onCore n i = true
  · obtain ⟨i, hi, hon⟩ := hheld
    have hfree := schedules_freeThread i.place d
    have hback := schedules_modItem id takenBack (cancelSteps id (cancelRequests id (freeThread i.place d)))
    rw [takeBackFrom_held hd hi hon]
    exact ⟨hback.sys.trans hfree.sys, hback.fen.trans hfree.fen⟩
  · rw [takeBackFrom_elsewhere fun i hi => by simpa using fun hon => hheld ⟨i, hi, hon⟩]
    exact ⟨rfl, rfl⟩

/-- A fenced core: reported, and every item it held back at the head of its flow. -/
theorem fenceCore_takes_back {n : Nat} (cause : Nat) {d : Dev} (h : d.fen.tc.getLsbD n = false) (hd : Retryable n d) :
    (fenceCore n cause d).fen = { d.fen with tc := bitOr d.fen.tc n } ∧
      (fenceCore n cause d).sys =
        { d.sys with faultStatus := d.sys.faultStatus ||| 1, lastFence := BitVec.ofNat 32 (1 + n * 256 + cause * 65536) } ∧
      ∀ id i, itemOf d id = some i → itemOf (fenceCore n cause d) id = some (afterFence n i) := by
  have hitems : ∀ id, itemOf (coreFenced n cause d) id = itemOf d id := fun id => by simp [itemOf, coreFenced]
  have hfenced : Retryable n (coreFenced n cause d) := fun id i hi => hd id i ((hitems id).symm.trans hi)
  obtain ⟨⟨hsys, hfen, -⟩, hget⟩ := foldl_changes_listed (get := itemOf) (g := Option.map (afterFence n))
    (P := fun e => e.sys = (coreFenced n cause d).sys ∧ e.fen = (coreFenced n cause d).fen ∧ Retryable n e)
    (fun x => by cases x <;> simp [afterFence_afterFence])
    (fun e id ⟨hs, hf, hr⟩ => ⟨(takeBackFrom_frame hr id).1.trans hs, (takeBackFrom_frame hr id).2.trans hf, hr.takeBackFrom id⟩)
    (fun e id j he => itemOf_takeBackFrom he.2.2 id j) ((itemList d).map (·.1)) ⟨rfl, rfl, hfenced⟩
  rw [fenceCore_eq cause h]
  refine ⟨hfen.trans (fenceReport_fen ..), hsys.trans (fenceReport_sys ..), fun id i hi => ?_⟩
  have hmem : id ∈ (itemList d).map (·.1) := Tab.key_mem_of_find hi
  rw [hget, if_pos hmem, hitems, hi]
  rfl

theorem does_coreFence {s : State} {n : Nat} (cause : Nat) (hn : n < coreCount s.dev) :
    Does (.coreFence n cause) s (fenceCore n cause s.dev) := by
  rw [Does, exec_coreFence, execCoreFence, onUnit, if_pos (by simpa using hn), watch_const]

/-! ## The item of an engine (R204, R210, R235) -/

/-- The row of the command table that fences an engine of a pool. -/
def fenceRow (p : Pool) (n cause : Nat) : Instr :=
  match p with
  | .cipher => .engineFence true n cause
  | .digest => .engineFence false n cause
  | .pk => .pkEngineFence n cause

/-- The class of a pool's engines in a fence report (R346). -/
def poolClass : Pool → Nat
  | .cipher => 2
  | .digest => 3
  | .pk => 4

/-- The fences with an engine of a pool among them. -/
def withFence (p : Pool) (n : Nat) (f : Fences) : Fences :=
  match p with
  | .cipher => { f with ce := bitOr f.ce n }
  | .digest => { f with de := bitOr f.de n }
  | .pk => { f with pk := bitOr f.pk n }

/-- The device as an engine is fenced: zeroised, out of use and reported. -/
def engineFenced (p : Pool) (n cause : Nat) (d : Dev) : Dev :=
  fenceReport (poolClass p) n cause (setEngine p n {} { d with fen := withFence p n d.fen })

/-- An engine of the pool is left to serve. -/
def PoolServes (p : Pool) (d : Dev) : Prop := ∃ k, k < poolSize d p ∧ poolFenced d p k = false

theorem fenceEngine_idle {p : Pool} {n : Nat} (cause : Nat) {d : Dev} (hf : poolFenced d p n = false) (hcur : (engineOf d p n).cur = none) :
    fenceEngine p n cause d = engineFenced p n cause d := by
  cases p <;> simp [fenceEngine, hf, hcur, engineFenced, withFence, poolClass]

theorem fenceEngine_busy {p : Pool} {n : Nat} (cause : Nat) {d : Dev} {q : EngReq} (hf : poolFenced d p n = false)
    (hcur : (engineOf d p n).cur = some q) (habort : (engineOf d p n).aborting = false) :
    fenceEngine p n cause d = retryItem q.item (engineFenced p n cause d) := by
  cases p <;> simp [fenceEngine, hf, hcur, habort, engineFenced, withFence, poolClass]

theorem failPool_serves {p : Pool} {d : Dev} (h : PoolServes p d) : failPool p d = d := by
  obtain ⟨k, hk, hf⟩ := h
  refine if_neg fun hall => ?_
  simpa [hf] using List.all_eq_true.mp hall k (List.mem_range.mpr hk)

theorem engineFenced_serves {p : Pool} {n : Nat} (cause : Nat) {d : Dev} (h : ∃ k, k < poolSize d p ∧ k ≠ n ∧ poolFenced d p k = false) :
    PoolServes p (engineFenced p n cause d) := by
  obtain ⟨k, hk, hne, hf⟩ := h
  refine ⟨k, ?_, ?_⟩
  · cases p <;> simpa [poolSize, ceCount, deCount, pkCount, engineFenced, setEngine] using hk
  · cases p <;> simpa [poolFenced, engineFenced, setEngine, withFence, getLsbD_bitOr_ne _ hne] using hf

theorem Schedules.poolServes {p : Pool} {d e : Dev} (h : Schedules d e) (hd : PoolServes p d) : PoolServes p e := by
  obtain ⟨_, _, rfl⟩ := h
  exact hd

theorem itemOf_engineFenced (p : Pool) (n cause : Nat) (d : Dev) (id : Nat) : itemOf (engineFenced p n cause d) id = itemOf d id := by
  cases p <;> simp [itemOf, engineFenced, setEngine]

theorem retryItem_first {d : Dev} {id : Nat} {i : Item} (h : itemOf d id = some i) (ha : i.abort = false) (hr : i.retried = false) :
    retryItem id d = modItem id (fun i => { i with retried := true, wait := .none, copies := [], queued := none }) d := by
  simp [retryItem, h, ha, hr]

theorem retryItem_second {d : Dev} {id : Nat} {i : Item} (h : itemOf d id = some i) (ha : i.abort = false) (hr : i.retried = true)
    (hrun : ∃ c t, i.place = .running c t) : retryItem id d = setRes id { status := .fault } d := by
  obtain ⟨c, t, hplace⟩ := hrun
  simp [retryItem, h, ha, hr, hplace]

theorem does_fenceRow {s : State} {p : Pool} {n : Nat} (cause : Nat) (hn : n < poolSize s.dev p) :
    Does (fenceRow p n cause) s (fencePool p n cause s.dev) := by
  cases p with
  | cipher => exact if_pos (decide_eq_true hn)
  | digest => exact if_pos (decide_eq_true hn)
  | pk => exact if_pos (decide_eq_true hn)

section
variable {s : State} {p : Pool} {n : Nat} (cause : Nat) (hn : n < poolSize s.dev p) (hf : poolFenced s.dev p n = false)
  (hleft : ∃ k, k < poolSize s.dev p ∧ k ≠ n ∧ poolFenced s.dev p k = false)
include hn hf hleft

theorem does_fenceRow_idle (hcur : (engineOf s.dev p n).cur = none) :
    Does (fenceRow p n cause) s (engineFenced p n cause s.dev) := by
  have hd := does_fenceRow cause hn
  rwa [fencePool, fenceEngine_idle cause hf hcur, failPool_serves (engineFenced_serves cause hleft)] at hd

theorem does_fenceRow_retries {q : EngReq} {f : Item → Item} (hcur : (engineOf s.dev p n).cur = some q)
    (habort : (engineOf s.dev p n).aborting = false)
    (hretry : retryItem q.item (engineFenced p n cause s.dev) = modItem q.item f (engineFenced p n cause s.dev)) :
    Does (fenceRow p n cause) s (modItem q.item f (engineFenced p n cause s.dev)) := by
  have hd := does_fenceRow cause hn
  rwa [fencePool, fenceEngine_busy cause hf hcur habort, hretry,
    failPool_serves ((schedules_modItem q.item f _).poolServes (engineFenced_serves cause hleft))] at hd

/-- An engine's fence with an engine of its pool left, where the engine is idle, at work on its item's first try, or on its retry. -/
theorem fenceRow_retries_once :
    ((engineOf s.dev p n).cur = none → Does (fenceRow p n cause) s (engineFenced p n cause s.dev)) ∧
    (∀ q i, (engineOf s.dev p n).cur = some q → (engineOf s.dev p n).aborting = false → itemOf s.dev q.item = some i → i.abort = false →
      (i.retried = false → Does (fenceRow p n cause) s (modItem q.item
        (fun i => { i with retried := true, wait := .none, copies := [], queued := none }) (engineFenced p n cause s.dev))) ∧
      (i.retried = true → (∃ c t, i.place = .running c t) →
        Does (fenceRow p n cause) s (setRes q.item { status := .fault } (engineFenced p n cause s.dev)))) := by
  refine ⟨does_fenceRow_idle cause hn hf hleft, fun q i hcur habort hi ha => ?_⟩
  have hitem := (itemOf_engineFenced p n cause s.dev q.item).trans hi
  exact ⟨fun hr => does_fenceRow_retries cause hn hf hleft hcur habort (retryItem_first hitem ha hr),
    fun hr hrun => does_fenceRow_retries cause hn hf hleft hcur habort (retryItem_second hitem ha hr hrun)⟩

end

/-! ## The entries of a key-cache bank (R121, R128) -/

theorem dropEntry_found {d : Dev} {id : Nat} {e : CacheEnt} (h : Tab.find d.keys.cache id = some e) :
    (dropEntry id d).keys.cache = Tab.del d.keys.cache id ∧ (dropEntry id d).sys = d.sys ∧ (dropEntry id d).fen = d.fen := by
  unfold dropEntry
  simp only [h]
  split
  · split <;> exact ⟨rfl, rfl, rfl⟩
  · exact ⟨rfl, rfl, rfl⟩

/-- The device as a bank is fenced: out of use and reported. -/
def bankFenced (n cause : Nat) (d : Dev) : Dev := fenceReport 5 n cause { d with fen := { d.fen with bank := bitOr d.fen.bank n } }

/-- What is left of a cache entry when bank `n` is fenced. -/
def keptEntry (n : Nat) (e : CacheEnt) : Option CacheEnt :=
  if e.bank = n then
    (match e.src with
      | .eph _ => some { e with damaged := true, key := {} }
      | _ => none)
  else some e

theorem keptEntry_dropped {n : Nat} {e : CacheEnt} (hb : e.bank = n) (hs : ∀ x, e.src ≠ .eph x) : keptEntry n e = none := by
  simp only [keptEntry, hb, if_true]

theorem keptEntry_keptEntry (n : Nat) (e : CacheEnt) : (keptEntry n e).bind (keptEntry n) = keptEntry n e := by
  by_cases hb : e.bank = n
  · cases hs : e.src <;> simp [keptEntry, hb, hs]
  · simp [keptEntry, hb]

/-- A cache entry is lost if bank `n` holds it. -/
def loseEntry (n : Nat) (d : Dev) (id : Nat) : Dev :=
  match Tab.find d.keys.cache id with
  | none => d
  | some e =>
    if e.bank ≠ n then d
    else match e.src with
      | .eph _ => { d with keys := { d.keys with cache := Tab.put d.keys.cache id { e with damaged := true, key := {} } } }
      | _ => dropEntry id d

theorem fenceBank_eq {n : Nat} (cause : Nat) {d : Dev} (h : d.fen.bank.getLsbD n = false) :
    fenceBank n cause d = (d.keys.cache.map (·.1)).foldl (loseEntry n) (bankFenced n cause d) := by
  simp only [fenceBank, h, Bool.false_eq_true, if_false, fenceReport_keys]
  rfl

theorem loseEntry_absent {n id : Nat} {d : Dev} (h : Tab.find d.keys.cache id = none) : loseEntry n d id = d := by simp [loseEntry, h]

theorem loseEntry_elsewhere {n id : Nat} {d : Dev} {e : CacheEnt} (h : Tab.find d.keys.cache id = some e) (hb : e.bank ≠ n) :
    loseEntry n d id = d := by
  simp [loseEntry, h, hb]

theorem loseEntry_handle {n id x : Nat} {d : Dev} {e : CacheEnt} (h : Tab.find d.keys.cache id = some e) (hb : e.bank = n)
    (hs : e.src = .eph x) : loseEntry n d id =
      { d with keys := { d.keys with cache := Tab.put d.keys.cache id { e with damaged := true, key := {} } } } := by
  simp [loseEntry, h, hb, hs]

theorem loseEntry_dropped {n id : Nat} {d : Dev} {e : CacheEnt} (h : Tab.find d.keys.cache id = some e) (hb : e.bank = n)
    (hs : ∀ x, e.src ≠ .eph x) : loseEntry n d id = dropEntry id d := by
  unfold loseEntry
  simp only [h, hb, ne_eq, not_true_eq_false, if_false]

theorem loseEntry_frame (n : Nat) (d : Dev) (id : Nat) : (loseEntry n d id).sys = d.sys ∧ (loseEntry n d id).fen = d.fen := by
  cases hid : Tab.find d.keys.cache id with
  | none => rw [loseEntry_absent hid]; exact ⟨rfl, rfl⟩
  | some e =>
    by_cases hb : e.bank = n
    · by_cases hs : ∃ x, e.src = .eph x
      · obtain ⟨x, hs⟩ := hs
        rw [loseEntry_handle hid hb hs]
        exact ⟨rfl, rfl⟩
      · rw [loseEntry_dropped hid hb (not_exists.mp hs)]
        exact (dropEntry_found hid).2
    · rw [loseEntry_elsewhere hid hb]
      exact ⟨rfl, rfl⟩

theorem find_loseEntry (n : Nat) (d : Dev) (id j : Nat) : Tab.find (loseEntry n d id).keys.cache j =
    if j = id then (Tab.find d.keys.cache j).bind (keptEntry n) else Tab.find d.keys.cache j := by
  cases hid : Tab.find d.keys.cache id with
  | none =>
    rw [loseEntry_absent hid]
    by_cases hj : j = id <;> simp [hj, hid]
  | some e =>
    by_cases hb : e.bank = n
    · by_cases hs : ∃ x, e.src = .eph x
      · obtain ⟨x, hs⟩ := hs
        rw [loseEntry_handle hid hb hs]
        by_cases hj : j = id
        · simp [hj, hid, keptEntry, hb, hs]
        · simp [Tab.find_put_ne _ _ hj, hj]
      · rw [loseEntry_dropped hid hb (not_exists.mp hs), (dropEntry_found hid).1]
        by_cases hj : j = id
        · simp [hj, hid, Tab.find_del_same, keptEntry_dropped hb (not_exists.mp hs)]
        · rw [Tab.find_del_ne hj, if_neg hj]
    · rw [loseEntry_elsewhere hid hb]
      by_cases hj : j = id <;> simp [hj, hid, keptEntry, hb]

/-- A fenced bank: reported, and of its entries only the kind 2 handles left, damaged. -/
theorem fenceBank_loses {n : Nat} (cause : Nat) {d : Dev} (h : d.fen.bank.getLsbD n = false) :
    (fenceBank n cause d).fen = { d.fen with bank := bitOr d.fen.bank n } ∧
      (fenceBank n cause d).sys =
        { d.sys with faultStatus := d.sys.faultStatus ||| 1, lastFence := BitVec.ofNat 32 (5 + n * 256 + cause * 65536) } ∧
      ∀ id e, Tab.find d.keys.cache id = some e → Tab.find (fenceBank n cause d).keys.cache id = keptEntry n e := by
  obtain ⟨⟨hsys, hfen⟩, hget⟩ := foldl_changes_listed (get := fun e => Tab.find e.keys.cache) (g := (·.bind (keptEntry n)))
    (P := fun e => e.sys = (bankFenced n cause d).sys ∧ e.fen = (bankFenced n cause d).fen)
    (fun x => by cases x <;> simp [keptEntry_keptEntry])
    (fun e id ⟨hs, hf⟩ => ⟨(loseEntry_frame n e id).1.trans hs, (loseEntry_frame n e id).2.trans hf⟩)
    (fun e id j _ => find_loseEntry n e id j) (d.keys.cache.map (·.1)) ⟨rfl, rfl⟩
  rw [fenceBank_eq cause h]
  refine ⟨hfen.trans (fenceReport_fen ..), hsys.trans (fenceReport_sys ..), fun id e he => ?_⟩
  rw [hget, if_pos (Tab.key_mem_of_find he)]
  simp [bankFenced, he]

theorem does_keyCacheBankFence {s : State} {n : Nat} (cause : Nat) (hn : n < 16) (h : s.dev.fen.bank.getLsbD n = false) :
    Does (.keyCacheBankFence n cause none) s (fenceBank n cause s.dev) := by
  rw [Does, exec_keyCacheBankFence, execKeyCacheBankFence, onUnit, if_pos (by simpa using hn), watch_const]
  simp only [h, Bool.false_eq_true, if_false, retryReader]

/-! ## A DRBG (R253) -/

/-- The fence of a DRBG while another one is left. -/
theorem fenceInst_spared {n : Nat} (cause : Nat) {d : Dev} (h : d.fen.drbg.getLsbD n = false)
    (hleft : ∃ k, k < 16 ∧ k ≠ n ∧ d.fen.drbg.getLsbD k = false) :
    fenceInst n cause d = modRng (fun r => { r with inst := Tab.del r.inst n, due := r.due.filter (· != n) })
      (fenceReport 6 n cause { d with fen := { d.fen with drbg := bitOr d.fen.drbg n } }) := by
  obtain ⟨k, hk, hne, hf⟩ := hleft
  have hserves : (bitOr d.fen.drbg n).getLsbD k = false := (getLsbD_bitOr_ne _ hne).trans hf
  unfold fenceInst
  simp only [h, Bool.false_eq_true, if_false]
  refine if_neg fun hall => ?_
  simpa [hserves] using List.all_eq_true.mp hall k (List.mem_range.mpr hk)

theorem does_drbgInstanceFence {s : State} {n : Nat} (cause : Nat) (hn : n < 16) (h : s.dev.fen.drbg.getLsbD n = false) :
    Does (.drbgInstanceFence n cause none) s (fenceInst n cause s.dev) := by
  rw [Does, exec_drbgInstanceFence, execDrbgInstanceFence, onUnit, if_pos (by simpa using hn), watch_const]
  simp only [h, Bool.false_eq_true, if_false, countDraw]

/-! ## The obligation -/

/-- Settles O20: each fence is its report and one change for each thing the unit held, which a second visit would not change again. -/
theorem fencesRetryOnce : Obligations.FencesRetryOnce := by
  unfold Obligations.FencesRetryOnce
  intro s n cause
  refine ⟨fun hn hf hitems => ?_, fun p hn hf hleft => ?_, fun hn hf => ?_, fun hn hf hleft => ?_⟩
  · have hd : Retryable n s.dev := fun id i hi => hitems _ (Tab.mem_of_find hi)
    obtain ⟨hfen, hsys, hback⟩ := fenceCore_takes_back cause hf hd
    refine ⟨_, does_coreFence cause hn, (watch_fen _ _).trans hfen, ?_, ?_, fun id i hi => (itemOf_watch _ _ _).trans (hback id i hi)⟩
    · simp [hsys]
    · simp [hsys]
  · cases p with
    | cipher => exact fenceRow_retries_once cause hn hf hleft
    | digest => exact fenceRow_retries_once cause hn hf hleft
    | pk => exact fenceRow_retries_once cause hn hf hleft
  · obtain ⟨hfen, hsys, hlost⟩ := fenceBank_loses cause hf
    refine ⟨_, does_keyCacheBankFence cause hn hf, (watch_fen _ _).trans hfen, ?_, fun id e he => ?_⟩
    · simp [hsys]
    · rw [watch_keys]
      exact hlost id e he
  · have hd := does_drbgInstanceFence cause hn hf
    rwa [fenceInst_spared cause hf hleft] at hd

end Sys2Proof.Machine
end

section
/-! PROOF. How an activation goes on (O41): the drain and its ceiling, the change of the active bank, the security fuse stepped to the
image's version, and the restart of the CP with what it loses and answers. -/

namespace Sys2Proof.Machine

/-! ## The count of a fuse word (R363, R447) -/

/-- The search for the highest of the first `m` bits: a bound, every bit set below it, and the bit under it set. -/
theorem foldl_highest (p : Nat → Bool) (m : Nat) :
    (List.range m).foldl (fun n i => if p i then i + 1 else n) 0 ≤ m ∧
      (∀ i, i < m → p i = true → i < (List.range m).foldl (fun n i => if p i then i + 1 else n) 0) ∧
      ∀ k, (List.range m).foldl (fun n i => if p i then i + 1 else n) 0 = k + 1 → p k = true := by
  induction m with
  | zero => simp
  | succ m ih =>
    obtain ⟨hle, hbelow, htop⟩ := ih
    rw [List.range_succ, List.foldl_append, List.foldl_cons, List.foldl_nil]
    cases hm : p m with
    | true =>
      refine ⟨le_rfl, fun i hi _ => hi, fun k hk => ?_⟩
      rwa [← Nat.succ.inj hk]
    | false =>
      refine ⟨Nat.le_succ_of_le hle, fun i hi hpi => hbelow i ?_ hpi, htop⟩
      have hne : i ≠ m := by rintro rfl; simp [hm] at hpi
      omega

theorem lt_fuseCount {w i : Nat} {x : BitVec w} (h : x.getLsbD i = true) : i < fuseCount x :=
  (foldl_highest x.getLsbD w).2.1 i (BitVec.lt_of_getLsbD h) h

theorem getLsbD_of_fuseCount {w k : Nat} {x : BitVec w} (h : fuseCount x = k + 1) : x.getLsbD k = true :=
  (foldl_highest x.getLsbD w).2.2 k h

/-- The count is fixed by the highest blown bit. -/
theorem fuseCount_eq {w k : Nat} {x : BitVec w} (hk : x.getLsbD k = true) (hhigh : ∀ i, x.getLsbD i = true → i ≤ k) :
    fuseCount x = k + 1 := by
  have hlow := lt_fuseCount hk
  obtain ⟨j, hj⟩ : ∃ j, fuseCount x = j + 1 := Nat.exists_eq_succ_of_ne_zero (by omega)
  have := hhigh j (getLsbD_of_fuseCount hj)
  omega

theorem fuseCount_blowNext {w : Nat} {x : BitVec w} (h : fuseCount x < w) : fuseCount (blowNext x) = fuseCount x + 1 := by
  have hbit : ∀ i, (blowNext x).getLsbD i = (x.getLsbD i || (decide (i < w) && decide (fuseCount x = i))) := fun i => by
    rw [blowNext, if_pos h, BitVec.getLsbD_or, BitVec.getLsbD_ofNat, Nat.testBit_two_pow]
  refine fuseCount_eq (by simp [hbit, h]) fun i hi => ?_
  rw [hbit, Bool.or_eq_true] at hi
  obtain hi | hi := hi
  · exact (lt_fuseCount hi).le
  · simp only [Bool.and_eq_true, decide_eq_true_eq] at hi
    exact hi.2.ge

theorem fuseCount_blown {w : Nat} {x : BitVec w} (m : Nat) (h : fuseCount x + m ≤ w) :
    fuseCount ((List.range m).foldl (fun y _ => blowNext y) x) = fuseCount x + m := by
  induction m with
  | zero => rfl
  | succ m ih =>
    have hm := ih (by omega)
    rw [List.range_succ, List.foldl_append, List.foldl_cons, List.foldl_nil, fuseCount_blowNext (by omega), hm]
    rfl

/-- A fuse word stepped to a version within its width counts that version. -/
theorem fuseCount_stepFuse {w target : Nat} {x : BitVec w} (h : fuseCount x ≤ target) (hw : target ≤ w) :
    fuseCount (stepFuse target x) = target := by
  rw [stepFuse, fuseCount_blown _ (by omega)]
  omega

/-! ## What an answer through a mailbox can change (R261, R264, R266) -/

/-- From `d` to `e` nothing but the host interface, the CP's own state, the recorder and the output has changed. -/
def Replies (d e : Dev) : Prop := ∃ h m l o, e = { d with hif := h, mg := m, log := l, out := o }

namespace Replies

theorem refl (d : Dev) : Replies d d := ⟨_, _, _, _, rfl⟩

theorem trans {d e f : Dev} (h1 : Replies d e) (h2 : Replies e f) : Replies d f := by
  obtain ⟨_, _, _, _, rfl⟩ := h1
  obtain ⟨h, m, l, o, rfl⟩ := h2
  exact ⟨h, m, l, o, rfl⟩

theorem foldl {α : Type} {f : Dev → α → Dev} (hf : ∀ d x, Replies d (f d x)) (l : List α) : ∀ d, Replies d (l.foldl f d) := by
  induction l with
  | nil => exact refl
  | cons x l ih => exact fun d => (hf d x).trans (ih _)

theorem sys {d e : Dev} (h : Replies d e) : e.sys = d.sys := by
  obtain ⟨_, _, _, _, rfl⟩ := h; rfl

theorem fw {d e : Dev} (h : Replies d e) : e.fw = d.fw := by
  obtain ⟨_, _, _, _, rfl⟩ := h; rfl

end Replies

theorem replies_modBox (m : Nat) (f : Mailbox → Mailbox) (d : Dev) : Replies d (modBox m f d) := ⟨_, _, _, _, rfl⟩

theorem replies_emit (o : Out) (d : Dev) : Replies d (emit o d) := ⟨_, _, _, _, rfl⟩

theorem replies_raise (code source p1 p2 : Nat) (d : Dev) : Replies d (raise code source p1 p2 d) := by
  obtain ⟨_, h⟩ := raise_only code source p1 p2 d
  exact ⟨_, _, _, _, h⟩

theorem replies_signal (v : Nat) (d : Dev) : Replies d (signal v d) := by
  obtain ⟨_, _, h⟩ := signal_only v d
  exact ⟨_, _, _, _, h⟩

theorem replies_writeResponse (m : Nat) (r : Resp) (d : Dev) : Replies d (writeResponse m r d) := by
  unfold writeResponse
  dsimp only
  split
  · exact (replies_modBox _ _ _).trans (replies_emit _ _)
  · split
    · exact (replies_modBox _ _ _).trans (replies_signal _ _)
    · exact replies_modBox _ _ _

theorem replies_respond (m : Nat) (r : Resp) (out : List Byte) (outAddr session : Nat) (d : Dev) :
    Replies d (respond m r out outAddr session d) := by
  have delivered : ∀ b : List Byte, Replies d (if b.isEmpty then d else emit (.mailboxData outAddr b) d) := by
    intro b
    split
    · exact .refl _
    · exact replies_emit _ _
  have written : ∀ {e : Dev} {r2 : Resp}, Replies d e →
      Replies d (if e.log.held.isEmpty then writeResponse m r2 e else modBox m (fun b => { b with wait := .record r2 }) e) := by
    intro e r2 he
    split
    · exact he.trans (replies_writeResponse _ _ _)
    · exact he.trans (replies_modBox _ _ _)
  unfold respond
  dsimp only
  split <;> exact written (delivered _)

theorem replies_answer (m : Nat) (st : Status) (body out : List Byte) (unm : Bool) (before : Nat) (d : Dev) :
    Replies d (answer m st body out unm before d) := by
  unfold answer
  split
  · exact .refl _
  · next op q _ =>
    have responded : ∀ r, Replies d (respond m r out q.outAddr q.session d) := fun _ => replies_respond ..
    have closed : ∀ r, Replies d { respond m r out q.outAddr q.session d with
        mg := { (respond m r out q.outAddr q.session d).mg with
          sessions := Tab.del (respond m r out q.outAddr q.session d).mg.sessions q.session } } :=
      fun r => (responded r).trans ⟨_, _, _, _, rfl⟩
    dsimp only
    split
    · exact responded _
    · split
      · exact closed _
      · split
        · exact (closed _).trans (replies_raise ..)
        · exact responded _

theorem replies_answerRaw (m : Nat) (st : Status) (d : Dev) : Replies d (answerRaw m st d) := by
  unfold answerRaw
  exact replies_respond ..

/-- A request that a restart of the CP has left BUSY is answered. -/
theorem replies_answerAbandoned (c : Cx) (m : Nat) (d : Dev) : Replies d (answerAbandoned c m d) := by
  unfold answerAbandoned
  dsimp only
  split
  · exact .refl _
  · split
    · exact replies_modBox _ _ _
    · split
      · exact replies_answer ..
      · split
        · exact (replies_modBox _ _ _).trans (replies_answer ..)
        · exact (replies_modBox _ _ _).trans (replies_answerRaw ..)

/-! ## What a restart of the CP loses (R264, R330) -/

theorem replies_endSession (id : Nat) (d : Dev) : Replies d (endSession id d) := by
  unfold endSession
  split
  · exact .refl _
  · refine .trans ?_ (replies_raise ..)
    exact ⟨_, _, _, _, rfl⟩

theorem foldl_orphanSteps_only (l : List Nat) : ∀ d : Dev, ∃ p, l.foldl (fun d m => orphanSteps m d) d = { d with pair := p } := by
  induction l with
  | nil => exact fun d => ⟨_, rfl⟩
  | cons m l ih =>
    intro d
    obtain ⟨p, hp⟩ := ih (orphanSteps m d)
    exact ⟨p, hp⟩

theorem endRaw_only (run : RawRun) (d : Dev) : ∃ g l, endRaw run d = { d with rng := g, log := l } := by
  unfold endRaw
  obtain ⟨l, h⟩ := raise_only 0x6005 run.source run.source run.mode (modRng (fun r => { r with
    raw := none
    inst := r.inst.map (fun (k, i) => (k, if i.seeded then { i with stopped := true } else i))
    due := r.due ++ ((List.range 16).filter (fun n => (Tab.getD d.rng.inst n {}).seeded)).filter (fun n => !r.due.contains n) }) d)
  exact ⟨_, l, h⟩

/-- The CP's restart loses the migration keys, and changes neither the status of the device nor its fences or firmware. -/
theorem loseCp_spec (d : Dev) :
    (loseCp d).sys = d.sys ∧ (loseCp d).fen = d.fen ∧ (loseCp d).fw = d.fw ∧ (loseCp d).mg.migration = [] := by
  unfold loseCp
  dsimp only
  obtain ⟨_, _, _, _, hsessions⟩ := Replies.foldl (fun e k => replies_endSession k e) (d.mg.sessions.map (·.1)) d
  rw [hsessions]
  obtain ⟨_, hsteps⟩ := foldl_orphanSteps_only _ _
  rw [hsteps]
  split
  · obtain ⟨_, _, hraw⟩ := endRaw_only _ _
    rw [hraw]
    exact ⟨rfl, rfl, rfl, rfl⟩
  · exact ⟨rfl, rfl, rfl, rfl⟩

/-! ## The drain and the change of banks (R93, R445) -/

/-- The dispatched items that still run: no result, and no abort ordered. -/
def unfinished (d : Dev) : List Nat := (dispatched d).filter (fun id => (itemOf d id).any (fun i => i.res.isNone && !i.abort))

theorem does_activationDrainExpiry {s : State} (ha : alive s.dev = true) (hstep : s.dev.fw.step = 2) (h : unfinished s.dev ≠ []) :
    Does .activationDrainExpiry s
      (raise 0x7006 0xFFFF (unfinished s.dev).length 0 ((unfinished s.dev).foldl (fun d id => abortItem id d) s.dev)) := by
  rw [unfinished] at h
  rw [Does, exec_activationDrainExpiry, execActivationDrainExpiry, onDev, watch_const]
  simp [ha, hstep, h, unfinished]

theorem activationDrainExpiry_drained {s : State} (h : unfinished s.dev = []) : exec .activationDrainExpiry s = .next s := by
  have hd : Does .activationDrainExpiry s s.dev := by
    rw [unfinished] at h
    rw [Does, exec_activationDrainExpiry, execActivationDrainExpiry, onDev, watch_const]
    simp [h]
  exact hd.next rfl

theorem activationBankCommit_waits {s : State} (h : dispatched s.dev ≠ []) : exec .activationBankCommit s = .next s := by
  have hd : Does .activationBankCommit s s.dev := by
    rw [Does, exec_activationBankCommit, execActivationBankCommit, onDev, watch_const]
    simp [h]
  exact hd.next rfl

theorem activationBankCommit_swaps {s : State} (ha : alive s.dev = true) (hstep : s.dev.fw.step = 2) (hdone : dispatched s.dev = [])
    (hfault : devFault s.dev = false) (hksk : s.dev.sys.ksk = true) : exec .activationBankCommit s =
      .next { s with dev := { s.dev with fw := { s.dev.fw with active := some (inactiveBank s.dev.fw), step := 4 } } } := by
  have hd : Does .activationBankCommit s { s.dev with fw := { s.dev.fw with active := some (inactiveBank s.dev.fw), step := 4 } } := by
    rw [Does, exec_activationBankCommit, execActivationBankCommit, onDev, watch_const]
    simp [ha, hstep, hdone, hfault, hksk]
  exact hd.next rfl

/-! ## The load of the cores and the restart of the CP (R264, R445, R447) -/

/-- The device as the CP goes down for its new image. -/
def restarting (d : Dev) : Dev :=
  loseCp { d with fw := { d.fw with step := 8 }, sys := { d.sys with cpUp := false, cpRestart := true, cpActivation := true } }

theorem doesAll_activationLoadComplete {s : State} {b : Bank} (ha : alive s.dev = true) (hfault : devFault s.dev = false)
    (hstep : s.dev.fw.step = 4) (hbank : activeBank s.dev.fw = some b) :
    DoesAll (.activationLoadComplete []) s
      { d := restarting s.dev, f := { s.fuse with secVersion := stepFuse b.sec s.fuse.secVersion } } := by
  rw [DoesAll, exec_activationLoadComplete, execActivationLoadComplete]
  simp [ha, hfault, hstep, hbank, withCx, restarting]

/-- The device as the CP is up again and has answered every request it had left. -/
def cpAnswered (s : State) : Dev :=
  let c := s.cx.mod (fun d => { d with sys := { d.sys with cpUp := true, cpRestart := false, watchdogKick := d.sys.uptime } })
  (c.d.mg.boxes.map (·.1)).foldl (fun d m => answerAbandoned c m d) c.d

theorem cpAnswered_sys (s : State) : (cpAnswered s).sys =
    { s.dev.sys with cpUp := true, cpRestart := false, watchdogKick := s.dev.sys.uptime } :=
  (Replies.foldl (fun e m => replies_answerAbandoned _ m e) _ _).sys

theorem cpAnswered_fw (s : State) : (cpAnswered s).fw = s.dev.fw := (Replies.foldl (fun e m => replies_answerAbandoned _ m e) _ _).fw

/-- The firmware with nothing staged and no activation under way. -/
def unstaged (w : Firmware) : Firmware :=
  { w with staging := .none, package := [], total := 0, staged := none, stagedKind := 0, step := 0, mailbox := none }

/-- The device with its activation ended, before the `ACTIVATE` frame is answered. -/
def activationEnded (s : State) : Dev := { cpAnswered s with fw := unstaged (cpAnswered s).fw }

/-- The answer of the `ACTIVATE` frame changes the port's response alone. -/
theorem answerActivate_only (status : Nat) (payload : List Byte) (d : Dev) :
    ∃ r u, answerActivate status payload d = { d with fw := { d.fw with response := r, unanswered := u } } := by
  unfold answerActivate
  split <;> exact ⟨_, _, rfl⟩

/-- The restart that ends an activation: the requests left are answered, nothing is staged or under way, and the `ACTIVATE` frame that
waits, if there is one, is answered at the port. -/
theorem cpRestartComplete_activates {s : State} (ha : alive s.dev = true) (hr : s.dev.sys.cpRestart = true)
    (hact : s.dev.sys.cpActivation = true) : ∃ r u, DoesAll .cpRestartComplete s (s.cx.mod fun _ =>
      { cpAnswered s with
        sys := { (cpAnswered s).sys with cpActivation := false }
        fw := { unstaged (cpAnswered s).fw with response := r, unanswered := u } }) := by
  have hexec : ∃ payload, DoesAll .cpRestartComplete s (s.cx.mod fun _ =>
      { answerActivate 0 payload (activationEnded s) with
        sys := { (answerActivate 0 payload (activationEnded s)).sys with cpActivation := false } }) := by
    refine ⟨leBytes 4 (fwVersions (cpAnswered s)), ?_⟩
    rw [DoesAll, exec_cpRestartComplete, execCpRestartComplete, if_neg (by simp [ha, hr])]
    simp only [hact, if_true]
    rfl
  obtain ⟨payload, hexec⟩ := hexec
  obtain ⟨r, u, hanswer⟩ := answerActivate_only 0 payload (activationEnded s)
  rw [hanswer] at hexec
  exact ⟨r, u, hexec⟩

/-! ## The obligation -/

/-- Settles O41: what the CP loses as it goes down lies outside the status, the fences and the firmware; what it answers as it comes up
lies outside the status and the firmware; and the fuse is blown bit by bit up to the image's version. -/
theorem activationsSwapBanks : Obligations.ActivationsSwapBanks := by
  unfold Obligations.ActivationsSwapBanks
  intro s ha
  refine ⟨fun hstep => ?_, fun hstep hfault b hbank hlow hhigh => ?_, fun hr hact => ?_⟩
  · exact ⟨does_activationDrainExpiry ha hstep, activationDrainExpiry_drained, activationBankCommit_swaps ha hstep,
      activationBankCommit_waits⟩
  · obtain ⟨hsys, hfen, hfw, hmigration⟩ := loseCp_spec { s.dev with
      fw := { s.dev.fw with step := 8 }, sys := { s.dev.sys with cpUp := false, cpRestart := true, cpActivation := true } }
    refine ⟨_, doesAll_activationLoadComplete ha hfault hstep hbank, ?_, ?_, ?_, ?_, fuseCount_stepFuse hlow hhigh, ?_, ?_⟩ <;>
      simp [restarting, hsys, hfen, hfw, hmigration]
  · obtain ⟨r, u, hd⟩ := cpRestartComplete_activates ha hr hact
    refine ⟨_, hd, ?_, ?_, ?_, ?_, ?_, ?_⟩ <;> simp [cpAnswered_sys, cpAnswered_fw, unstaged]

end Sys2Proof.Machine
end

section
/-! PROOF. How a detected error stays where it happens (O21): a slice in ERROR stays in ERROR while its items are aborted, the device
fault stop ends READY, and Mule's tests, the scrubs and the damaged records each have the one effect of their table. -/

namespace Sys2Proof.Machine

/-! ## A slice in ERROR (R310) -/

/-- Slice `y` is `x` still in ERROR: the intake and the persistent record are as they were. -/
structure StillErred (x y : Slice) : Prop where
  state : y.state = .error
  intake : y.intake = x.intake
  per : y.per = x.per

/-- From `d` to `e` slice `n` does not leave ERROR. -/
structure KeepsError (n : Nat) (d e : Dev) : Prop where
  still : (sliceOf d n).state = .error → StillErred (sliceOf d n) (sliceOf e n)

variable {n : Nat}

namespace KeepsError

variable {d e f : Dev}

theorem of_slices (h : e.slices = d.slices) : KeepsError n d e := ⟨fun herr => by
  rw [show sliceOf e n = sliceOf d n by rw [sliceOf, h]; rfl]
  exact ⟨herr, rfl, rfl⟩⟩

theorem refl (d : Dev) : KeepsError n d d := of_slices rfl

theorem trans (h1 : KeepsError n d e) (h2 : KeepsError n e f) : KeepsError n d f := ⟨fun herr => by
  have first := h1.still herr
  have second := h2.still first.state
  exact ⟨second.state, second.intake.trans first.intake, second.per.trans first.per⟩⟩

/-- A change of no slice before an operation. -/
theorem after_same (h : KeepsError n e f) (hs : e.slices = d.slices) : KeepsError n d f := (of_slices hs).trans h

/-- A change of no slice after an operation. -/
theorem then_same (h : KeepsError n d e) (hs : f.slices = e.slices) : KeepsError n d f := h.trans (of_slices hs)

theorem foldl {α : Type} {f : Dev → α → Dev} (hf : ∀ d x, KeepsError n d (f d x)) (l : List α) : ∀ d, KeepsError n d (l.foldl f d) := by
  induction l with
  | nil => exact refl
  | cons x l ih => exact fun d => (hf d x).trans (ih _)

end KeepsError

/-- A change of one slice keeps the error of every slice if it keeps the error of that one. -/
theorem keepsError_modSlice {m : Nat} {f : Slice → Slice} {d : Dev}
    (hf : (sliceOf d m).state = .error → StillErred (sliceOf d m) (f (sliceOf d m))) : KeepsError n d (modSlice m f d) := ⟨by
  intro herr
  by_cases hm : n = m
  · subst hm
    rw [sliceOf_modSlice]
    exact hf herr
  · rw [sliceOf_modSlice_ne f d hm]
    exact ⟨herr, rfl, rfl⟩⟩

theorem keepsError_modRing (m ring : Nat) (f : RingDyn → RingDyn) (d : Dev) : KeepsError n d (modRing m ring f d) :=
  keepsError_modSlice fun herr => ⟨herr, rfl, rfl⟩

theorem keepsError_raise (code source p1 p2 : Nat) (d : Dev) : KeepsError n d (raise code source p1 p2 d) := .of_slices (raise_slices ..)

theorem keepsError_modItem (id : Nat) (f : Item → Item) (d : Dev) : KeepsError n d (modItem id f d) := .of_slices (modItem_slices ..)

theorem keepsError_freeThread (p : Place) (d : Dev) : KeepsError n d (freeThread p d) := .of_slices (freeThread_slices ..)

/-! ### Completion (R50, R57, R63) -/

theorem keepsError_sendMessage (m : Nat) (d : Dev) : KeepsError n d (sendMessage m d) := by
  have irqOnly : ∀ f : Slice → IrqEntry, KeepsError n d (modSlice m (fun x => { x with irq := f x }) d) :=
    fun _ => keepsError_modSlice fun herr => ⟨herr, rfl, rfl⟩
  unfold sendMessage
  dsimp only
  split
  · exact irqOnly _
  · split
    · exact (irqOnly _).then_same (signal_slices ..)
    · exact (irqOnly _).then_same (emit_slices ..)

theorem keepsError_putRecord (m ring tag status opcode seq outLen flags : Nat) (inl : List Byte) (d : Dev) :
    KeepsError n d (putRecord m ring tag status opcode seq outLen flags inl d) :=
  (keepsError_modRing ..).after_same rfl

theorem keepsError_haltRecord (m ring : Nat) (d : Dev) : KeepsError n d (haltRecord m ring d) := by
  unfold haltRecord
  dsimp only
  split
  · exact ((keepsError_modRing ..).trans (keepsError_putRecord ..)).trans (keepsError_sendMessage ..)
  · exact .refl d

theorem countItem_slices (m opcode : Nat) (status : Status) (fenced : Bool) (d : Dev) :
    (countItem m opcode status fenced d).slices = d.slices := by
  unfold countItem
  dsimp only
  split_ifs <;> rfl

theorem keepsError_complete (m ring tag : Nat) (status : Status) (opcode seq outLen flags : Nat) (inl : List Byte) (irq : Bool) (d : Dev) :
    KeepsError n d (complete m ring tag status opcode seq outLen flags inl irq d) := by
  unfold complete
  dsimp only
  refine .trans ?_ (keepsError_haltRecord ..)
  have recorded := (keepsError_putRecord m ring tag status.code opcode seq outLen flags inl d).trans
    (keepsError_modRing (n := n) m ring (fun r => { r with inflight := r.inflight - 1 }) _)
  have counted := recorded.then_same (countItem_slices m opcode status (bitAt flags 1) _)
  split
  · exact counted.trans (keepsError_sendMessage ..)
  · exact counted

/-! ### Release (R75, R77, R92) -/

theorem Replies.slices {d e : Dev} (h : Replies d e) : e.slices = d.slices := by
  obtain ⟨_, _, _, _, rfl⟩ := h; rfl

/-- Mailboxes answered one after the other, each from the recorder's number before it. -/
theorem foldl_answers_slices {f : Dev → Nat → Nat → Dev} (hf : ∀ d k m, Replies d (f d k m)) (ms : List Nat) :
    ∀ x : Dev × Nat, (ms.foldl (fun x m => (f x.1 x.2 m, nextSeq (f x.1 x.2 m))) x).1.slices = x.1.slices := by
  induction ms with
  | nil => exact fun _ => rfl
  | cons m ms ih => exact fun x => (ih _).trans (hf x.1 x.2 m).slices

/-- A drained slice in ERROR ends its drain and stays in ERROR (R299). -/
theorem keepsError_checkDrained (m : Nat) (d : Dev) : KeepsError n d (checkDrained m d) := by
  unfold checkDrained
  dsimp only
  split
  · exact .refl d
  · next dr _ =>
    split
    · exact .refl d
    · generalize leBytes 4 dr.drained ++ leBytes 4 dr.aborted ++ leBytes 4 ((dr.last - dr.start) / 1000) ++ leBytes 4 0 = body
      by_cases hm : (sliceOf d m).state = .error
      · simp only [hm, beq_self_eq_true, if_true]
        have ended : KeepsError n d (modSlice m (fun x => { x with drain := none }) d) :=
          keepsError_modSlice fun herr => ⟨herr, rfl, rfl⟩
        exact ended.then_same (foldl_answers_slices (f := fun e k m => answer m .sliceState [] [] false k e)
          (fun _ _ _ => replies_answer ..) dr.mailboxes (_, _))
      · simp only [beq_eq_false_iff_ne.mpr hm, Bool.false_eq_true, if_false]
        have quiesced : KeepsError n d (modSlice m (fun x => { x with drain := none, state := .quiesced }) d) :=
          keepsError_modSlice fun herr => absurd herr hm
        exact (quiesced.trans (keepsError_raise ..)).then_same (foldl_answers_slices (f := fun e k m => answer m .ok body [] false k e)
          (fun _ _ _ => replies_answer ..) dr.mailboxes (_, _))

/-- What leaves of an item before its completion changes no slice. -/
theorem freedItem_slices (p : Place) (id : Nat) (d : Dev) :
    (freeThread p (modSched (fun s => { s with items := Tab.del s.items id }) d)).slices = d.slices := freeThread_slices ..

theorem keepsError_release (id : Nat) (d : Dev) : KeepsError n d (release id d) := by
  unfold release
  dsimp only
  split
  · exact .refl d
  · refine .trans (.trans (.after_same (keepsError_modSlice fun herr => ⟨herr, rfl, rfl⟩) ?_) (keepsError_complete ..))
      (keepsError_checkDrained ..)
    rw [freedItem_slices]
    split_ifs <;> rfl

theorem keepsError_releaseFollowing (fuel : Nat) : ∀ (k : Nat) (d : Dev), KeepsError n d (releaseFollowing fuel k d) := by
  induction fuel with
  | zero => exact fun _ => .refl
  | succ fuel ih =>
    intro k d
    unfold releaseFollowing
    split
    · exact .refl d
    · split
      · exact .refl d
      · exact (keepsError_release ..).trans ((ih ..).after_same rfl)

theorem keepsError_fillReorder (fuel : Nat) : ∀ d : Dev, KeepsError n d (fillReorder fuel d) := by
  induction fuel with
  | zero => exact .refl
  | succ fuel ih =>
    intro d
    unfold fillReorder
    split
    · exact .refl d
    · split
      · exact .refl d
      · exact ((keepsError_freeThread ..).trans (keepsError_modItem ..)).trans (ih _)

theorem keepsError_finishItem (id : Nat) (d : Dev) : KeepsError n d (finishItem id d) := by
  unfold finishItem
  dsimp only
  split
  · exact .refl d
  · next i _ =>
    generalize ({ i with copies := [], run := none, queued := none } : Item) = i1
    refine (keepsError_modItem id (fun _ => i1) d).trans ?_
    generalize modItem id (fun _ => i1) d = d1
    split
    · split
      · exact (keepsError_freeThread ..).trans (keepsError_modItem ..)
      · exact (keepsError_modItem ..).then_same rfl
    · refine .trans ?_ (keepsError_fillReorder ..)
      split
      · split
        · exact (keepsError_release ..).trans ((keepsError_releaseFollowing ..).after_same rfl)
        · exact keepsError_release ..
      · exact keepsError_release ..

/-! ### Aborts (R93) -/

theorem keepsError_abortNow (id : Nat) (d : Dev) : KeepsError n d (abortNow id d) := by
  have cancelled : KeepsError n d (cancelSteps id (cancelRequests id d)) := .of_slices rfl
  exact (cancelled.trans (keepsError_modItem ..)).trans (keepsError_finishItem ..)

theorem keepsError_abortItem (id : Nat) (d : Dev) : KeepsError n d (abortItem id d) := by
  have ended := keepsError_abortNow (n := n) id d
  have ordered := keepsError_modItem (n := n) id (fun i => { i with abort := true }) d
  unfold abortItem
  split
  · exact .refl d
  · split
    · exact ended
    · exact ended
    · split
      · exact ended
      · exact ended
      · exact ended
      · exact ordered.then_same rfl
      · split
        · exact .refl d
        · exact ordered
    · exact .refl d

theorem keepsError_abortSlice (m : Nat) (d : Dev) : KeepsError n d (abortSlice m d) :=
  .foldl (fun d id => keepsError_abortItem id d) _ d

/-! ### The entry (R310, R383) -/

theorem sequence_slices (origin : Nat) (p : Pend) (d : Dev) : (sequence origin p d).slices = d.slices := by
  simp [sequence, strait, countEntry, writeEntry]

theorem submit_slices (st : Step) (origin : Origin) (draft : Res) (d : Dev) : (submit st origin draft d).slices = d.slices := by
  unfold submit
  dsimp only
  split
  · rfl
  · split
    · exact sequence_slices ..
    · exact emit_slices ..
    · split <;> rfl

theorem enterError_skipped {cause : Nat} {d : Dev} (h : (sliceOf d n).state = .free ∨ (sliceOf d n).state = .error) :
    enterError n cause d = d := if_pos h

/-- The device as slice `n` has entered ERROR, before its items are aborted. -/
def erred (n : Nat) (d : Dev) : Dev := modSlice n (fun x => { x with state := .error, intake := false }) d

/-- What follows the entry, the record, the step and the aborts, does not take it back. -/
theorem keepsError_enterError (cause : Nat) {d : Dev} (hfree : (sliceOf d n).state ≠ .free) (herr : (sliceOf d n).state ≠ .error) :
    KeepsError n (erred n d) (enterError n cause d) := by
  have recorded : KeepsError n (erred n d) (raise 0x4010 n cause 0 (erred n d)) := keepsError_raise ..
  unfold enterError
  dsimp only
  rw [if_neg (by simp [hfree, herr])]
  split <;> split
  · exact recorded.then_same (submit_slices ..)
  · exact recorded
  · exact (recorded.then_same (submit_slices ..)).trans (keepsError_abortSlice ..)
  · exact recorded.trans (keepsError_abortSlice ..)

/-- A slice in use that enters ERROR: its intake is closed, and its record is left alone. -/
theorem enterError_enters (cause : Nat) {d : Dev} (hfree : (sliceOf d n).state ≠ .free) (herr : (sliceOf d n).state ≠ .error) :
    (sliceOf (enterError n cause d) n).state = .error ∧ (sliceOf (enterError n cause d) n).intake = false ∧
      (sliceOf (enterError n cause d) n).per = (sliceOf d n).per := by
  have entered : sliceOf (erred n d) n = { sliceOf d n with state := .error, intake := false } := sliceOf_modSlice ..
  have still := (keepsError_enterError cause hfree herr).still (congrArg Slice.state entered)
  rw [entered] at still
  exact ⟨still.state, still.intake, still.per⟩

theorem does_sliceError {s : State} {cause : Nat} (hn : n < 4096) (hc : cause = 1 ∨ cause = 2) :
    Does (.sliceError n cause) s (enterError n cause s.dev) := by
  rw [Does, exec_sliceError, execSliceError, onUnit, if_pos (by simpa [hn] using hc), watch_const]

theorem sliceOf_watch (f : Dev → Dev) (d : Dev) (m : Nat) : sliceOf (watch f d) m = sliceOf (f d) m := by simp [sliceOf]

/-! ## The device fault stop (R40, R329) -/

theorem bitOf_eq_mul (b : Bool) (i : Nat) : bitOf b i = 2 ^ i * b.toNat := by cases b <;> simp [bitOf]

/-- Bit 0 of the status word is READY (R40). -/
theorem devStatus_ready (d : Dev) : (devStatus d).getLsbD 0 = (d.sys.ready && !devFault d) := by
  simp only [devStatus, bitOf_eq_mul, BitVec.getLsbD_ofNat, Nat.testBit_zero]
  cases d.sys.ready && !devFault d <;> simp <;> omega

theorem devFault_setFault (d : Dev) : devFault (setFault 5 d) = true := by simp [devFault, setFault]

/-- The stop of a device not yet stopped: `DEV_FAULT`, and a record unless the recorder itself failed. -/
theorem faultStop_first {d : Dev} (block : Nat) (h : devFault d = false) :
    faultStop block d = setFault 5 (if block = 0x303 then d else raise 0x5009 0xFFFF block 0 d) := by
  simp [faultStop, h]

theorem does_deviceFaultStop {s : State} (block : Nat) (ha : alive s.dev = true) (hf : devFault s.dev = false) :
    Does (.deviceFaultStop block) s (setFault 5 (if block = 0x303 then s.dev else raise 0x5009 0xFFFF block 0 s.dev)) := by
  rw [Does, exec_deviceFaultStop, execDeviceFaultStop, onDev, watch_const, if_pos ha, faultStop_first block hf]

/-- A device with `DEV_FAULT` is not READY and serves nothing. -/
theorem not_ready_of_devFault {d : Dev} (h : devFault d = true) : (devStatus d).getLsbD 0 = false ∧ serving d = false := by
  rw [devStatus_ready, serving, h]
  simp

theorem devFault_watch (f : Dev → Dev) (d : Dev) : devFault (watch f d) = devFault (f d) := by simp [devFault]

/-! ## Mule (R331, R333) -/

/-- The device with the time of a checker's test noted. -/
def testNoted (k : Checker) (d : Dev) : Dev :=
  { d with fen := { d.fen with tested := (k, d.sys.uptime) :: d.fen.tested.filter (fun e => e.1 != k) } }

/-- A test passed, in the model's own steps. -/
def testPassed (k : Checker) (d : Dev) : Dev :=
  let d1 := count 0x5002 1 none none false none (testNoted k d)
  if k = .goose then modGoose (fun g => { g with
    asserted := g.asserted &&& ~~~(0x800#12), uncleared := g.uncleared &&& ~~~(0x800#12) }) d1 else d1

section
variable {s : State} (ha : alive s.dev = true)
include ha

theorem does_muleCheckerTest_pass {k : Checker} (hk : checkerExists s.dev k = true) :
    Does (.muleCheckerTest k true) s (testPassed k s.dev) := by
  rw [Does, exec_muleCheckerTest, execMuleCheckerTest]
  simp only [hk, ha, Bool.not_true, Bool.false_eq_true, if_false]
  rfl

theorem doesAll_muleCheckerTest_fail {k : Checker} (hk : checkerExists s.dev k = true) :
    DoesAll (.muleCheckerTest k false) s
      (checkerFails k ⟨setFault 4 (raise 0x5030 (checkerId k).2 (checkerId k).1 (checkerId k).2 (testNoted k s.dev)), s.fuse⟩) := by
  rw [DoesAll, exec_muleCheckerTest, execMuleCheckerTest]
  simp only [hk, ha, Bool.not_true, Bool.false_eq_true, if_false]
  rfl

theorem does_muleProgress : Does .muleProgress s { s.dev with fen := { s.dev.fen with muleProgress := s.dev.sys.uptime } } := by
  rw [Does, exec_muleProgress, execMuleProgress, onDev, watch_const, if_pos ha]

/-! ## Scrubs (R324, R326) -/

/-- The device after a pass over an array, by what the pass found. -/
def scrubbed (a : Arr) (found : ScrubFound) (word : Nat) (d : Dev) : Dev :=
  match found with
  | .clean => d
  | .corrected => count 0x5000 1 none none false none (raise 0x5010 0xFFFF (arrId a) word
      (setFault 3 { d with sys := { d.sys with corrCount := sat 0xFFFFFFFF (d.sys.corrCount + 1) } }))
  | .uncorrectable => arrayFault a 3 d

theorem does_scrubPass {a : Arr} (word : Nat) (hx : arrExists s.dev a = true) (found : ScrubFound) :
    Does (.scrubPass a found word) s (scrubbed a found word s.dev) := by
  rw [Does, exec_scrubPass, execScrubPass, onUnit, if_pos hx, watch_const, if_neg (by simp [ha])]
  rfl

/-- A record that fails its authentication under an existing KSK is damaged. -/
theorem does_skerryScrub_fails {g : Nat} (k : Nat) (hksk : s.dev.sys.ksk = true) (h1 : 1 ≤ g) (h9 : g ≤ 9) :
    Does (.skerryScrub ⟨g, k⟩ false) s (damageRecord ⟨g, k⟩ s.dev) := by
  rw [Does, exec_skerryScrub, execSkerryScrub, onUnit, if_pos (by simp [h1, h9]), watch_const, if_neg (by simp [ha, hksk])]

end

theorem does_muleProgressTimeout {s : State} (hup : s.dev.sys.cpUp = true) (hf : devFault s.dev = false) :
    Does .muleProgressTimeout s (setFault 5 (raise 0x5009 0xFFFF 0x302 0 s.dev)) := by
  rw [Does, exec_muleProgressTimeout, execMuleProgressTimeout, onDev, watch_const, if_pos hup, faultStop_first _ hf]
  rfl

theorem skerryScrub_sound {s : State} {g k : Nat} (h1 : 1 ≤ g) (h9 : g ≤ 9) : exec (.skerryScrub ⟨g, k⟩ true) s = .next s := by
  have hd : Does (.skerryScrub ⟨g, k⟩ true) s s.dev := by
    rw [Does, exec_skerryScrub, execSkerryScrub, onUnit, if_pos (by simp [h1, h9]), watch_const]
    simp
  exact hd.next rfl

/-! ## The obligation -/

/-- Settles O21: nothing that follows the entry into ERROR takes a slice out of it again; the other errors do what their rows say. -/
theorem errorsAreContained : Obligations.ErrorsAreContained := by
  unfold Obligations.ErrorsAreContained
  intro s
  refine ⟨fun n cause hn hc => ⟨fun hskip => ?_, fun hfree herr => ?_⟩, fun block ha hf => ⟨does_deviceFaultStop block ha hf, ?_⟩,
    fun k ha hk => ⟨fun hgoose => ?_, fun hgoose => ?_, doesAll_muleCheckerTest_fail ha hk⟩, does_muleProgress, does_muleProgressTimeout,
    fun a word ha hx => ⟨?_, does_scrubPass ha word hx .corrected, does_scrubPass ha word hx .uncorrectable⟩,
    fun g k h1 h9 => skerryScrub_sound h1 h9, fun ha hksk k => ?_⟩
  · have hd := does_sliceError (s := s) hn hc
    rw [enterError_skipped hskip] at hd
    exact hd.next rfl
  · refine ⟨_, does_sliceError hn hc, ?_⟩
    simp only [sliceOf_watch]
    exact enterError_enters cause hfree herr
  · have hfault : devFault (watch (fun _ => setFault 5 (if block = 0x303 then s.dev else raise 0x5009 0xFFFF block 0 s.dev)) s.dev) = true :=
      (devFault_watch ..).trans (devFault_setFault _)
    exact ⟨_, does_deviceFaultStop block ha hf, hfault, not_ready_of_devFault hfault⟩
  · have hd := does_muleCheckerTest_pass ha hk
    rwa [testPassed, if_neg hgoose] at hd
  · have hd := does_muleCheckerTest_pass ha hk
    rwa [testPassed, if_pos hgoose] at hd
  · exact (does_scrubPass ha word hx .clean).next rfl
  · have damaged := fun (g : Nat) (h1 : 1 ≤ g) (h9 : g ≤ 9) => does_skerryScrub_fails ha k hksk h1 h9
    refine ⟨fun g hg => ?_, fun hslot => ?_, fun hslot => ?_, damaged 5 (by decide) (by decide), damaged 6 (by decide) (by decide),
      (damaged 7 (by decide) (by decide)).next rfl, fun hk => ?_, fun hk => ?_⟩
    · obtain rfl | rfl | rfl | rfl := hg <;> exact damaged _ (by decide) (by decide)
    · have hd := damaged 4 (by decide) (by decide)
      rwa [damageRecord, if_neg hslot] at hd
    · have hd := damaged 4 (by decide) (by decide)
      rw [damageRecord, if_pos hslot] at hd
      exact hd.next rfl
    · have hd := damaged 9 (by decide) (by decide)
      rwa [damageRecord, if_neg (Nat.not_lt.mpr hk)] at hd
    · have hd := damaged 9 (by decide) (by decide)
      rwa [damageRecord, if_pos hk] at hd

end Sys2Proof.Machine
end

section
/-! PROOF. How keys are made and kept (O26): the commands of key management read their operands check by check, and end in the delivery
of a new key to its destination, in a step of a slot, in a handle, or in a result alone. -/

namespace Sys2Proof.Machine

/-! ## Reading on -/

/-- A row whose body reads its operands and comes to a result completes with that result. -/
theorem txDoes_of_reads {s : State} {r : Run} {op : Nat} {c : Ctx} {body : Ctx → M Act} {x : Res} {a : After} {d : Dev} {i : Instr}
    (hrow : exec i s = runTx op r body s) (hwork : AtWork s r op c) (hbody : Reads (body c) (begun s c) (.done x a) d) :
    TxDoes i s c (gives x a) d := txDoes_of i hrow hwork hbody

/-- A check made only in one case. -/
theorem Reads.whenThen {α β : Type} {p : Prop} [Decidable p] {m : M α} {k : M β} {d d1 : Dev} {b : β}
    (hm : p → ∃ a, Reads m d a d) (hk : Reads k d b d1) : Reads (if p then m >>= fun _ => k else k) d b d1 := by
  split
  · next hp =>
    obtain ⟨a, ha⟩ := hm hp
    exact ha.bind hk
  · exact hk

theorem reads_getActiveLmk {c : Ctx} {d : Dev} {l : Nat × List Byte} (h : activeLmk (sliceOf d c.i.slice).per = some l) :
    Reads (getActiveLmk c) d l d := (Reads.get d).bind (Reads.orFail h)

theorem reads_getActiveLmk_isSome {c : Ctx} {d : Dev} (h : (activeLmk (sliceOf d c.i.slice).per).isSome = true) :
    ∃ l, Reads (getActiveLmk c) d l d := by
  obtain ⟨l, hl⟩ := Option.isSome_iff_exists.mp h
  exact ⟨l, reads_getActiveLmk hl⟩

theorem reads_slotWritePolicy_begun {s : State} {c : Ctx} {dest : Nat} (h : dest = 1 → policyBit s c 0 = true) :
    Reads (slotWritePolicy c dest) (begun s c) () (begun s c) :=
  Reads.slotWritePolicy fun hdest => by rw [begun_slice]; exact h hdest

/-- A check that holds in one case alone. -/
theorem ne_or_of_imp {x y : Nat} {b : Bool} (h : x = y → b = true) : (decide (x ≠ y) || b) = true := by
  by_cases hxy : x = y <;> simp [hxy, h]

/-- A key of a template's attributes and a length in bits, before its bytes are known (R132). -/
def protoKey (h : Header) (n : Nat) : Key := { attr := h.attr, bytes := List.replicate (n / 8) 0 }

/-! ## Delivery of a new key (R133, R134) -/

section
variable {c : Ctx} {slot meth : Nat} {ow : Bool} {k : Key} {before after : List Byte} {d d1 : Dev}
  (hweak : weakTdes k.attr.alg k.bytes = false)
include hweak

theorem reads_deliverKey_block {g : Nat} {lmk pad : List Byte} (hlmk : activeLmk (sliceOf d c.i.slice).per = some (g, lmk))
    (hpad : Reads (random (padLen false k.bytes.length)) d pad d1)
    (hlen : outLenOk c (before ++ writeBlock false lmk (some g) k pad ++ after).length = true) :
    Reads (deliverKey c 0 slot ow meth k before after) d
      ({ status := .ok, out := before ++ writeBlock false lmk (some g) k pad ++ after, fixed := keyResult 0 0 (kcv meth k) }, .nothing) d1 :=
  .bind (.chk (by simp [hweak])) <| .bind (reads_getActiveLmk hlmk) <| .bind hpad <| .bind (.chk hlen) <| .pure _ _

theorem reads_deliverKey_slot (hlen : outLenOk c (before ++ after).length = true) :
    Reads (deliverKey c 1 slot ow meth k before after) d
      ({ status := .ok, out := before ++ after, fixed := keyResult (c.i.slice * 2 ^ 48 + slot) 0 (kcv meth k) },
        .step (.slotWrite slot k (ceilingOf k.attr) ow)) d :=
  .bind (.chk (by simp [hweak])) <| .bind (.chk hlen) <| .pure _ _

theorem reads_deliverKey_handle {dest : Nat} (hdest : 2 ≤ dest) (hlen : outLenOk c (before ++ after).length = true) :
    Reads (deliverKey c dest slot ow meth k before after) d
      ({ status := .ok, out := before ++ after, fixed := keyResult 0 0 (kcv meth k) }, .handle k) d := by
  unfold deliverKey
  simp only [show ¬ dest = 0 by omega, show ¬ dest = 1 by omega, if_false]
  exact .bind (.chk (by simp [hweak])) <| .bind (.chk hlen) <| .pure _ _

end

/-- A command that goes on to deliver a key, and completes with what the delivery answers, delivers it. -/
theorem delivers_of_reads {s : State} {r : Run} {op : Nat} {c : Ctx} {body : Ctx → M Act} {i : Instr} {dest slot meth : Nat} {ow : Bool}
    {k : Key} {before after : List Byte} {d : Dev} (hrow : exec i s = runTx op r body s) (hwork : AtWork s r op c)
    (hbody : ∀ x a d1, Reads (deliverKey c dest slot ow meth k before after) d (x, a) d1 → Reads (body c) (begun s c) (.done x a) d1) :
    Delivers i s c (fun x a => gives x a) dest slot ow meth k before after d := by
  intro hweak
  have completes := fun {x a d1} h => txDoes_of_reads hrow hwork (hbody x a d1 h)
  refine ⟨?_, ?_, fun hdest hlen => completes (reads_deliverKey_handle hweak hdest hlen)⟩
  · rintro rfl g lmk pad d1 hlmk hpad hlen
    exact completes (reads_deliverKey_block hweak hlmk hpad hlen)
  · rintro rfl hlen
    exact completes (reads_deliverKey_slot hweak hlen)

/-! ## `KEY_GENERATE` (R133) -/

/-- `KFLAGS` with bit 0 alone admitted asks for no second block. -/
theorem destOk_two {c : Ctx} (h : destOk c 2 = true) : bitAt (c.p 0x3A 1) 1 = false ∧ destOk c 4 = true := by
  simp only [destOk, Bool.and_eq_true, decide_eq_true_eq] at h ⊢
  obtain ⟨⟨⟨hdest, hslot⟩, hflags⟩, hmeth⟩ := h
  refine ⟨?_, ⟨⟨hdest, hslot⟩, by omega⟩, hmeth⟩
  simp only [bitAt, beq_eq_false_iff_ne]
  omega

section
variable {s : State} {c : Ctx} {h : Header} {bytes : List Byte} {x : Res} {a : After} {d1 d2 d3 : Dev}
  (hslot : c.p 0x39 1 < 64) (hlen : (inLenOk c 6 20480 && (c.p 0x38 1 == 0 || outLenOk c 0)) = true)
  (hpolicy : c.p 0x38 1 = 1 → policyBit s c 0 = true)
include hslot hlen hpolicy

theorem reads_keyGenerate
    (hfmt : (fmtOk c 6 2 true && dKeyA c.i.desc == 0 && dKeyB c.i.desc == 0 && destOk c 2) = true)
    (htemplate : Reads (template true (c.input 6) (c.input 6).length) (begun s c) h d1) (hsym : asymmetric h.attr.alg = false)
    (hbits : bitsOk h.attr.alg (c.p 0x3C 2) = true)
    (hfits : c.p 0x38 1 = 1 → slotFits (protoKey h (c.p 0x3C 2)) = true)
    (hlmk : c.p 0x38 1 = 0 → (activeLmk (sliceOf d1 c.i.slice).per).isSome = true)
    (hrandom : Reads (random (c.p 0x3C 2 / 8)) d1 bytes d2)
    (hdeliver : Reads (deliverKey c (c.p 0x38 1) (c.p 0x39 1) (bitAt (c.p 0x3A 1) 0) (c.p 0x3B 1) { attr := h.attr, bytes } [] [])
      d2 (x, a) d3) :
    Reads (keyGenerate c) (begun s c) (.done x a) d3 := by
  simp only [Bool.and_eq_true] at hfmt
  obtain ⟨⟨⟨hparams, hA⟩, hB⟩, hdest⟩ := hfmt
  obtain ⟨hwrapped, hdest⟩ := destOk_two hdest
  unfold keyGenerate
  simp only [hwrapped, Bool.false_eq_true, if_false]
  exact .bind (.chk (by simp [hparams, hA, hB, hdest])) <| .bind (.slotOk hslot) <| .bind (.chk hlen) <|
    .bind (reads_slotWritePolicy_begun hpolicy) <| .bind (.pure _ _) <| .bind htemplate <| .bind (.chk (by simp [hsym])) <|
    .bind (.chk hbits) <| .bind (.chk rfl) <| .bind (.chk (ne_or_of_imp hfits)) <| .bind (.get _) <| .bind (.chk rfl) <|
    .whenThen (fun h0 => reads_getActiveLmk_isSome (hlmk h0)) <| .bind hrandom <| .bind (.pure _ _) <| .bind hdeliver <| .pure _ _

/-- With bit 1 of `KFLAGS`, the key wrapped under a KEK follows the LMK block (R133). -/
theorem reads_keyGenerate_wrapped {kek : Copy} {cs : List Copy} {pad : List Byte} {d4 d5 : Dev}
    (hfmt : (fmtOk c 6 2 true && dKeyA c.i.desc == 0 && destOk c 4) = true) (hdest : c.p 0x38 1 = 0)
    (hwrapped : bitAt (c.p 0x3A 1) 1 = true) (hkek : KeyB c 0 (dKeyB c.i.desc) 6 (kekDemand true) (begun s c) kek d1)
    (htemplate : Reads (template true (c.input 6) (c.input 6).length) d1 h d2) (hsym : asymmetric h.attr.alg = false)
    (hbits : bitsOk h.attr.alg (c.p 0x3C 2) = true) (hexpo : h.attr.expo = .E)
    (hwrap : wrapAllowed d2 c.i.slice (protoKey h (c.p 0x3C 2)) kek.key = true)
    (hlmk : (activeLmk (sliceOf d2 c.i.slice).per).isSome = true)
    (hcounts : Reads (drawCounts c [(kek, exchangeCounts kek.key (protoKey h (c.p 0x3C 2)))]) d2 cs d3)
    (hrandom : Reads (random (c.p 0x3C 2 / 8)) d3 bytes d4)
    (hpad : Reads (random (padLen (kek.key.attr.alg == .T) bytes.length)) d4 pad d5) {d6 : Dev}
    (hdeliver : Reads (deliverKey c 0 (c.p 0x39 1) (bitAt (c.p 0x3A 1) 0) (c.p 0x3B 1) { attr := h.attr, bytes } []
      (exchangeBlock kek.key { attr := h.attr, bytes } pad)) d5 (x, a) d6) :
    Reads (keyGenerate c) (begun s c) (.done x a) d6 := by
  simp only [Bool.and_eq_true] at hfmt
  obtain ⟨⟨hparams, hA⟩, hdestOk⟩ := hfmt
  obtain ⟨lmk, hactive⟩ := reads_getActiveLmk_isSome hlmk
  unfold keyGenerate
  simp only [hwrapped, if_true, hdest] at hlen hpolicy ⊢
  exact .bind (.chk (by simp [hparams, hA, hdestOk])) <| .bind (.slotOk hslot) <| .bind (.chk hlen) <|
    .bind (reads_slotWritePolicy_begun hpolicy) <| .bind hkek <| .bind htemplate <| .bind (.chk (by simp [hsym])) <|
    .bind (.chk hbits) <| .bind (.chk (by simp [hexpo])) <| .bind (.chk rfl) <| .bind (.get _) <| .bind (.chk hwrap) <|
    .bind hactive <| .bind hcounts <| .bind hrandom <| .bind hpad <| .bind (.pure _ _) <| .bind hdeliver <| .pure _ _

end

/-! ## `KEY_DERIVE` (R132) -/

theorem reads_keyDerive {s : State} {c : Ctx} {h : Header} {base : Copy} {cs : List Copy} {x : Res} {a : After} {d1 d2 d3 d4 : Dev}
    (hfmt : (fmtOk c 10 1 true && destOk c 2 && decide (c.p 0x3C 2 ≤ 64) && decide (c.p 0x3E 2 ≤ 256)) = true) (hslot : c.p 0x39 1 < 64)
    (hlen : (inLenOk c 10 20480 && (c.p 0x38 1 == 0 || outLenOk c 0)) = true) (hpolicy : c.p 0x38 1 = 1 → policyBit s c 0 = true)
    (hbase : KeyA c 10 allKinds (needs (fun a => a.mode == .X && a.alg == .A)) (begun s c) base d1)
    (htemplate : Reads (template true (c.input 10) (c.input 10).length) d1 h d2)
    (hinput : h.len + c.p 0x3C 2 + c.p 0x3E 2 ≤ (c.input 10).length) (hsym : asymmetric h.attr.alg = false)
    (hbits : bitsOk h.attr.alg (c.p 0x40 2) = true)
    (hfits : c.p 0x38 1 = 1 → slotFits (protoKey h (c.p 0x40 2)) = true)
    (hstrength : strengthOf d2 c.i.slice (protoKey h (c.p 0x40 2)) ≤ strengthOf d2 c.i.slice base.key)
    (hlmk : c.p 0x38 1 = 0 → (activeLmk (sliceOf d2 c.i.slice).per).isSome = true)
    (hcounts : Reads (drawCounts c [(base, kdfCounts (c.p 0x3C 2) (c.p 0x3E 2) (c.p 0x40 2))]) d2 cs d3)
    (hdeliver : Reads (deliverKey c (c.p 0x38 1) (c.p 0x39 1) (bitAt (c.p 0x3A 1) 0) (c.p 0x3B 1)
      { attr := h.attr
        bytes := cmacKdf base.key.bytes (slice8 (c.input 10) h.len (c.p 0x3C 2)) (slice8 (c.input 10) (h.len + c.p 0x3C 2) (c.p 0x3E 2))
          (c.p 0x40 2 / 8) } [] []) d3 (x, a) d4) :
    Reads (keyDerive c) (begun s c) (.done x a) d4 :=
  .bind (.chk hfmt) <| .bind (.slotOk hslot) <| .bind (.chk hlen) <| .bind (reads_slotWritePolicy_begun hpolicy) <| .bind hbase <|
    .bind htemplate <| .bind (.chk (decide_eq_true hinput)) <| .bind (.chk (by simp [hsym])) <| .bind (.chk hbits) <|
    .bind (.chk (ne_or_of_imp hfits)) <| .bind (.get _) <| .bind (.chk (decide_eq_true hstrength)) <|
    .whenThen (fun h0 => reads_getActiveLmk_isSome (hlmk h0)) <| .bind hcounts <| .bind hdeliver <| .pure _ _

/-! ## Keys kept in slots and handles (R113, R115, R129, R133) -/

theorem reads_keyStore {s : State} {c : Ctx} {k : Copy} {d1 : Dev}
    (hfmt : (fmtOk c 4 1 true && c.p 0x38 1 == 0 && decide (c.p 0x3A 1 < 2) && decide (c.p 0x3B 1 ≤ 1)) = true) (hslot : c.p 0x39 1 < 64)
    (hlen : (inLenOk c 4 20480 && outLenOk c 0) = true) (hpolicy : policyBit s c 0 = true)
    (hkey : Reads (lookup c (dKeyA c.i.desc) (c.input 4) [1, 2] (needs (fun a => !asymmetric a.alg))) (begun s c) k d1)
    (hfits : slotFits k.key = true) :
    Reads (keyStore c) (begun s c) (.done { status := .ok, fixed := keyResult 0 0 (kcv (c.p 0x3B 1) k.key) }
      (.step (.slotWrite (c.p 0x39 1) k.key (ceilingOf k.key.attr) (bitAt (c.p 0x3A 1) 0)))) d1 :=
  .bind (.chk hfmt) <| .bind (.slotOk hslot) <| .bind (.chk hlen) <| .bind (reads_slotWritePolicy_begun fun _ => hpolicy) <| .bind hkey <|
    .bind (.chk hfits) <| .pure _ _

theorem reads_keyLoadEphemeral {c : Ctx} {k : Copy} {d d1 : Dev} (hfmt : fmtOk c 0 1 true = true)
    (hlen : (inLenOk c 0 20480 && outLenOk c 0) = true) (hkey : Reads (lookup c (dKeyA c.i.desc) (c.input 0) [1] anyKey) d k d1) :
    Reads (keyLoadEphemeral c) d (.done { status := .ok, fixed := List.replicate 32 0 } (.handle k.key)) d1 :=
  .bind (.chk hfmt) <| .bind (.chk hlen) <| .bind hkey <| .pure _ _

theorem Reads.set (d e : Dev) : Reads (MonadStateOf.set e : M PUnit) d () e := rfl

/-- The cache is not touched as a command begins. -/
theorem cached_begun (s : State) (c : Ctx) (n : Nat) (p : CacheSrc → Bool) : cached (begun s c) n p = cached s.dev n p := by
  unfold cached begun modItem
  split <;> rfl

theorem reads_keyRelease {s : State} {c : Ctx} {id : Nat} {e : CacheEnt} (hfmt : fmtOk c 0 1 false = true)
    (hlen : (inLenOk c 0 128 && outLenOk c 0) = true) (hkind : hKind (dKeyA c.i.desc) = 2) (hslice : hSlice (dKeyA c.i.desc) = c.i.slice)
    (hcached : cached s.dev c.i.slice (fun x => x == .eph (hIndex (dKeyA c.i.desc))) = some (id, e)) :
    Reads (keyRelease c) (begun s c) (.done { status := .ok } .nothing) (dropEntry id (begun s c)) := by
  refine .bind (.chk hfmt) <| .bind (.chk hlen) <| .bind (.chk (by simp [hkind])) <| .bind (.chk (by simp [hslice, hkind])) <|
    .bind (.get _) ?_
  simp only [hkind, ne_eq, not_true_eq_false, if_false, cached_begun, hcached]
  exact .bind (.set _ _) (.pure _ _)

section
variable {s : State} {c : Ctx} (hfmt : (fmtOk c 2 0 true && c.p 0x38 1 == 0) = true) (hslot : c.p 0x39 1 < 64)
  (hlen : (inLenOk c 2 128 && outLenOk c 0) = true)
include hfmt hslot hlen

theorem reads_keySlotInfo : Reads (keySlotInfo c) (begun s c)
    (.done { status := .ok, fixed := slotInfo (slotOf (sliceOf s.dev c.i.slice) (c.p 0x39 1)) } .nothing) (begun s c) := by
  rw [← begun_slice s c]
  exact .bind (.chk hfmt) <| .bind (.slotOk hslot) <| .bind (.chk hlen) <| .bind (.get _) <| .pure _ _

theorem reads_keyDelete (hpolicy : policyBit s c 0 = true) : Reads (keyDelete c) (begun s c)
    (.done { status := .ok, fixed := List.replicate 32 0 } (.step (.slotDelete (c.p 0x39 1)))) (begun s c) :=
  .bind (.chk hfmt) <| .bind (.slotOk hslot) <| .bind (.chk hlen) <| .bind (reads_slotWritePolicy_begun fun _ => hpolicy) <| .pure _ _

end

/-! ## The obligation -/

/-- Settles O26: each command's checks pass one by one, and what its body comes to is what its row completes with. -/
theorem keysAreMadeAndKept : Obligations.KeysAreMadeAndKept := by
  unfold Obligations.KeysAreMadeAndKept
  intro s r c
  refine ⟨fun hwork hslot hlen hpolicy => ⟨?generate, ?generateWrapped⟩, ?derive, ?store, ?loadEphemeral, ?release, ?slots⟩
  case generate =>
    intro h bytes d1 d2 hfmt htemplate hsym hbits hfits hlmk hrandom
    exact delivers_of_reads (exec_keyGenerate r s) hwork fun _ _ _ hdeliver =>
      reads_keyGenerate hslot hlen hpolicy hfmt htemplate hsym hbits hfits hlmk hrandom hdeliver
  case generateWrapped =>
    intro kek h cs bytes pad d1 d2 d3 d4 d5 hfmt hdest hwrapped hkek htemplate hsym hbits hexpo proto hwrap hlmk hcounts hrandom hpad
    exact delivers_of_reads (exec_keyGenerate r s) hwork fun _ _ _ hdeliver =>
      reads_keyGenerate_wrapped hslot hlen hpolicy hfmt hdest hwrapped hkek htemplate hsym hbits hexpo hwrap hlmk hcounts hrandom hpad hdeliver
  case derive =>
    intro dest ll cl n base h cs d1 d2 d3 hwork hfmt hslot hlen hpolicy hbase htemplate hinput hsym hbits hfits hstrength hlmk hcounts
    exact delivers_of_reads (exec_keyDerive r s) hwork fun _ _ _ hdeliver =>
      reads_keyDerive hfmt hslot hlen hpolicy hbase htemplate hinput hsym hbits hfits hstrength hlmk hcounts hdeliver
  case store =>
    intro k d1 hwork hfmt hslot hlen hpolicy hkey hfits
    exact txDoes_of_reads (exec_keyStore r s) hwork (reads_keyStore hfmt hslot hlen hpolicy hkey hfits)
  case loadEphemeral =>
    intro k d1 hwork hfmt hlen hkey
    exact txDoes_of_reads (exec_keyLoadEphemeral r s) hwork (reads_keyLoadEphemeral hfmt hlen hkey)
  case release =>
    intro id e hwork hfmt hlen hkind hslice hcached
    exact txDoes_of_reads (exec_keyRelease r s) hwork (reads_keyRelease hfmt hlen hkind hslice hcached)
  case slots =>
    intro hfmt hslot hlen
    exact ⟨fun hwork => txDoes_of_reads (exec_keySlotInfo r s) hwork (reads_keySlotInfo hfmt hslot hlen),
      fun hwork hpolicy => txDoes_of_reads (exec_keyDelete r s) hwork (reads_keyDelete hfmt hslot hlen hpolicy)⟩

end Sys2Proof.Machine
end

section
/-! PROOF. Why a start that reaches READY need not leave every sound slice in its state (O40): the statement speaks of every state, also of
one whose items are not a table, and there the aborts of a slice in ERROR can reach an item of another slice. -/

namespace Sys2Proof.Machine

/-- A start about to reach READY whose items both bear the number 0: the first belongs to slice 1, which is sound and quiesces, the second to
slice 0. Numbers of a `Tab` rise strictly, so no start comes to this state; `alive` and the stage do not exclude it. -/
def sharedNumber : State :=
  { State.reset with dev := { State.reset.dev with
      sys := { State.reset.dev.sys with stage := 3, cpUp := true, ksk := true, share := .written }
      rng := { State.reset.dev.rng with failed := true }
      slices := [(0, { state := .bound }), (1, { state := .active, drain := some {} })]
      sched := { items := [(0, { slice := 1, ring := 0, desc := [] }), (0, { slice := 0, ring := 0, desc := [] })] } } }

theorem deviceReady_sharedNumber : Does (.deviceReady [] none [0]) sharedNumber (becomeReady [0] sharedNumber.dev) := rfl

/-- Slice 0 enters ERROR and aborts item 0, and the item found under that number is the one slice 1 waits for: its drain is over. -/
theorem becomeReady_sharedNumber_quiesces : (sliceOf (becomeReady [0] sharedNumber.dev) 1).state = .quiesced := rfl

/-- Refutes O40: its clause on READY says that a slice whose record is sound keeps its state, for whatever items the device holds. In
`sharedNumber` slice 0 is bad, slice 1 is sound and active, and READY leaves slice 1 QUIESCED. -/
theorem not_startsReachReady : ¬ Obligations.StartsReachReady := by
  unfold Obligations.StartsReachReady
  intro h
  obtain ⟨-, -, ready⟩ := h sharedNumber rfl
  obtain ⟨reaches, -⟩ := ready rfl rfl (.inr rfl)
  obtain ⟨t, ht, -, -, -, hslices⟩ := reaches [0]
  rw [deviceReady_sharedNumber] at ht
  cases ht
  have kept := hslices 1
  rw [sliceOf, watch_slices] at kept
  exact absurd (becomeReady_sharedNumber_quiesces.symm.trans kept) (by decide)

end Sys2Proof.Machine
end

section
/-! PROOF. What the payment commands answer (O28, O29): each reads its checks, keys, draws and random bytes one after the other, and ends
in a value, or in the outcome of a comparison. -/

namespace Sys2Proof.Machine

/-! ## A body that comes to an end -/

/-- The body of a command ends as `o` and leaves the device as `d1`. -/
def Finishes (m : M Act) (d : Dev) (o : Except Res Act) (d1 : Dev) : Prop := m.run.run d = (asRun o, d1)

theorem txDoes_of_finishes {s : State} {r : Run} {op : Nat} {c : Ctx} {body : Ctx → M Act} {o : Except Res Act} {d : Dev} {i : Instr}
    (hrow : exec i s = runTx op r body s) (hwork : AtWork s r op c) (hbody : Finishes (body c) (begun s c) o d) : TxDoes i s c o d :=
  txDoes_of i hrow hwork hbody

/-- Two rows with one body, which is told whether it generates or verifies. -/
theorem exec_genOrVerify {i j : Instr} {op op' : Nat} {r : Run} {s : State} {body : Bool → Ctx → M Act} (gen : Bool)
    (hgen : exec i s = runTx op r (body true) s) (hverify : exec j s = runTx op' r (body false) s) :
    exec (if gen then i else j) s = runTx (if gen then op else op') r (body gen) s := by
  cases gen
  · exact hverify
  · exact hgen

theorem Finishes.bind {α : Type} {m : M α} {f : α → M Act} {d d1 d2 : Dev} {a : α} {o : Except Res Act}
    (h : Reads m d a d1) (k : Finishes (f a) d1 o d2) : Finishes (m >>= f) d o d2 := (run_bind h).trans k

/-- A result given at once. -/
theorem Finishes.done (x : Res) (a : After) (d : Dev) : Finishes (pure (.done x a)) d (gives x a) d := rfl

theorem Finishes.failWith (st : Status) (d : Dev) : Finishes (failWith st) d (fails st) d := rfl

/-- The last check, which decides between a result and its status. -/
theorem Finishes.chkDone {b : Bool} {p : Prop} [Decidable p] {st : Status} {x : Res} {a : After} {d : Dev}
    (hp : b = true ↔ p) :
    Finishes (chk b st >>= fun _ => pure (.done x a)) d (if p then gives x a else fails st) d := by
  split
  · next h => exact .bind (.chk (hp.mpr h)) (.done x a d)
  · next h =>
    obtain rfl : b = false := Bool.eq_false_iff.mpr (mt hp.mp h)
    exact .failWith st d

/-- A value is generated, or compared with the one the caller gave. -/
theorem Finishes.generateOrCompare {gen : Bool} {p : Prop} [Decidable p] {v : List Byte} {st : Status} {d : Dev} :
    Finishes (if gen then pure (.done { status := .ok, out := v } .nothing)
        else if p then pure (.done { status := .ok } .nothing) else Machine.failWith st) d
      (if gen then gives { status := .ok, out := v } else if p then gives { status := .ok } else fails st) d := by
  split
  · exact .done _ _ d
  · split
    · exact .done _ _ d
    · exact .failWith st d

/-- A check made by the generating row alone. -/
theorem not_or_of_imp_true {b x : Bool} (h : b = true → x = true) : (!b || x) = true := by
  cases b
  · rfl
  · exact h rfl

/-! ## PIN commands (R138, R141 to R160, R168) -/

/-- A slice that may issue PINs, or a command that issues none (R138). -/
theorem reads_pinIssue {s : State} {c : Ctx} {gen : Bool} (h : gen = true → policyBit s c 1 = true) :
    Reads (pinIssue c gen) (begun s c) () (begun s c) := by
  refine .bind (.get _) (.chk ?_)
  rw [begun_slice]
  exact not_or_of_imp_true h

/-- Every decimal digit stands once or twice in a decimalisation table (R158). -/
theorem tableDigits_iff {table : List Nat} :
    (List.range 10).all (fun x => let m := (table.filter (· == x)).length; decide (1 ≤ m) && decide (m ≤ 2)) = true ↔
      ∀ x, x < 10 → 1 ≤ (table.filter (· == x)).length ∧ (table.filter (· == x)).length ≤ 2 := by
  simp only [List.all_eq_true, List.mem_range, Bool.and_eq_true, decide_eq_true_eq]

/-- Settles O28: the checks pass in the order of R141, `pinWork` gives the PIN and key B, and what is left is a value or a comparison. -/
theorem pinCommands : Obligations.PinCommands := by
  unfold Obligations.PinCommands
  intro s r c pin kb d1
  refine ⟨?translate, ?offset, ?pvv, ?reference, ?scriptPin⟩
  case translate =>
    intro rnd d2 hwork hfmt hlen hformats hpin hrandom
    exact txDoes_of_finishes (exec_pinTranslate r s) hwork <| .bind (.chk hfmt) <| .bind (.chk hlen) <|
      .bind (.chk (by simpa using hformats)) <| .bind hpin <| .bind hrandom <| .done _ _ _
  case offset =>
    intro gen hwork hissue n table off v hfmt hlen htable hpin hfits
    exact txDoes_of_finishes (exec_genOrVerify gen (exec_pinOffsetGenerate r s) (exec_pinVerifyOffset r s)) hwork <|
      .bind (.chk hfmt) <| .bind (.chk hlen) <| .bind (reads_pinIssue hissue) <| .bind (.chk (tableDigits_iff.mpr htable)) <|
      .bind hpin <| .bind (.chk (not_or_of_imp_true fun hgen => decide_eq_true (hfits hgen))) <| .generateOrCompare
  case pvv =>
    intro gen hwork hissue pvv b v hfmt hlen hpin
    exact txDoes_of_finishes (exec_genOrVerify gen (exec_pvvGenerate r s) (exec_pinVerifyPvv r s)) hwork <|
      .bind (.chk hfmt) <| .bind (.chk hlen) <| .bind (reads_pinIssue hissue) <| .bind hpin <| .generateOrCompare
  case reference =>
    intro gen hwork hissue pan v hfmt hlen hpin
    exact txDoes_of_finishes (exec_genOrVerify gen (exec_pinReferenceGenerate r s) (exec_pinVerifyReference r s)) hwork <|
      .bind (.chk hfmt) <| .bind (.chk hlen) <| .bind (reads_pinIssue hissue) <| .bind hpin <| .generateOrCompare
  case scriptPin =>
    intro hwork hfmt hlen hpin
    exact txDoes_of_finishes (exec_emvScriptPin r s) hwork <| .bind (.chk hfmt) <| .bind (.chk hlen) <| .bind hpin <| .done _ _ _

/-! ## Cryptograms, card check values and MACs (R161 to R173) -/

/-- Settles O29: the checks pass one by one up to the draw of key A's counts, and what is left is a value or a comparison. -/
theorem cryptogramsAndMacs : Obligations.CryptogramsAndMacs := by
  unfold Obligations.CryptogramsAndMacs
  intro s r c k cs d1 d2
  refine ⟨?cryptogram, ?scriptMac, ?cardCheck, ?mac⟩
  case cryptogram =>
    intro gen hwork fl n padl wants mk ack hfmt hlen hkey hdraw
    exact txDoes_of_finishes (exec_genOrVerify gen (exec_arpcGenerate r s) (exec_arqcVerify r s)) hwork <|
      .bind (.chk hfmt) <| .bind (.chk hlen) <| .bind hkey <| .bind hdraw <| .chkDone (by rw [Bool.or_eq_true, beq_iff_eq])
  case scriptMac =>
    intro hwork n ml hfmt hlen hkey hdraw
    exact txDoes_of_finishes (exec_emvScriptMac r s) hwork <| .bind (.chk hfmt) <| .bind (.chk hlen) <| .bind hkey <| .bind hdraw <|
      .done _ _ _
  case cardCheck =>
    intro gen hwork svc v x hfmt hlen hkey htwoKeys hdraw
    exact txDoes_of_finishes (exec_genOrVerify gen (exec_ccvGenerate r s) (exec_ccvVerify r s)) hwork <|
      .bind (.chk hfmt) <| .bind (.chk hlen) <| .bind hkey <| .bind (.chk (beq_iff_eq.mpr htwoKeys)) <| .bind hdraw <|
      .generateOrCompare
  case mac =>
    intro gen u anyAlg hwork code pad ml fl n duk use typ wk m husage hfmt hlen hkey hbytes hafterA hksn hdraw
    exact txDoes_of_finishes (exec_genOrVerify gen (exec_macGenerate r s) (exec_macVerify r s)) hwork <|
      .bind (.orFail husage) <| .bind (.chk hfmt) <| .bind (.chk hlen) <| .bind hkey <| .bind (.chk hbytes) <| .bind (.chk hafterA) <|
      .bind (.chk hksn) <| .bind hdraw <| .generateOrCompare

end Sys2Proof.Machine
end

section
/-! PROOF. What the bulk opcodes answer (O30, O31): each reads its checks, its key, its counts and its message one after the other, and
ends in a request to an engine that carries the result. -/

namespace Sys2Proof.Machine

/-! ## A body that ends in a request to an engine -/

/-- A result that an engine of a pool delivers. -/
theorem Finishes.post {p : Pool} {n : Nat} {x : Res} {a : After} {d : Dev} : Finishes (pure (.engine p n x a)) d (posts p n x a) d := rfl

section
variable {p : Prop} [Decidable p] {d d1 : Dev}

/-- Of two ways to end, the one whose condition holds. -/
theorem Finishes.ite {m m' : M Act} {o o' : Except Res Act} (h : Finishes m d o d1) (h' : Finishes m' d o' d1) :
    Finishes (if p then m else m') d (if p then o else o') d1 := by
  split
  · exact h
  · exact h'

/-- A comparison decides which of two results the engine delivers. -/
theorem Finishes.postIte {q : Pool} {n : Nat} {x y : Res} {a : After} :
    Finishes (if p then pure (.engine q n x a) else pure (.engine q n y a)) d (posts q n (if p then x else y) a) d := by
  split
  · exact .post
  · exact .post

end

/-! ## Data ciphers (R183, R185 to R196) -/

section
variable {dev : Bool} {n : Nat} {f : List Byte → M Act} {d d1 d2 : Dev} {o : Except Res Act}

/-- A command whose caller gave the IV goes on without random bytes. -/
theorem Finishes.callerIv (h : dev = false) (k : Finishes (f []) d o d1) :
    Finishes (if dev then random n >>= f else pure [] >>= f) d o d1 := by
  rw [h]
  exact k

/-- A command whose IV the device makes goes on with the bytes drawn. -/
theorem Finishes.deviceIv {rnd : List Byte} (h : dev = true) (hrandom : Reads (random n) d rnd d1) (k : Finishes (f rnd) d1 o d2) :
    Finishes (if dev then random n >>= f else pure [] >>= f) d o d2 := by
  rw [if_pos h]
  exact .bind hrandom k

end

/-- Settles O30: the checks pass up to the draw of the key's counts; then a mode without a tag takes its IV from the caller or from the
device, and the modes with a tag work under their nonce. -/
theorem dataCiphers : Obligations.DataCiphers := by
  unfold Obligations.DataCiphers
  intro s r c enc k ks d1 d2 hwork hfmt hlen mode dev cb tl n an a kb ci iv0 blocks aad m row hkey hslot hstrength hblockSize hblocks hdraw
  have checked : ∀ {o d3}, _ → TxDoes row s c o d3 := fun rest =>
    txDoes_of_finishes (exec_genOrVerify enc (exec_dataEncrypt r s) (exec_dataDecrypt r s)) hwork <|
      .bind (.chk hfmt) <| .bind (.chk hlen) <| .bind hkey <| .bind (.chk hslot) <| .bind (.chk hstrength) <|
      .bind (.chk hblockSize) <| .bind (.chk hblocks) <| .bind hdraw rest
  refine ⟨fun huntagged => ?untagged, fun haead hdev => ⟨?encrypt, ?decrypt⟩⟩
  case untagged =>
    simp only [mode] at huntagged
    refine ⟨fun hdev => checked (.callerIv hdev ?_), fun hdev rnd d3 hrandom => checked (.deviceIv hdev hrandom ?_)⟩
    · simp only [dev] at hdev
      simp only [huntagged, hdev, Bool.false_eq_true, if_false]
      exact .post
    · simp only [dev] at hdev
      simp only [huntagged, hdev, Bool.false_eq_true, if_false, if_true]
      exact .post
  case encrypt =>
    rintro rfl x xs sl v rfl hcounted nonce
    refine checked (.callerIv hdev ?_)
    simp only [mode] at haead
    simp only [haead, if_true, List.head?_cons, Option.bind_some, hcounted]
    exact .post
  case decrypt =>
    rintro rfl nonce
    refine checked (.callerIv hdev ?_)
    simp only [mode] at haead
    simp only [haead, if_true, Bool.false_eq_true, if_false]
    exact .postIte

/-! ## Digests and MACs of long messages (R197 to R202) -/

/-- The message of a digest-engine command and whether its source delivered more: from the data area, or from a gather list (R199 to
R201). -/
def MessageIs (c : Ctx) (params n : Nat) (g : Bool) (m : List Byte) (more : Bool) : Prop :=
  if g then (∃ total, gatherCheck (c.input params) n = .ok total ∧ more = decide (n < total)) ∧ m = fit (c.r.input.drop (dInLen c.i.desc)) n
  else m = (c.input params).take n ∧ more = false

theorem reads_message {c : Ctx} {params n : Nat} {g : Bool} {m : List Byte} {more : Bool} (h : MessageIs c params n g m more) (d : Dev) :
    Reads (message c params n g) d (m, more) d := by
  unfold MessageIs at h
  unfold message
  cases g with
  | true =>
    obtain ⟨⟨total, hcheck, rfl⟩, rfl⟩ := h
    exact .bind (.liftS hcheck) (.pure _ _)
  | false =>
    obtain ⟨rfl, rfl⟩ := h
    exact .pure _ _

/-- Settles O31: the checks pass one by one, the message follows as its source gives it, and the engine carries a value, the outcome of a
comparison, or the slot step of a derived key. -/
theorem digestsAndLongMacs : Obligations.DigestsAndLongMacs := by
  unfold Obligations.DigestsAndLongMacs
  intro s r c h msg
  refine ⟨fun m more => ⟨?digest, ?verify⟩, ?mac, ?derive⟩
  case digest =>
    intro hwork hfmt hlen hpolicy hmsg
    exact txDoes_of_finishes (exec_digest r s) hwork <| .bind (.chk hfmt) <| .bind (.chk hlen) <| .bind (.chk (decide_eq_true hpolicy)) <|
      .bind (reads_message hmsg _) <| .post
  case verify =>
    intro hwork hfmt hlen hmsg
    exact txDoes_of_finishes (exec_digestVerify r s) hwork <| .bind (.chk hfmt) <| .bind (.chk hlen) <|
      .bind (reads_message hmsg _) <| .post
  case mac =>
    intro gen k cs m more d1 d2 hwork hc ml g n hm ci v hfmt hlen hpolicy hkey hblockSize hdraw hmsg
    exact txDoes_of_finishes (exec_genOrVerify gen (exec_bulkMacGenerate r s) (exec_bulkMacVerify r s)) hwork <| .bind (.chk hfmt) <|
      .bind (.chk hlen) <| .bind (.chk hpolicy) <| .bind hkey <| .bind (.chk hblockSize) <| .bind hdraw <|
      .bind (reads_message hmsg _) <| .postIte
  case derive =>
    intro u a md ex k m d1 hwork slot g n kb ceil attr key husage halg hmode hexpo hfmt hlen hpolicy hhash hkey hcombo hceil hstrength hmsg
    exact txDoes_of_finishes (exec_hmacDeriveKey r s) hwork <| .bind (.orFail husage) <| .bind (.orFail halg) <| .bind (.orFail hmode) <|
      .bind (.orFail hexpo) <| .bind (.chk hfmt) <| .bind (.chk hlen) <| .bind (reads_slotWritePolicy_begun fun _ => hpolicy) <|
      .bind (.chk (decide_eq_true hhash)) <| .bind hkey <| .bind (.chk hcombo) <| .bind (.chk (decide_eq_true hceil)) <|
      .bind (.chk (decide_eq_true hstrength)) <| .bind (reads_message hmsg _) <| .bind (.chk rfl) <|
      .ite .post .post

end Sys2Proof.Machine
end

section
/-! PROOF. What the public-key opcodes answer (O32 to O35): each reads its checks, its key and its random bytes one after the other, and ends
in work of a PK engine, whose checks report through it. -/

namespace Sys2Proof.Machine

/-! ## Work of an engine (R231) -/

/-- A run that stops stops what would follow it. -/
theorem run_bind_error {α β : Type} {m : M α} {f : α → M β} {d d1 : Dev} {e : Stop} (h : m.run.run d = (.error e, d1)) :
    (m >>= f).run.run d = (.error e, d1) := by
  rw [ExceptT.run_bind, StateT.run_bind, h]
  rfl

/-- Nothing is caught from a run that comes to a value. -/
theorem Reads.tryCatch {α : Type} {m : M α} {f : Stop → M α} {a : α} {d d1 : Dev} (h : Reads m d a d1) : Reads (tryCatch m f) d a d1 := by
  unfold Reads at *
  rw [ExceptT.run_tryCatch, StateT.run_bind, h]
  rfl

/-- A run that stops goes on as its handler says. -/
theorem run_tryCatch_error {α : Type} {m : M α} {f : Stop → M α} {d d1 : Dev} {e : Stop} (h : m.run.run d = (.error e, d1)) :
    (tryCatch m f).run.run d = (f e).run.run d1 := by
  rw [ExceptT.run_tryCatch, StateT.run_bind, h]
  rfl

/-- Work of an engine comes to `x` and the delivery `a`: a value, or the result of a check that fails (R231). -/
def Yields (m : M (Res × After)) (d : Dev) (x : Res) (a : After) (d1 : Dev) : Prop :=
  Reads m d (x, a) d1 ∨ (a = .nothing ∧ m.run.run d = (.error (.fail x), d1))

theorem Finishes.viaEngine {n : Nat} {m : M (Res × After)} {x : Res} {a : After} {d d1 : Dev} (h : Yields m d x a d1) :
    Finishes (viaEngine n m) d (posts .pk n x a) d1 := by
  rcases h with h | ⟨rfl, h⟩
  · exact (h.bind (Reads.pure (Act.engine .pk n x a) d1)).tryCatch
  · exact run_tryCatch_error (run_bind_error h)

namespace Yields

theorem bind {α : Type} {m : M α} {f : α → M (Res × After)} {v : α} {d d1 d2 : Dev} {x : Res} {a : After}
    (h : Reads m d v d1) (k : Yields (f v) d1 x a d2) : Yields (m >>= f) d x a d2 :=
  k.imp (fun k => h.bind k) (And.imp_right fun k => (run_bind h).trans k)

theorem done (out : List Byte) (d : Dev) : Yields (pkDone out) d { status := .ok, out } .nothing d := .inl rfl

section
variable {b : Bool} {p : Prop} [Decidable p] {st : Status} {m : M (Res × After)} {x : Res} {d : Dev}

/-- A check of the engine's: its status where it fails, and else what follows. -/
theorem chkThen (hp : b = true ↔ p) (hm : Yields m d x .nothing d) :
    Yields (chk b st >>= fun _ => m) d (if p then x else { status := st }) .nothing d := by
  split
  · next h => exact .bind (.chk (hp.mpr h)) hm
  · next h =>
    obtain rfl : b = false := Bool.eq_false_iff.mpr (mt hp.mp h)
    exact .inr ⟨rfl, rfl⟩

/-- A check of the engine's, told by when it fails. -/
theorem chkElse (hp : b = false ↔ p) (hm : Yields m d x .nothing d) :
    Yields (chk b st >>= fun _ => m) d (if p then { status := st } else x) .nothing d := by
  rw [← ite_not]
  exact chkThen (by rw [← hp, Bool.not_eq_false]) hm

/-- Two checks with one status. -/
theorem chkTwice {b' : Bool} (hp : (b && b') = true ↔ p) (hm : Yields m d x .nothing d) :
    Yields (chk b st >>= fun _ => chk b' st >>= fun _ => m) d (if p then x else { status := st }) .nothing d := by
  rw [Bool.and_eq_true] at hp
  simp only [← hp, ite_and]
  exact chkThen .rfl (chkThen .rfl hm)

/-- A value that is missing. -/
theorem missing {α : Type} {v : Option α} {f : α → M (Res × After)} (h : v = none) :
    Yields (orFail v st >>= f) d { status := st } .nothing d := by
  subst h
  exact .inr ⟨rfl, rfl⟩

end

end Yields

/-! ## Before the engine (R223) -/

theorem reads_needRandom {d : Dev} (h : rngForItems d = true) : Reads needRandom d () d := by
  have hserving := h
  simp only [rngForItems, rngServing, Bool.and_eq_true, Bool.not_eq_true'] at hserving
  obtain ⟨⟨⟨hfailed, -⟩, -⟩, -⟩ := hserving
  refine .bind (.get d) ?_
  simp only [hfailed, h, Bool.not_true, Bool.false_eq_true, if_false]
  exact .pure _ _

/-- Neither SHA-1 where the policy refuses it nor a write to a slot without its right (R223 step 3). -/
theorem reads_pkPolicy {s : State} {c : Ctx} {signs : Bool} {f : PkForm} (hhash : f.hash = true → pkHash c ≠ 1)
    (hdest : f.deliver = true → pkDest c = 1 → policyBit s c 0 = true) : Reads (pkPolicy c signs f) (begun s c) () (begun s c) := by
  refine .bind (.chk ?_) (reads_slotWritePolicy_begun ?_)
  · by_cases hf : f.hash = true <;> simp [hf, hhash]
  · intro h
    split at h
    · next hf => exact hdest hf h
    · cases h

theorem pkCurveOf_begun (s : State) (c : Ctx) : pkCurveOf c (begun s c) = pkCurveOf c s.dev := by
  rw [pkCurveOf, begun_slice, pkCurveOf]

/-! ## RSA -/

/-- Settles O32: the checks before the engine pass one by one, and the engine's own checks decide the result that it delivers. -/
theorem rsaCommands : Obligations.RsaCommands := by
  unfold Obligations.RsaCommands
  intro s r c f h msg
  refine ⟨?sign, ?verify, ?decrypt⟩
  case sign =>
    intro key salt d1 d2 hwork hfmt hlen hhash halg hkey hout hrng hsalt m em
    refine txDoes_of_finishes (exec_rsaSign r s) hwork <| .bind (.chk hfmt) <| .bind (.chk hlen) <|
      .bind (reads_pkPolicy (fun _ => hhash) nofun) <| .bind (.chk (beq_iff_eq.mpr halg)) <| .bind hkey <| .bind (.chk hout) <|
      .bind (reads_needRandom hrng) ?_
    split
    · next hpss =>
      simp only [em, hpss, if_true] at hsalt ⊢
      exact .bind hsalt <| .viaEngine <| .done _ _
    · next hpss =>
      simp only [em, hpss, if_false] at hsalt ⊢
      obtain ⟨rfl, rfl⟩ := hsalt
      exact .viaEngine <| .done _ _
  case verify =>
    intro k n e sg em hwork hfmt hlen halg
    have hrange : (n % 2 == 1 && decide (2 ^ (8 * k - 1) ≤ n) && e % 2 == 1 && decide (3 ≤ e) &&
        (decide (0 < sg) && decide (sg < n))) = true ↔ n % 2 = 1 ∧ 2 ^ (8 * k - 1) ≤ n ∧ e % 2 = 1 ∧ 3 ≤ e ∧ 0 < sg ∧ sg < n := by simp [and_assoc]
    exact txDoes_of_finishes (exec_rsaVerify r s) hwork <| .bind (.chk hfmt) <| .bind (.chk hlen) <|
      .bind (.chk (beq_iff_eq.mpr halg)) <| .viaEngine <| .chkTwice hrange <| .chkThen .rfl <| .done _ _
  case decrypt =>
    intro key d1 k x hwork hfmt hlen halg hkey hmod hrng
    have hrange : (decide (0 < x) && decide (x < (rsaN key).2)) = true ↔ 0 < x ∧ x < (rsaN key).2 := by simp
    refine txDoes_of_finishes (exec_rsaDecrypt r s) hwork <| .bind (.chk hfmt) <| .bind (.chk hlen) <|
      .bind (.chk (beq_iff_eq.mpr halg)) <| .bind hkey <| .bind (.chk (beq_iff_eq.mpr hmod)) <| .bind (reads_needRandom hrng) <|
      .viaEngine <| .chkThen hrange ?_
    split
    · next out hout => exact .bind (.orFail hout) (.done out d1)
    · next hnone => exact .missing hnone

/-! ## Signatures on curves (R226, R227) -/

/-- A length that is asked only of a code that the opcode takes. -/
theorem unless_eq_isN {b : Bool} (h : b = true) (n : Nat) : (fun x => !b || x == n) = isN n := by
  subst h
  rfl

/-- Settles O33: the checks before the engine pass one by one on the curve that `PK_ALG` names, and the engine's own checks of the point
and of the range come in the order of R232. -/
theorem curveSignatures : Obligations.CurveSignatures := by
  unfold Obligations.CurveSignatures
  intro s r c a
  refine ⟨?ecdsaSign, ?ecdsaVerify, ?eddsaSign, ?eddsaVerify⟩
  case ecdsaSign =>
    intro w key rnd d1 d2 f hwork hcurve hfmt hlen hhash hkey hrnd ol k x y
    have hfault : (decide (x ≠ 0) && decide (y ≠ 0)) = true ↔ x ≠ 0 ∧ y ≠ 0 := by simp
    refine txDoes_of_finishes (exec_ecdsaSign r s) hwork <| .bind (.get _) ?_
    simp only [pkCurveOf_begun, hcurve, Option.map_some, Option.getD_some]
    exact .bind (.chk hfmt) <| .bind (.chk hlen) <| .bind (reads_pkPolicy (fun _ => hhash) nofun) <| .bind (.orFail rfl) <|
      .bind hkey <| .bind hrnd <| .viaEngine <| .chkThen hfault <| .done _ _
  case ecdsaVerify =>
    intro w f hwork hcurve hfmt hlen hhead q x y p
    have hrange : (decide (0 < x) && decide (x < w.n) && decide (0 < y) && decide (y < w.n)) = false ↔
        ¬ (0 < x ∧ x < w.n ∧ 0 < y ∧ y < w.n) := by simp [← Bool.not_eq_true, and_assoc]
    have hsig : (match p with
        | some z => z.1 % w.n == x
        | none => false) = true ↔ p.any (fun z => z.1 % w.n == x) = true := by cases p <;> rfl
    refine txDoes_of_finishes (exec_ecdsaVerify r s) hwork <| .bind (.get _) ?_
    simp only [pkCurveOf_begun, hcurve]
    exact .bind (.chk hfmt) <| .bind (.chk hlen) <| .bind (.orFail rfl) <| .bind (.chk (beq_iff_eq.mpr hhead)) <|
      .viaEngine <| .chkElse .rfl <| .chkElse hrange <| .chkThen hsig <| .done _ _
  case eddsaSign =>
    intro key d1 f hwork hfmt hlen halg hkey hrng sg
    exact txDoes_of_finishes (exec_eddsaSign r s) hwork <| .bind (.chk hfmt) <| .bind (.chk hlen) <| .bind (.chk halg) <|
      .bind hkey <| .bind (reads_needRandom hrng) <| .viaEngine <| .done _ _
  case eddsaVerify =>
    intro f pub sg hwork hfmt hlen halg
    have horder : decide (leAt sg (edPub a) (edPub a) < edOrder a) = false ↔ edOrder a ≤ leAt sg (edPub a) (edPub a) := by simp
    rw [← unless_eq_isN halg (edPub a), ← unless_eq_isN halg (edSig a)] at hlen
    exact txDoes_of_finishes (exec_eddsaVerify r s) hwork <| .bind (.chk hfmt) <| .bind (.chk hlen) <| .bind (.chk halg) <|
      .viaEngine <| .chkElse .rfl <| .chkElse horder <| .chkElse .rfl <| .chkThen .rfl <| .done _ _

/-! ## Delivery of a key through the engine (R224, R228, R230) -/

/-- A command that goes on to deliver a key, and ends as `out` says of what the delivery answers, delivers it. -/
theorem delivers_of_finishes {s : State} {r : Run} {op : Nat} {c : Ctx} {body : Ctx → M Act} {i : Instr} {out : Res → After → Except Res Act}
    {dest slot meth : Nat} {ow : Bool} {k : Key} {before after : List Byte} {d : Dev} (hrow : exec i s = runTx op r body s)
    (hwork : AtWork s r op c)
    (hbody : ∀ x a d1, Reads (deliverKey c dest slot ow meth k before after) d (x, a) d1 → Finishes (body c) (begun s c) (out x a) d1) :
    Delivers i s c out dest slot ow meth k before after d := by
  intro hweak
  have completes := fun {x a d1} h => txDoes_of_finishes hrow hwork (hbody x a d1 h)
  refine ⟨?_, ?_, fun hdest hlen => completes (reads_deliverKey_handle hweak hdest hlen)⟩
  · rintro rfl g lmk pad d1 hlmk hpad hlen
    exact completes (reads_deliverKey_block hweak hlmk hpad hlen)
  · rintro rfl hlen
    exact completes (reads_deliverKey_slot hweak hlen)

/-- A command whose engine checks a public value and goes on to deliver a key: the status of the check where it fails, and else the
delivery. -/
theorem delivers_after_check {s : State} {r : Run} {op len : Nat} {c : Ctx} {body : Ctx → M Act} {i : Instr} {ok : Bool} {st : Status}
    {dest slot meth : Nat} {ow : Bool} {k : Key} {before after : List Byte} {d : Dev} (hrow : exec i s = runTx op r body s)
    (hwork : AtWork s r op c)
    (hbody : ∀ x a d1, Yields (chk ok st >>= fun _ => deliverKey c dest slot ow meth k before after) d x a d1 →
      Finishes (body c) (begun s c) (posts .pk len x a) d1) :
    (ok = false → TxDoes i s c (posts .pk len { status := st }) d) ∧
      (ok = true → Delivers i s c (fun x a => posts .pk len x a) dest slot ow meth k before after d) := by
  refine ⟨?_, fun hok => delivers_of_finishes hrow hwork fun x a d1 hdeliver => hbody x a d1 (.bind (.chk hok) (.inl hdeliver))⟩
  rintro rfl
  exact txDoes_of_finishes hrow hwork (hbody _ _ _ (.inr ⟨rfl, rfl⟩))

/-- Settles O34: the checks before the engine pass one by one up to the template's, and the shared secret goes through the one-step KDF
to its delivery, unless the engine's check of the other side's public value fails. -/
theorem keyAgreement : Obligations.KeyAgreement := by
  unfold Obligations.KeyAgreement
  intro s r c h proto d1 d2 d3 f a hc info n bytes delivered hhash hdest htemplate
  have hpolicy : Reads (pkPolicy c false f) (begun s c) () (begun s c) := reads_pkPolicy (fun _ => hhash) fun _ => hdest
  refine ⟨fun key hwork hfmt hkey hout hrng => ⟨?x25519, ?weierstrass⟩, ?encapsulate, ?decapsulate⟩
  case x25519 =>
    intro halg hcurve hlen u
    have hx : (pkAlg c == 0x06) = true := beq_iff_eq.mpr halg
    refine delivers_after_check (exec_ecdhDerive r s) hwork fun _ _ _ hyields => .bind (.get _) ?_
    simp only [pkCurveOf_begun, hcurve, hx, if_true, Bool.true_or]
    exact .bind (.chk hfmt) <| .bind (.chk hlen) <| .bind hpolicy <| .bind (.chk rfl) <| .bind hkey <| .bind (.chk rfl) <|
      .bind htemplate <| .bind hout <| .bind (reads_needRandom hrng) <| .viaEngine hyields
  case weierstrass =>
    intro w hcurve halg hhead hlen p
    have hx : (pkAlg c == 0x06) = false := beq_eq_false_iff_ne.mpr halg
    refine delivers_after_check (exec_ecdhDerive r s) hwork fun _ _ _ hyields => .bind (.get _) ?_
    simp only [pkCurveOf_begun, hcurve, hx, Bool.false_eq_true, if_false, Bool.false_or]
    exact .bind (.chk hfmt) <| .bind (.chk hlen) <| .bind hpolicy <| .bind (.chk rfl) <| .bind hkey <|
      .bind (.chk (beq_iff_eq.mpr hhead)) <| .bind htemplate <| .bind hout <| .bind (reads_needRandom hrng) <| .viaEngine hyields
  case encapsulate =>
    rintro rnd hwork rfl hfmt halg hlen hout hrnd ek
    rw [← unless_eq_isN halg (kemEk a)] at hlen
    exact delivers_after_check (exec_mlkemEncapsulate r s) hwork fun _ _ _ hyields =>
      .bind (.chk hfmt) <| .bind (.chk hlen) <| .bind hpolicy <| .bind (.chk halg) <| .bind htemplate <| .bind hout <|
      .bind hrnd <| .viaEngine hyields
  case decapsulate =>
    intro key hwork hfmt halg hlen hkey hout hrng
    rw [← unless_eq_isN halg (kemCt a)] at hlen
    exact delivers_of_finishes (exec_mlkemDecapsulate r s) hwork fun _ _ _ hdeliver =>
      .bind (.chk hfmt) <| .bind (.chk hlen) <| .bind hpolicy <| .bind (.chk halg) <| .bind hkey <| .bind htemplate <| .bind hout <|
      .bind (reads_needRandom hrng) <| .viaEngine <| .inl hdeliver

/-! ## ML-DSA and key pairs (R229, R230) -/

/-- Settles O35: the checks before the engine pass one by one; the engine's signature fails where its rejection loop comes to its bound,
and a generated pair goes to its delivery with the public key behind it. -/
theorem latticeSignaturesAndKeyPairs : Obligations.LatticeSignaturesAndKeyPairs := by
  unfold Obligations.LatticeSignaturesAndKeyPairs
  intro s r c a
  refine ⟨fun halg => ⟨?sign, ?verify⟩, ?generate⟩
  case sign =>
    intro key rnd d1 d2 hwork hfmt hlen hkey hrnd sg
    exact txDoes_of_finishes (exec_mldsaSign r s) hwork <| .bind (.chk hfmt) <| .bind (.chk hlen) <| .bind (.chk halg) <|
      .bind hkey <| .bind hrnd <| .viaEngine <| .chkElse (by simp) <| .done _ _
  case verify =>
    intro hwork hfmt hlen
    rw [← unless_eq_isN halg (dsaPk a), ← unless_eq_isN halg (dsaSig a)] at hlen
    exact txDoes_of_finishes (exec_mldsaVerify r s) hwork <| .bind (.chk hfmt) <| .bind (.chk hlen) <| .bind (.chk halg) <|
      .viaEngine <| .chkThen .rfl <| .done _ _
  case generate =>
    intro h rnd d1 d2 f w info hwork hfmt hlen hdest hcurve htemplate shape hshape hout hrnd
    refine delivers_of_finishes (exec_pkKeyGenerate r s) hwork fun _ _ _ hdeliver => .bind (.get _) ?_
    rw [pkCurveOf_begun]
    exact .bind (.chk hfmt) <| .bind (.chk hlen) <| .bind (reads_pkPolicy nofun fun _ h1 => absurd h1 hdest) <|
      .bind (.chk hcurve) <| .bind (.chk (decide_eq_true hdest)) <| .bind htemplate <| .bind (.chk hshape) <| .bind hout <|
      .bind hrnd <| .viaEngine <| .inl hdeliver

end Sys2Proof.Machine
end

section
/-! PROOF. What the mailboxes do to master keys, TR-34 and curves (O50): a mirrored command whose checks pass becomes a step, and that step
has its effect at its commit; a token that fails a check loads nothing. -/

namespace Sys2Proof.Machine

/-! ## Mirrored commands of a slice (R282, R298) -/

/-- A mirrored command as its originator meets it. -/
def asked (n : Nat) (inp dat : List Byte) : MReq := { force := false, scope := n, inp, data := dat }

@[simp] theorem asked_force (n : Nat) (inp dat : List Byte) : (asked n inp dat).force = false := rfl
@[simp] theorem asked_scope (n : Nat) (inp dat : List Byte) : (asked n inp dat).scope = n := rfl
@[simp] theorem asked_inp (n : Nat) (inp dat : List Byte) : (asked n inp dat).inp = inp := rfl
@[simp] theorem asked_data (n : Nat) (inp dat : List Byte) : (asked n inp dat).data = dat := rfl
@[simp] theorem asked_f (n o k : Nat) (inp dat : List Byte) : (asked n inp dat).f o k = leAt inp o k := rfl
@[simp] theorem asked_mlen (n k : Nat) (inp dat : List Byte) : (mlen (asked n inp dat) k).1 = (inp.length == k) := rfl

/-- A mirrored command of a slice that serves is what its effect comes to once the two checks of the slice have passed. -/
theorem mirrors_of_thawed {row : MbReq → Instr} {op : MOp} {good : Nat → List Byte → List Byte → Cx → Prop}
    {post : Nat → List Byte → List Byte → Cx → Cx} {bd out : Nat → List Byte → List Byte → Cx → List Byte}
    (hrow : ∀ q s, exec (row q) s = runMgmt op q s)
    (hbody : ∀ r c, good r.q.scope r.inp (dataOf op r c) c → body op r c = mirroredCmd op r c)
    (hop : op ≠ .sliceReset ∧ op ≠ .sliceRemove) (hthawed : ∀ n inp dat c, good n inp dat c → thawed n c)
    (heff : ∀ n inp dat c, good n inp dat c → (mSlice (asked n inp dat)).1 = true → (mState (asked n inp dat) c unfrozen).1 = true →
      effect op (asked n inp dat) c = .ok (post n inp dat c, bd n inp dat c, out n inp dat c)) :
    Mirrors row op good post bd out := by
  refine mirrors_of hrow hbody (fun n inp dat c hgood => ?_) fun r c _ h => h.1.elim hop.1 hop.2
  obtain ⟨hslice, hstate⟩ := thawed_checks (r := asked n inp dat) rfl (hthawed n inp dat c hgood)
  exact heff n inp dat c hgood hslice hstate

/-- An effect behind checks of which all but the last are known to pass. -/
theorem eff_last {r : MReq} {l : List (Bool × Status)} {b : Bool} {st : Status} {c : Cx} {k : Cx × List Byte × List Byte}
    (h : ∀ e ∈ l, e.1 = true) : eff r (l ++ [(b, st)]) c k = if b then .ok k else .error (st, c) := by
  have hpass : firstFail (l ++ [(b, st)]) = firstFail [(b, st)] := by
    simp only [firstFail, List.find?_append, Option.map_eq_none_iff.mp (firstFail_none.mpr h), Option.none_or]
  unfold eff
  rw [hpass]
  cases b <;> rfl

/-- A mirrored command whose effect fails answers its status. -/
theorem mirroredCmd_fails {op : MOp} {r : Req} {c c1 : Cx} {st : Status}
    (h : effect op (asked r.q.scope r.inp (dataOf op r c)) c = .error (st, c1)) : mirroredCmd op r c = .fail st c1 [] := by
  unfold asked at h
  simp only [mirroredCmd, h]

/-- A mode byte that is this row's own already stays. -/
theorem ownMode_own {r : Req} {off mode : Nat} {valid : List Nat} (h : leAt r.inp off 1 = mode) : ownMode r off mode valid = r := by
  unfold ownMode
  split
  · next hoff =>
    obtain ⟨-, hoff⟩ := hoff
    have hbyte : byteOf mode = r.inp[off] := by
      have hmode : mode = r.inp[off].toNat := by simpa [leAt, hoff] using h.symm
      rw [hmode, byteOf, Nat.mod_eq_of_lt r.inp[off].isLt, BitVec.ofNat_toNat, BitVec.setWidth_eq]
    rw [hbyte, List.set_getElem_self]
  · rfl

/-! ## Parts of an LMK, and TR-34 tokens (R290, R293, R295) -/

/-- A check made of a TDES part alone. -/
theorem aesPart_or {part : Nat} {b : Bool} (hpart : part < 2) (h : part = 1 → b = true) : (part == 0 || b) = true := by
  by_cases h1 : part = 1
  · simp [h h1]
  · simp [show part = 0 by omega]

/-- A token that fails its verification, is not for an LMK or answers another random number gives no key, nor does one without a KRD or an
anchor. -/
theorem tokenKey_nil {v : TokenVerdict} {r : Req} {c : Cx}
    (h : v.ok = false ∨ v.usageOk = false ∨ v.random ≠ r.q.nonce ∨ (sliceOf c.d r.q.scope).per.krd = none ∨
      (sliceOf c.d r.q.scope).per.anchor = none) : tokenKey v r c = [] := by
  refine if_neg ?_
  rintro ⟨hok, husage, hrandom, hkrd, hanchor, -⟩
  rcases h with h | h | h | h | h <;> simp_all

/-- A part may be loaded where it is empty, a TDES part beside an AES part alone (R290). -/
theorem lmkRoom_passes {p : SliceRec} {g part : Nat} (hpart : part < 2) (hroom : lmkPart (lmkOf p g) part = none)
    (haes : part = 1 → (lmkOf p g).aes.isSome = true) : ∀ e ∈ lmkRoom p g part, e.1 = true := by
  simp [lmkRoom, hroom, aesPart_or hpart haes]

/-- With a well-formed input and room for the part, a load takes the key of its token, and is refused where the token gave none. -/
theorem lmkTr34Eff_of_room {n : Nat} {inp dat : List Byte} {c : Cx} (hslice : (mSlice (asked n inp dat)).1 = true)
    (hstate : (mState (asked n inp dat) c unfrozen).1 = true) (hmin : 5 ≤ inp.length) (hmax : inp.length ≤ 16388)
    (hg : leAt inp 0 1 < 4) (hpart : leAt inp 1 1 < 2) (hmode : leAt inp 2 1 < 2) (hzero : zeroFrom inp 3 4 = true)
    (hroom : lmkPart (lmkOf (sliceOf c.d n).per (leAt inp 0 1)) (leAt inp 1 1) = none)
    (haes : leAt inp 1 1 = 1 → (lmkOf (sliceOf c.d n).per (leAt inp 0 1)).aes.isSome = true) :
    lmkTr34Eff (asked n inp dat) c = if !dat.isEmpty then .ok (c.mod (modPer n (loadPart (leAt inp 0 1) (leAt inp 1 1) dat)), [], [])
      else .error (.token, c.mod (fun d => raise 0x3010 n (Config.freeNat (nextSeq d)) 0 d)) := by
  unfold lmkTr34Eff
  dsimp only
  rw [eff_last]
  · cases dat <;> rfl
  · rw [List.forall_mem_append]
    exact ⟨by simp [hslice, hstate, hmin, hmax, hg, hpart, hmode, hzero], lmkRoom_passes hpart hroom haes⟩

/-! ## The obligation -/

/-- Settles O50: each mirrored command's checks pass one by one, so that its effect is the one stated, and a token whose key is withheld
meets the last check of a load. -/
theorem masterKeysAndCurves : Obligations.MasterKeysAndCurves := by
  unfold Obligations.MasterKeysAndCurves
  refine ⟨?commit, ?activate, ?remove, ?tr34Load, ?krdInit, ?anchorSet, ?curveLoad, ?curveClear, ?refused⟩
  case commit =>
    refine mirrors_of_thawed exec_lmkCommit (fun _ _ _ => rfl) ⟨nofun, nofun⟩ (fun _ _ _ _ h => h.1) ?_
    rintro n inp dat c ⟨-, hlen, hg, hpart, hzero, htwo, hcount, hcheck, hhalves⟩ hslice hstate
    have hkeys : (leAt inp 1 1 == 0 || dat.take 8 != (dat.drop 8).take 8) = true :=
      aesPart_or hpart fun htdes => bne_iff_ne.mpr (hhalves htdes)
    show lmkCommitEff (asked n inp dat) c = _
    unfold lmkCommitEff
    dsimp only
    rw [eff_ok]
    · rfl
    · simp [hslice, hstate, hlen, hg, hpart, hzero, hcount ▸ htwo, hcount, hcheck, hkeys]
  case activate =>
    refine mirrors_of_thawed exec_lmkActivate (fun _ _ _ => rfl) ⟨nofun, nofun⟩ (fun _ _ _ _ h => h.1) ?_
    rintro n inp dat c ⟨-, hlen, hg, haes⟩ hslice hstate
    refine eff_ok (r := asked n inp dat) ?_
    simp [hslice, hstate, hlen, hg, haes]
  case remove =>
    refine mirrors_of_thawed exec_lmkRemove (fun _ _ _ => rfl) ⟨nofun, nofun⟩ (fun _ _ _ _ h => h.1) ?_
    rintro n inp dat c ⟨-, hlen, hg, hactive⟩ hslice hstate
    refine eff_ok (r := asked n inp dat) ?_
    simp [hslice, hstate, hlen, hg, hactive]
  case tr34Load =>
    intro v
    refine mirrors_of_thawed (exec_lmkTr34Load · v) (fun _ _ _ => rfl) ⟨nofun, nofun⟩ (fun _ _ _ _ h => h.1) ?_
    rintro n inp dat c ⟨-, hmin, hmax, hg, hpart, hmode, hzero, hroom, haes, hdat⟩ hslice hstate
    have hloads := lmkTr34Eff_of_room hslice hstate hmin hmax hg hpart hmode hzero hroom haes
    rwa [List.isEmpty_eq_false_iff.mpr hdat] at hloads
  case krdInit =>
    intro pub
    refine mirrors_of_thawed (exec_tr34KrdInit · pub) (fun _ _ _ => rfl) ⟨nofun, nofun⟩ (fun _ _ _ _ h => h.1) ?_
    rintro n _ dat c ⟨-, rfl⟩ hslice hstate
    refine eff_ok (r := asked n [] dat) ?_
    simp [hslice, hstate]
  case anchorSet =>
    refine mirrors_of_thawed (exec_tr34AnchorSet · true) (fun _ _ _ => rfl) ⟨nofun, nofun⟩ (fun _ _ _ _ h => h.1) ?_
    rintro n inp dat c ⟨-, hinp, hmax⟩ hslice hstate
    refine eff_ok (r := asked n inp dat) ?_
    simp [hslice, hstate, Nat.succ_le_of_lt (List.length_pos_iff.mpr hinp), hmax]
  case curveLoad =>
    refine mirrors_of_thawed (exec_curveLoad · .good) ?_ ⟨nofun, nofun⟩ (fun _ _ _ _ h => h.1) ?_
    · rintro r c ⟨-, -, -, hop, -⟩
      exact congrArg (mirroredCmd _ · c) (ownMode_own hop)
    rintro n inp dat c ⟨-, hlen, hg, hop, hmin, hmax, hzero, hbits, hmost, hbytes, hcof⟩ hslice hstate
    refine eff_ok (r := asked n inp dat) ?_
    simp [hslice, hstate, hlen, hg, hop, hmin, hmax, hzero, hbits, hmost, ← hbytes, hcof]
  case curveClear =>
    refine mirrors_of_thawed exec_curveClear ?_ ⟨nofun, nofun⟩ (fun _ _ _ _ h => h.1) ?_
    · rintro r c ⟨-, -, -, hop, -⟩
      exact congrArg (mirroredCmd _ · c) (ownMode_own hop)
    rintro n inp dat c ⟨-, hlen, hg, hop, hzero⟩ hslice hstate
    refine eff_ok (r := asked n inp dat) ?_
    simp [hslice, hstate, hlen, hg, hop, hzero]
  case refused =>
    intro v q s r c hadmits hthawed hmin hmax hg hpart hmode hzero hroom haes hfails
    obtain ⟨hslice, hstate⟩ := thawed_checks (r := asked r.q.scope r.inp []) rfl hthawed
    have htoken : effect (.lmkTr34Load v) (asked r.q.scope r.inp (tokenKey v r c)) c =
        .error (.token, c.mod (fun d => raise 0x3010 r.q.scope (Config.freeNat (nextSeq d)) 0 d)) := by
      rw [tokenKey_nil hfails]
      exact lmkTr34Eff_of_room hslice hstate hmin hmax hg hpart hmode hzero hroom haes
    exact answers_fail (exec_lmkTr34Load q v s) hadmits (mirroredCmd_fails htoken)

end Sys2Proof.Machine
end

section
/-! PROOF. What the random opcodes answer (O36): a draw gives the bytes at the drawn position or fails with the RNG, and the status is that
of the device the command began on. -/

namespace Sys2Proof.Machine

/-! ## The device as a command begins -/

@[simp] theorem begun_rng (s : State) (c : Ctx) : (begun s c).rng = s.dev.rng := by unfold begun modItem; split <;> rfl
@[simp] theorem begun_fen (s : State) (c : Ctx) : (begun s c).fen = s.dev.fen := by unfold begun modItem; split <;> rfl
@[simp] theorem begun_goose (s : State) (c : Ctx) : (begun s c).goose = s.dev.goose := by unfold begun modItem; split <;> rfl

/-- Which DRBGs serve is a matter of their state and their fences. -/
theorem instServes_same {d d' : Dev} (hr : d'.rng = d.rng) (hf : d'.fen = d.fen) : instServes d' = instServes d := by
  funext n
  simp only [instServes, hr, hf]

theorem rngServing_same {d d' : Dev} (hr : d'.rng = d.rng) (hf : d'.fen = d.fen) : rngServing d' = rngServing d := by
  simp only [rngServing, instServes_same hr hf, hr]

theorem rngForItems_begun (s : State) (c : Ctx) : rngForItems (begun s c) = rngForItems s.dev := by
  simp only [rngForItems, rngServing_same (begun_rng s c) (begun_fen s c), begun_goose]

theorem rngResult_begun (s : State) (c : Ctx) : rngResult (begun s c) = rngResult s.dev := by
  simp only [rngResult, rngState, srcIn, srcState, rngServing_same (begun_rng s c) (begun_fen s c),
    instServes_same (begun_rng s c) (begun_fen s c), begun_rng]

/-! ## Draws (R245, R250, R252) -/

theorem not_failed_of_rngServing {d : Dev} (h : rngServing d = true) : d.rng.failed = false := by
  simp only [rngServing, Bool.and_eq_true, Bool.not_eq_true'] at h
  obtain ⟨⟨hfailed, -⟩, -⟩ := h
  exact hfailed

theorem rngServing_of_rngForItems {d : Dev} (h : rngForItems d = true) : rngServing d = true := by
  simp only [rngForItems, Bool.and_eq_true] at h
  obtain ⟨hserving, -⟩ := h
  exact hserving

/-- An item that may draw gets the next bytes, which no later draw gets again. -/
theorem reads_random {n : Nat} {d : Dev} (hn : n ≠ 0) (h : rngForItems d = true) : Reads (random n) d (drawBytes n d) (draw n d) := by
  refine .bind (.get d) ?_
  rw [if_neg hn, not_failed_of_rngServing (rngServing_of_rngForItems h), h]
  exact .bind (.set d (draw n d)) (.pure _ _)

/-- A draw fails with the RNG. -/
theorem finishes_random_failed {n : Nat} {f : List Byte → M Act} {d : Dev} (hn : n ≠ 0) (h : d.rng.failed = true) :
    Finishes (random n >>= f) d (fails .rngFail) d := by
  refine run_bind_error ((run_get _ d).trans ?_)
  rw [if_neg hn, h]
  rfl

theorem draw_drawn (n : Nat) (d : Dev) : (draw n d).rng.drawn = d.rng.drawn + n := rfl

/-! ## The obligation -/

/-- Settles O36: behind the two checks a draw of at least one byte succeeds where items may draw and fails where the RNG has failed. -/
theorem randomCommands : Obligations.RandomCommands := by
  unfold Obligations.RandomCommands
  intro s r c
  refine ⟨?generate, ?status⟩
  case generate =>
    intro n hwork hfmt hmin hmax hlen
    have hn : n ≠ 0 := Nat.one_le_iff_ne_zero.mp hmin
    have hsize : (decide (1 ≤ n) && decide (n ≤ 65536) && inLenOk c 4 0 && outLenOk c n) = true := by
      rw [Bool.and_assoc, hlen, decide_eq_true hmin, decide_eq_true hmax]
      rfl
    refine ⟨fun hserves => ⟨?_, ?_⟩, fun hfailed => ?_⟩
    · have hdraw : Reads (random n) (begun s c) ((List.range n).map fun i => Config.randomByte (s.dev.rng.drawn + i)) (draw n (begun s c)) := by
        rw [← begun_rng s c]
        exact reads_random hn ((rngForItems_begun s c).trans hserves)
      exact txDoes_of_finishes (exec_randomGenerate r s) hwork <| .bind (.chk hfmt) <| .bind (.chk hsize) <| .bind hdraw <| .done _ _ _
    · rw [draw_drawn, begun_rng]
    · exact txDoes_of_finishes (exec_randomGenerate r s) hwork <| .bind (.chk hfmt) <| .bind (.chk hsize) <|
        finishes_random_failed hn (by rwa [begun_rng])
  case status =>
    intro hwork hfmt hlen
    rw [← rngResult_begun s c]
    exact txDoes_of_finishes (exec_rngStatus r s) hwork <| .bind (.chk hfmt) <| .bind (.chk hlen) <| .bind (.get _) <| .done _ _ _

end Sys2Proof.Machine
end

section
/-! PROOF. How the DRBGs live (O38): the next one is instantiated, a generate request steps the count that makes a reseed due and
stops the DRBG, and a raw-sample run leaves every seeded one waiting for a reseed. -/

namespace Sys2Proof.Machine

/-! ## Commands that change the device alone -/

theorem does_of_onDev {i : Instr} {f : Dev → Dev} {s : State} {d : Dev} (hrow : exec i s = onDev f s) (hf : f s.dev = d) : Does i s d := by
  rw [Does, hrow, ← hf, ← watch_const]
  rfl

theorem does_of_onUnit {i : Instr} {ok : Bool} {f : Dev → Dev} {s : State} {d : Dev} (hrow : exec i s = onUnit ok f s) (hok : ok = true)
    (hf : f s.dev = d) : Does i s d := does_of_onDev (hrow.trans (if_pos hok)) hf

theorem does_of_withCx {i : Instr} {s : State} {d : Dev} (hrow : exec i s = withCx s { d, f := s.fuse }) : Does i s d := hrow

/-! ## One DRBG (R245) -/

/-- A DRBG of the RNG; an absent entry is one never instantiated. -/
def instOf (d : Dev) (n : Nat) : Drbg := Tab.getD d.rng.inst n {}

theorem instOf_modInst (n : Nat) (f : Drbg → Drbg) (d : Dev) : instOf (modInst n f d) n = f (instOf d n) := by
  simp [instOf, modInst, Tab.upd]

/-! ## Instantiation (R247, R249) -/

/-- Every DRBG below the next one has been instantiated or is fenced. -/
theorem below_nextInstantiation {d : Dev} {n k : Nat} (h : nextInstantiation d = some n) (hk : k < n) :
    (instOf d k).seeded = true ∨ d.fen.drbg.getLsbD k = true := by
  have hpassed := (List.find?_range_eq_some.mp h).2.2 k hk
  simpa [instOf, Decidable.or_iff_not_imp_left] using hpassed

theorem keyStep_formed {c : Cx} (h : c.d.sys.ksk = true) : keyStep c = c := by
  simp [keyStep, awaitsKsk, h]

theorem does_instanceInstantiate {s : State} {d : Dev} (hksk : d.sys.ksk = true) (h : instantiate s.dev = d) :
    Does .instanceInstantiate s d := by
  refine does_of_withCx ?_
  rw [exec_instanceInstantiate, execInstanceInstantiate, State.cx, Cx.mod, h, keyStep_formed hksk]

theorem instantiate_next {d : Dev} {n : Nat} (halive : alive d = true) (hfailed : d.rng.failed = false) (hraw : d.rng.raw = none)
    (hkat : d.rng.kat = true) (hqueue : 4 ≤ d.rng.queue) (hnext : nextInstantiation d = some n) :
    instantiate d = modInst n (fun _ => { seeded := true }) (modRng (fun r => { r with queue := r.queue - 4 }) d) := by
  simp [instantiate, halive, hfailed, hraw, hkat, Nat.not_lt.mpr hqueue, hnext]

theorem instantiate_waits {d : Dev} (h : d.rng.kat = false ∨ d.rng.queue < 4 ∨ nextInstantiation d = none) : instantiate d = d := by
  rcases h with h | h | h <;> simp [instantiate, h]

/-! ## Generate requests and reseeds (R245, R248) -/

/-- A DRBG after generate requests: it stops at 1,048,576 since its last reseed. -/
def counted (times : Nat) (i : Drbg) : Drbg :=
  { i with gens := i.gens + times, stopped := i.stopped || decide (1048576 ≤ i.gens + times) }

theorem stopped_counted {times : Nat} {i : Drbg} (h : 1048576 ≤ i.gens + times) : (counted times i).stopped = true := by
  simp [counted, h]

/-- Of the RNG, generate requests change the one DRBG, and the reseeds due where its count comes to 4,096. -/
theorem generate_rng (n times : Nat) (d : Dev) :
    (generate n times d).rng = { d.rng with
      inst := (modInst n (counted times) d).rng.inst
      due := if 4096 ≤ (instOf d n).gens + times ∧ n ∉ d.rng.due then d.rng.due ++ [n] else d.rng.due } := by
  have hcount : Tab.getD d.rng.inst n {} = instOf d n := rfl
  simp only [generate, hcount, apply_ite Dev.rng, raise_rng, ite_self, modInst, List.contains_eq_mem, Bool.not_eq_true',
    decide_eq_false_iff_not]
  split <;> rfl

theorem instOf_generate (n times : Nat) (d : Dev) : instOf (generate n times d) n = counted times (instOf d n) := by
  rw [instOf, generate_rng]
  exact instOf_modInst n (counted times) d

theorem mem_due_generate {n times : Nat} {d : Dev} (h : 4096 ≤ (instOf d n).gens + times) : n ∈ (generate n times d).rng.due := by
  rw [generate_rng]
  by_cases hdue : n ∈ d.rng.due <;> simp [h, hdue]

theorem does_drbgGenerate {s : State} {n : Nat} (halive : alive s.dev = true) (hn : n < 16) (hrng : rngServing s.dev = true)
    (hinst : instServes s.dev n = true) :
    Does (.drbgGenerate n) s (generate n 1 (modInst n (fun i => { i with buffer := 4096 }) s.dev)) :=
  does_of_onUnit (exec_drbgGenerate n s) (decide_eq_true hn) (by simp [halive, hrng, hinst])

theorem does_reseedDue {s : State} {n : Nat} (halive : alive s.dev = true) (hn : n < 16) (hseeded : (instOf s.dev n).seeded = true)
    (hdue : n ∉ s.dev.rng.due) : Does (.reseedDue n) s (modRng (fun r => { r with due := r.due ++ [n] }) s.dev) :=
  does_of_onUnit (exec_reseedDue n s) (decide_eq_true hn) (by rw [instOf] at hseeded; simp [halive, hseeded, hdue])

/-! ## Raw-sample runs (R255, R256) -/

/-- Every entry of a table changed by one function. -/
theorem Tab.find_map {α : Type} (f : α → α) (k : Nat) : ∀ t : Tab α, Tab.find (t.map fun e => (e.1, f e.2)) k = (Tab.find t k).map f
  | [] => rfl
  | (j, v) :: t => by
    simp only [List.map_cons, Tab.find]
    split
    · rfl
    · exact Tab.find_map f k t

/-- What the end of a raw-sample run makes of a DRBG: a seeded one serves no more until its reseed. -/
def rested (i : Drbg) : Drbg := if i.seeded then { i with stopped := true } else i

theorem stopped_rested {i : Drbg} (h : i.seeded = true) : (rested i).stopped = true := by
  simp [rested, h]

theorem instOf_endRaw (run : RawRun) (d : Dev) (n : Nat) : instOf (endRaw run d) n = rested (instOf d n) := by
  have hinst : (endRaw run d).rng.inst = d.rng.inst.map fun e => (e.1, rested e.2) := by simp [endRaw, modRng, rested]
  rw [instOf, hinst, Tab.getD, Tab.find_map, instOf, Tab.getD]
  cases Tab.find d.rng.inst n <;> rfl

theorem endRaw_raw (run : RawRun) (d : Dev) : (endRaw run d).rng.raw = none := by simp [endRaw, modRng]

theorem mem_due_endRaw (run : RawRun) {d : Dev} {n : Nat} (hn : n < 16) (h : (instOf d n).seeded = true) : n ∈ (endRaw run d).rng.due := by
  rw [instOf] at h
  by_cases hdue : n ∈ d.rng.due <;> simp [endRaw, modRng, hdue, hn, h]

theorem does_rawSampleRunEnd {s : State} {run : RawRun} (fails : Nat) (halive : alive s.dev = true) (hraw : s.dev.rng.raw = some run) :
    Does (.rawSampleRunEnd fails) s (answer run.mailbox .ok (leBytes 4 fails)
      ((List.range (rawLen run.mode)).map (Config.rawByte run.source)) false (nextSeq s.dev) (endRaw run s.dev)) :=
  does_of_onDev (exec_rawSampleRunEnd fails s) (by simp [hraw, halive])

/-! ## The obligation -/

/-- Settles O38: each command by what it makes of the device, and the counts, dues and stops of one DRBG by the laws above. -/
theorem drbgInstances : Obligations.DrbgInstances := by
  unfold Obligations.DrbgInstances
  intro s halive
  refine ⟨?instantiate, ?generate, ?due, ?reseed, ?rawEnd⟩
  case instantiate =>
    intro n hfailed hraw hksk
    constructor
    · intro hkat hqueue hnext
      exact ⟨fun k hk => below_nextInstantiation hnext hk,
        does_instanceInstantiate hksk (instantiate_next halive hfailed hraw hkat hqueue hnext)⟩
    · intro hwaits
      exact (does_instanceInstantiate hksk (instantiate_waits hwaits)).next rfl
  case generate =>
    intro n hn hrng hinst
    have hdoes := does_drbgGenerate halive hn hrng hinst
    have hrefilled := instOf_modInst n (fun i => { i with buffer := 4096 }) s.dev
    have hcounted := instOf_generate n 1 (modInst n (fun i => { i with buffer := 4096 }) s.dev)
    rw [hrefilled] at hcounted
    refine ⟨hdoes, _, hdoes, ?_⟩
    rw [watch_rng]
    refine ⟨congrArg Drbg.buffer hcounted, congrArg Drbg.gens hcounted, fun hgens => mem_due_generate ?_, fun hgens => ?_⟩
    · rw [hrefilled]
      exact Nat.succ_le_succ hgens
    · refine (congrArg Drbg.stopped hcounted).trans ?_
      exact stopped_counted (Nat.succ_le_succ hgens)
  case due =>
    intro n hn hseeded hdue
    exact does_reseedDue halive hn hseeded hdue
  case reseed =>
    intro n rest hfailed hraw hnext hqueue hdue
    refine does_of_onDev (exec_reseedComplete s) ?_
    simp [halive, hfailed, hraw, hnext, Nat.not_lt.mpr hqueue, hdue, modRng]
  case rawEnd =>
    intro run fails op q hraw _
    refine ⟨does_rawSampleRunEnd fails halive hraw, endRaw_raw run s.dev, fun n hn hseeded => ⟨mem_due_endRaw run hn hseeded, ?_⟩⟩
    exact (congrArg Drbg.stopped (instOf_endRaw run s.dev n)).trans (stopped_rested hseeded)

end Sys2Proof.Machine
end

section
/-! PROOF. What the device requests answer (O44): each passes or fails its checks in their order, and what is left is a value, a wait or one
change of the device. -/

namespace Sys2Proof.Machine

/-! ## Bodies behind their checks (R268) -/

@[simp] theorem behind_nil (c : Cx) (k : BRes) : behind [] c k = k := rfl

@[simp] theorem behind_pass (st : Status) (l : List (Bool × Status)) (c : Cx) (k : BRes) : behind ((true, st) :: l) c k = behind l c k := rfl

@[simp] theorem behind_stop (st : Status) (l : List (Bool × Status)) (c : Cx) (k : BRes) :
    behind ((false, st) :: l) c k = .fail st c [] := rfl

/-- An input of the length its command defines. -/
theorem len_passes {r : Req} {n : Nat} (h : r.inp.length = n) : len r n = (true, .format) := by simp [len, h]

theorem len_empty {r : Req} (h : r.inp = []) : len r 0 = (true, .format) := len_passes (congrArg List.length h)

theorem rsv_passes {r : Req} {lo hi : Nat} (h : zeroFrom r.inp lo hi = true) : rsv r lo hi = (true, .format) := by rw [rsv, h]

theorem outCap_passes {r : Req} {n : Nat} (h : n ≤ r.q.outCap) : outCap r n = (true, .length) := by simp [outCap, h]

/-! ## The CP's random supply (R250, R252) -/

section
variable {c : Cx} (k : BRes)

theorem withRandom_failed (h : c.d.rng.failed = true) : withRandom c k = .fail .rngFail c [] := by simp [withRandom, h]

theorem withRandom_waits (hfailed : c.d.rng.failed = false) (hserving : rngServing c.d = false) : withRandom c k = .wait .rng c := by
  simp [withRandom, hfailed, hserving]

theorem withRandom_serves (h : rngServing c.d = true) : withRandom c k = k := by simp [withRandom, not_failed_of_rngServing h, h]

end

/-! ## Time (R286) -/

/-- A time below 2^63 leaves the bit that marks an unset epoch clear. -/
theorem bitAt_of_lt_two_pow {v i : Nat} (h : v < 2 ^ i) : bitAt v i = false := by simp [bitAt, Nat.div_eq_of_lt h]

section
variable {r : Req} {c : Cx} (hlen : r.inp.length = 8)
include hlen

theorem timeSetCmd_sets {d : Dev} (htime : r.f 0 8 < 2 ^ 63) (hrole : c.d.pair.state = .paired → c.d.pair.role ≠ .secondary)
    (hd : (if c.d.pair.state = .paired then strait (.control (.setTime (r.f 0 8))) (setTime (r.f 0 8) c.d)
      else setTime (r.f 0 8) c.d) = d) :
    timeSetCmd r c = .done { c with d } [] [] := by
  have hprimary : (!(c.d.pair.state == .paired && c.d.pair.role == .secondary)) = true := by
    simpa [imp_iff_not_or] using hrole
  simp only [timeSetCmd, len_passes hlen, bitAt_of_lt_two_pow htime, hprimary, Bool.not_false, behind_pass, behind_nil, Cx.mod, hd]

theorem timeSetCmd_secondary (htime : r.f 0 8 < 2 ^ 63) (hstate : c.d.pair.state = .paired) (hrole : c.d.pair.role = .secondary) :
    timeSetCmd r c = .fail .pairRole c [] := by
  simp [timeSetCmd, len_passes hlen, bitAt_of_lt_two_pow htime, hstate, hrole]

theorem timeSetCmd_reserved (h : bitAt (r.f 0 8) 63 = true) : timeSetCmd r c = .fail .format c [] := by
  simp [timeSetCmd, len_passes hlen, h]

end

/-! ## Nonces (R272, R275, R276) -/

theorem nonceGetCmd_eq {r : Req} {c : Cx} (hinp : r.inp = []) :
    nonceGetCmd r c = withRandom c (
      if 256 ≤ r.m then
        .done { c with d := modHif (fun h => { h with
          spdm := Tab.upd h.spdm (r.m - 256) {} (fun x => { x with nonce := some (drawBytes 32 c.d) }) }) (cpDraw 32 c.d) }
          (drawBytes 32 c.d ++ leBytes 4 0) []
      else
        .done { c with d := modBox r.m (fun b => { b with nonce := some (drawBytes 32 c.d) }) (cpDraw 32 c.d) }
          (drawBytes 32 c.d ++ leBytes 4 (mailboxOf c.d r.m).qseq) []) := by
  rw [nonceGetCmd, len_empty hinp]
  rfl

/-! ## The IDE policy (R287) -/

section
variable {r : Req} {c : Cx} (hlen : r.inp.length = 4)
include hlen

theorem hifPolicyCmd_sets (h : r.f 0 4 = 0 ∨ (r.f 0 4 = 1 ∧ r.q.ide = true)) :
    hifPolicyCmd r c = .done (c.mod (modHif (fun h => { h with ideRequired := r.f 0 4 == 1 }))) (leBytes 4 (r.f 0 4)) [] := by
  rcases h with hoff | ⟨hon, hide⟩
  · simp [hifPolicyCmd, len_passes hlen, hoff]
  · simp [hifPolicyCmd, len_passes hlen, hon, hide]

theorem hifPolicyCmd_plain (hon : r.f 0 4 = 1) (hide : r.q.ide = false) : hifPolicyCmd r c = .fail .policy c [] := by
  simp [hifPolicyCmd, len_passes hlen, hon, hide]

theorem hifPolicyCmd_reserved (h : 1 < r.f 0 4) : hifPolicyCmd r c = .fail .format c [] := by
  simp [hifPolicyCmd, len_passes hlen, Nat.not_le.mpr h]

end

/-! ## Known-answer tests (R254, R288) -/

/-- Two words share a bit where the product of their bits is 1. -/
theorem bitAt_and_bitAt (a b i : Nat) : (bitAt a i && bitAt b i) = (a / 2 ^ i % 2 * (b / 2 ^ i % 2) == 1) := by
  rw [Bool.eq_iff_iff]
  simp [bitAt]

section
variable {r : Req} {c : Cx} {fails : Nat} (hlen : r.inp.length = 4)
include hlen

theorem rngSelfTestCmd_reserved (h : 3 < r.f 0 4) : rngSelfTestCmd fails r c = .fail .format c [] := by
  simp [rngSelfTestCmd, len_passes hlen, Nat.not_le.mpr h]

/-- The first set that fails decides, and the second counts only behind the first. -/
theorem rngSelfTestCmd_runs {sets bad : Nat} (h : r.f 0 4 ≤ 3) (hsets : (if r.f 0 4 = 0 then 3 else r.f 0 4) = sets)
    (hbad : (if sets % 2 * (fails % 2) = 1 then 1 else if sets / 2 * (fails / 2 % 2) = 1 then 2 else 0) = bad) :
    rngSelfTestCmd fails r c = if bad = 0 then .done c (leBytes 4 sets) []
      else .fail .rngTest (c.mod fun d => failRng (raise 0x6006 0xFFFF bad 0 d)) (leBytes 4 bad) := by
  have hsecond : sets / 2 % 2 = sets / 2 := by
    have hlt : sets < 4 := by split at hsets <;> omega
    exact Nat.mod_eq_of_lt (Nat.div_lt_of_lt_mul hlt)
  simp only [rngSelfTestCmd, len_passes hlen, h, decide_true, behind_pass, behind_nil, bitAt_and_bitAt, beq_iff_eq, pow_zero, pow_one,
    Nat.div_one, hsets, hsecond, hbad]

end

/-! ## Raw samples (R255, R256) -/

section
variable {r : Req} {c : Cx} (hlen : r.inp.length = 4)
include hlen

theorem rngRawCmd_reserved (h : 6 ≤ r.f 0 1 ∨ 1 < r.f 1 1) : rngRawCmd r c = .fail .format c [] := by
  have hrange : (decide (r.f 0 1 < 6) && decide (r.f 1 1 ≤ 1)) = false := by
    simpa [Decidable.imp_iff_not_or] using h
  simp only [rngRawCmd, len_passes hlen, hrange, behind_pass, behind_stop]

theorem rngRawCmd_runs (hzero : zeroFrom r.inp 2 4 = true) (hsrc : r.f 0 1 < 6) (hmode : r.f 1 1 ≤ 1)
    (hcap : rawLen (r.f 1 1) ≤ r.q.outCap) :
    rngRawCmd r c = if c.d.rng.raw.isSome then .wait .raw c
      else .wait .raw (c.mod fun d => raise 0x6004 (r.f 0 1) (r.f 0 1) (r.f 1 1)
        (modRng (fun g => { g with raw := some { mailbox := r.m, source := r.f 0 1, mode := r.f 1 1 } }) d)) := by
  simp only [rngRawCmd, len_passes hlen, rsv_passes hzero, outCap_passes hcap, hsrc, hmode, decide_true, Bool.and_self, behind_pass,
    behind_nil]

end

/-! ## The obligation -/

/-- Settles O44: each body behind its checks by its own equation above, and each of its three answers by what it comes to. -/
theorem deviceRequests : Obligations.DeviceRequests := by
  unfold Obligations.DeviceRequests
  intro q s r c
  refine ⟨?devInfo, ?devReset, ?timeSet, ?timeReserved, ?nonceGet, ?policy, ?selfTest, ?selfTestReserved, ?rawReserved, ?rawSample⟩
  case devInfo =>
    intro h hinp
    refine answers_done (exec_devInfo q s) h ?_ (Nat.zero_le _)
    show devInfoCmd r c = _
    rw [devInfoCmd, len_empty hinp]
    rfl
  case devReset =>
    intro h hinp
    refine answers_done (exec_devReset q s) h ?_ (Nat.zero_le _)
    show devResetCmd r c = _
    rw [devResetCmd, len_empty hinp]
    rfl
  case timeSet =>
    intro h hlen htime set
    refine ⟨fun hstate => ?_, fun hstate hrole => ?_, fun hstate hrole => ?_⟩
    · exact answers_done (exec_timeSet q s) h (timeSetCmd_sets hlen htime (fun hp => absurd hp hstate) (if_neg hstate)) (Nat.zero_le _)
    · exact answers_done (exec_timeSet q s) h (timeSetCmd_sets hlen htime (fun _ => hrole) (if_pos hstate)) (Nat.zero_le _)
    · exact answers_fail (exec_timeSet q s) h (timeSetCmd_secondary hlen htime hstate hrole)
  case timeReserved =>
    intro h hlen hbit
    exact answers_fail (exec_timeSet q s) h (timeSetCmd_reserved hlen hbit)
  case nonceGet =>
    intro h hinp
    have hbody : body .nonceGet r c = _ := nonceGetCmd_eq hinp
    refine ⟨fun hfailed => ?_, fun hfailed hserving => ?_, fun hserving hm => ?_, fun hserving hm => ?_⟩
    · exact answers_fail (exec_nonceGet q s) h (hbody.trans (withRandom_failed _ hfailed))
    · exact waits_of (exec_nonceGet q s) h (hbody.trans (withRandom_waits _ hfailed hserving))
    · exact answers_done (exec_nonceGet q s) h (hbody.trans ((withRandom_serves _ hserving).trans (if_neg (Nat.not_le.mpr hm)))) (Nat.zero_le _)
    · exact answers_done (exec_nonceGet q s) h (hbody.trans ((withRandom_serves _ hserving).trans (if_pos hm))) (Nat.zero_le _)
  case policy =>
    intro h hlen
    refine ⟨fun hset => ?_, fun hon hide => ?_, fun hv => ?_⟩
    · exact answers_done (exec_hifPolicySet q s) h (hifPolicyCmd_sets hlen hset) (Nat.zero_le _)
    · exact answers_fail (exec_hifPolicySet q s) h (hifPolicyCmd_plain hlen hon hide)
    · exact answers_fail (exec_hifPolicySet q s) h (hifPolicyCmd_reserved hlen hv)
  case selfTest =>
    intro fails h hlen hv sets
    refine ⟨fun hfirst hsecond => ?_, fun hfirst => ?_, fun hfirst hsecond => ?_⟩
    · refine answers_done (exec_rngSelfTest q fails s) h (rngSelfTestCmd_runs (sets := sets) (bad := 0) hlen hv rfl ?_) (Nat.zero_le _)
      rw [hfirst, hsecond]
      rfl
    · refine answers_fail (exec_rngSelfTest q fails s) h (rngSelfTestCmd_runs (sets := sets) (bad := 1) hlen hv rfl ?_)
      rw [if_pos hfirst]
    · refine answers_fail (exec_rngSelfTest q fails s) h (rngSelfTestCmd_runs (sets := sets) (bad := 2) hlen hv rfl ?_)
      rw [hfirst, hsecond]
      rfl
  case selfTestReserved =>
    intro fails h hlen hv
    exact answers_fail (exec_rngSelfTest q fails s) h (rngSelfTestCmd_reserved hlen hv)
  case rawReserved =>
    intro h hlen hrange
    exact answers_fail (exec_rngRawSample q s) h (rngRawCmd_reserved hlen hrange)
  case rawSample =>
    intro h hlen hzero hsrc hmode hcap
    have hbody : body .rngRawSample r c = _ := rngRawCmd_runs hlen hzero hsrc hmode hcap
    exact ⟨fun hunder => waits_of (exec_rngRawSample q s) h (hbody.trans (if_pos hunder)),
      fun hnone => waits_of (exec_rngRawSample q s) h (hbody.trans (if_neg (by simp [hnone])))⟩

end Sys2Proof.Machine
end

section
/-! PROOF. The life of a slice through the mailboxes (O48): each mirrored command's checks pass one by one, so that its effect is the one
stated, and its step has that effect at its commit. -/

namespace Sys2Proof.Machine

/-! ## Mirrored commands outside the slices that serve (R282, R298) -/

@[simp] theorem asked_mSlice (n : Nat) (inp dat : List Byte) : (mSlice (asked n inp dat)).1 = decide (n < 4096) := rfl
@[simp] theorem asked_mrsv (n lo hi : Nat) (inp dat : List Byte) : (mrsv (asked n inp dat) lo hi).1 = zeroFrom inp lo hi := rfl
@[simp] theorem asked_mState (n : Nat) (inp dat : List Byte) (c : Cx) (l : List SliceState) :
    (mState (asked n inp dat) c l).1 = l.contains (sliceOf c.d n).state := rfl

/-- A mirrored command that waits for no completion record is what its effect comes to. -/
theorem mirrors_of_effect {row : MbReq → Instr} {op : MOp} {good : Nat → List Byte → List Byte → Cx → Prop}
    {post : Nat → List Byte → List Byte → Cx → Cx} {bd out : Nat → List Byte → List Byte → Cx → List Byte}
    (hrow : ∀ q s, exec (row q) s = runMgmt op q s)
    (hbody : ∀ r c, good r.q.scope r.inp (dataOf op r c) c → body op r c = mirroredCmd op r c)
    (hop : op ≠ .sliceReset ∧ op ≠ .sliceRemove)
    (heff : ∀ n inp dat c, good n inp dat c →
      effect op (asked n inp dat) c = .ok (post n inp dat c, bd n inp dat c, out n inp dat c)) :
    Mirrors row op good post bd out :=
  mirrors_of hrow hbody heff fun _ _ _ h => h.1.elim hop.1 hop.2

/-- A reset or a removal that finds nothing in flight is what its effect comes to (R308, R309). -/
theorem mirrors_of_drained {row : MbReq → Instr} {op : MOp} {good : Nat → List Byte → List Byte → Cx → Prop}
    {post : Nat → List Byte → List Byte → Cx → Cx} {bd out : Nat → List Byte → List Byte → Cx → List Byte}
    (hrow : ∀ q s, exec (row q) s = runMgmt op q s)
    (hbody : ∀ r c, good r.q.scope r.inp (dataOf op r c) c → body op r c = mirroredCmd op r c)
    (hdrained : ∀ n inp dat c, good n inp dat c → inflight (sliceOf c.d n) = 0)
    (heff : ∀ n inp dat c, good n inp dat c →
      effect op (asked n inp dat) c = .ok (post n inp dat c, bd n inp dat c, out n inp dat c)) :
    Mirrors row op good post bd out :=
  mirrors_of hrow hbody heff fun _ _ hgood h => h.2 (hdrained _ _ _ _ hgood)

/-! ## The obligation -/

/-- Settles O48: each mirrored command's checks pass one by one, so that its effect is the one stated; a reset and a removal find nothing
in flight. -/
theorem slicesAreMirrored : Obligations.SlicesAreMirrored := by
  unfold Obligations.SlicesAreMirrored
  refine ⟨?create, ?bind, ?ringSetup, ?activate, ?slicePolicy, ?tenantPolicy, ?reset, ?remove, ?restore⟩
  case create =>
    refine mirrors_of_effect exec_sliceCreate (fun _ _ _ => rfl) ⟨nofun, nofun⟩ ?_
    rintro n inp dat c ⟨hn, hlen, hzero, hpasid, hquota, hfew, hmany, hguar, hnone, hsmall, hbig, hwithin, hflags, hfree, htaken, hflows,
      hcache⟩
    refine eff_ok (r := asked n inp dat) ?_
    dsimp +instances only [asked_f]
    generalize (if bitAt (leAt inp 16 1) 1 then leAt inp 8 4 else orDefault (leAt inp 8 4) 16) = guar at *
    have hflag : (!bitAt (leAt inp 16 1) 1 || guar == 0) = true := by simpa [imp_iff_not_or] using hnone
    simp [hn, hlen, hzero, hpasid, hquota, hfew, hmany, hguar, hflag, hsmall, hbig, hwithin, hflags, hfree, htaken, hflows, hcache]
  case bind =>
    refine mirrors_of_effect exec_sliceBind (fun _ _ _ => rfl) ⟨nofun, nofun⟩ ?_
    rintro n inp dat c ⟨hn, hlen, hpasid, htaken, hstate⟩
    refine eff_ok (r := asked n inp dat) ?_
    simp [hn, hlen, hpasid, htaken, hstate]
  case ringSetup =>
    refine mirrors_of_effect exec_sliceRingSetup (fun _ _ _ => rfl) ⟨nofun, nofun⟩ ?_
    rintro n inp dat c ⟨hn, hlen, hzero, hring, hlog, hsq, hcq, hnone, hfits, hbound⟩
    refine eff_ok (r := asked n inp dat) ?_
    by_cases h0 : leAt inp 1 1 = 0
    · simp [hn, hlen, hzero, hring, hbound, h0, hnone h0]
    · simp [-Nat.reducePow, hn, hlen, hzero, hring, hbound, h0, hlog.resolve_left h0, hsq, hcq, hfits h0]
  case activate =>
    refine mirrors_of_effect exec_sliceActivate (fun _ _ _ => rfl) ⟨nofun, nofun⟩ ?_
    rintro n _ dat c ⟨hn, rfl, hbound, hrings⟩
    refine eff_ok (r := asked n [] dat) ?_
    simp [hn, hbound, hrings]
  case slicePolicy =>
    refine mirrors_of_thawed exec_slicePolicySet (fun _ _ _ => rfl) ⟨nofun, nofun⟩ (fun _ _ _ _ h => h.1) ?_
    rintro n inp dat c ⟨-, hlen, hflag, hfew, hmany⟩ hslice hstate
    refine eff_ok (r := asked n inp dat) ?_
    simp [hslice, hstate, hlen, hflag, hfew, hmany]
  case tenantPolicy =>
    refine mirrors_of_thawed exec_tenantPolicySet (fun _ _ _ => rfl) ⟨nofun, nofun⟩ (fun _ _ _ _ h => h.1) ?_
    rintro n inp dat c ⟨-, hlen, hbits⟩ hslice hstate
    refine eff_ok (r := asked n inp dat) ?_
    simp [hslice, hstate, hlen, hbits]
  case reset =>
    refine mirrors_of_drained exec_sliceReset (fun _ _ _ => rfl) (fun _ _ _ _ ⟨_, _, hdrained, _⟩ => hdrained) ?_
    rintro n _ dat c ⟨hn, rfl, -, hstate⟩
    refine eff_ok (r := asked n [] dat) ?_
    rcases hstate with hstate | hstate | ⟨hstate, hsound⟩
    · simp [hn, hstate]
    · simp [hn, hstate]
    · simp [hn, hstate, hsound]
  case remove =>
    refine mirrors_of_drained exec_sliceRemove (fun _ _ _ => rfl) (fun _ _ _ _ ⟨_, _, hdrained, _⟩ => hdrained) ?_
    rintro n _ dat c ⟨hn, rfl, -, hstate⟩
    refine eff_ok (r := asked n [] dat) ?_
    simp [hn, hstate]
  case restore =>
    intro image
    refine mirrors_of_effect (exec_sliceRestore · image true) (fun _ _ _ => rfl) ⟨nofun, nofun⟩ ?_
    rintro n inp dat c ⟨k, e, p, flows, hn, hform, hserial, hkey, himage, hpasid, htaken, hquota, hflows, hcache, hfree⟩
    refine eff_ok (r := asked n inp dat) ?_
    replace hform : imageFormOk (asked n inp dat) = true := hform
    simp [hn, hform, hserial, hkey, himage, hpasid, htaken, hquota, hflows, hcache, hfree]

end Sys2Proof.Machine
end

section
/-! PROOF. Officer sets through the mailboxes (O46): the checks of an enrolment, a removal and a new quorum pass one by one, and the set that
each leaves is the one stated. -/

namespace Sys2Proof.Machine

/-! ## Commands on the set of an authority (R273, R279) -/

/-- A mirrored command of an authority that serves is what its effect comes to once the two checks of the authority have passed. -/
theorem mirrors_of_authOk {row : MbReq → Instr} {op : MOp} {good : Nat → List Byte → List Byte → Cx → Prop}
    {post : Nat → List Byte → List Byte → Cx → Cx} {bd out : Nat → List Byte → List Byte → Cx → List Byte}
    (hrow : ∀ q s, exec (row q) s = runMgmt op q s)
    (hbody : ∀ r c, good r.q.scope r.inp (dataOf op r c) c → body op r c = mirroredCmd op r c)
    (hop : op ≠ .sliceReset ∧ op ≠ .sliceRemove) (hauth : ∀ n inp dat c, good n inp dat c → authOk n c)
    (heff : ∀ n inp dat c, good n inp dat c → (mAuth (asked n inp dat)).1 = true → (mSetState (asked n inp dat) c).1 = true →
      effect op (asked n inp dat) c = .ok (post n inp dat c, bd n inp dat c, out n inp dat c)) :
    Mirrors row op good post bd out := by
  refine mirrors_of hrow hbody (fun n inp dat c hgood => ?_) fun r c _ h => h.1.elim hop.1 hop.2
  obtain ⟨hscope, hstate⟩ := authOk_checks (r := asked n inp dat) rfl (hauth n inp dat c hgood)
  exact heff n inp dat c hgood hscope hstate

/-- Keys that are all good give no failing status. -/
theorem keyStatus_good {v : List KeyVerdict} (h : ∀ x ∈ v, x = .good) : keyStatus v = none := by
  simpa [keyStatus] using h

/-! ## The obligation -/

/-- Settles O46: each command's checks pass one by one, so that its effect is the set stated, and the list is a value behind two checks. -/
theorem officerSets : Obligations.OfficerSets := by
  unfold Obligations.OfficerSets
  refine ⟨?enroll, ?remove, ?quorum, ?list⟩
  case enroll =>
    intro v
    refine mirrors_of_authOk (exec_officerEnroll · v) (fun _ _ _ => rfl) ⟨nofun, nofun⟩ (fun _ _ _ _ ⟨_, hauth, _⟩ => hauth) ?_
    rintro n inp dat c ⟨es, -, hlen, hzero, hsome, hmost, hparse, hrising, hkeys, hfresh, htwo, hk, hfirst⟩ hscope hstate
    have hmany := htwo.trans hk
    refine eff_ok (r := asked n inp dat) ?_
    dsimp +instances only [asked_f, asked_scope, asked_inp]
    generalize (if n = 0xFFFF then 16 else 8) = most at *
    rw [imp_iff_not_or] at hfirst
    simpa +instances [hscope, hstate, hlen, hzero, hsome, hmost, hparse, hrising, keyStatus_good hkeys, hmany, htwo, hk, hfirst] using hfresh
  case remove =>
    refine mirrors_of_authOk exec_officerRemove (fun _ _ _ => rfl) ⟨nofun, nofun⟩ (fun _ _ _ _ h => h.1) ?_
    rintro n inp dat c ⟨-, hlen, hzero, hnamed, htwo, hk⟩ hscope hstate
    have hmembers : ∀ i < 16, bitAt (leAt inp 0 2) i = false ∨ ∃ x ∈ (officersOf c.d n).members, x.index = i := by
      simpa [imp_iff_not_or] using hnamed
    refine eff_ok (r := asked n inp dat) ?_
    simpa [hscope, hstate, hlen, hzero, htwo, hk] using hmembers
  case quorum =>
    refine mirrors_of_authOk exec_quorumSet (fun _ _ _ => rfl) ⟨nofun, nofun⟩ (fun _ _ _ _ h => h.1) ?_
    rintro n inp dat c ⟨-, hlen, hzero, htwo, hk⟩ hscope hstate
    refine eff_ok (r := asked n inp dat) ?_
    simp [hscope, hstate, hlen, hzero, htwo, hk]
  case list =>
    intro q s r c hadmits hinp hscope o
    refine answers_done (exec_officerList q s) hadmits ?_ (Nat.zero_le _)
    show officerListCmd r c = _
    have hnamed : (decide (r.q.scope < 4096) || r.q.scope == 0xFFFF) = true := by simpa using hscope
    rw [officerListCmd, len_empty hinp, hnamed]
    rfl

end Sys2Proof.Machine
end

section
/-! PROOF. The checks of a request in their order (O43): each step of R268 behind the ones before it, and what a request that a check turns
away leaves as it was. -/

namespace Sys2Proof.Machine

/-! ## The header (R265, R268 step 1) -/

/-- Reserved fields are 0, and so is an address without a length. -/
def headerClean (q : MbReq) : Prop := q.rsv = 0 ∧ (q.inLen = 0 → q.inAddr = 0) ∧ (q.outCap = 0 → q.outAddr = 0)

/-- The lengths are in range. -/
def headerSized (q : MbReq) : Prop :=
  q.bodyLen ≤ 2000 ∧ q.inLen ≤ 65536 ∧ q.outCap ≤ 16777216 ∧ q.quorumLen ≤ q.bodyLen + q.inLen

section
variable {q : MbReq}

theorem scopeOk_iff : scopeOk q = true ↔ q.scope < 4096 ∨ q.scope = 0xFFFF := by simp [scopeOk]

theorem headerClean_iff : headerClean q ↔ ¬ (q.rsv ≠ 0 ∨ (q.inLen = 0 ∧ q.inAddr ≠ 0) ∨ (q.outCap = 0 ∧ q.outAddr ≠ 0)) := by
  unfold headerClean
  tauto

theorem headerCheck_unclean (h : ¬ headerClean q) : headerCheck q = some .format := if_pos (not_not.mp (mt headerClean_iff.mpr h))

theorem headerCheck_clean (h : headerClean q) : headerCheck q =
    if 2000 < q.bodyLen ∨ 65536 < q.inLen ∨ 16777216 < q.outCap ∨ q.bodyLen + q.inLen < q.quorumLen then some .length else none :=
  if_neg (headerClean_iff.mp h)

theorem headerCheck_oversized (h : headerClean q) (hs : ¬ headerSized q) : headerCheck q = some .length := by
  rw [headerCheck_clean h, if_pos]
  unfold headerSized at hs
  omega

theorem headerCheck_passes (h : headerClean q) (hs : headerSized q) : headerCheck q = none := by
  rw [headerCheck_clean h, if_neg]
  unfold headerSized at hs
  omega

end

/-! ## Steps 1 to 4 (R268, R269, R329) -/

/-- The request as the device serves it: its tag counts only where it lies behind the quorum block. -/
abbrev served (q : MbReq) : MbReq := (reqOf q).q

section
variable {op : MOp} {q : MbReq} {c : Cx}

theorem earlyCheck_format (h : ¬ (scopeOk q = true ∧ headerClean q)) : earlyCheck op (served q) c = some .format := by
  by_cases hscope : scopeOk q = true
  · have hheader : headerCheck (served q) = some .format := headerCheck_unclean fun hclean => h ⟨hscope, hclean⟩
    rw [earlyCheck, show scopeOk (served q) = true from hscope, hheader]
    rfl
  · rw [earlyCheck, show scopeOk (served q) = false from Bool.eq_false_iff.mpr hscope]
    rfl

theorem earlyCheck_length (hscope : scopeOk q = true) (hclean : headerClean q) (hsized : ¬ headerSized q) :
    earlyCheck op (served q) c = some .length := by
  have hheader : headerCheck (served q) = some .length := headerCheck_oversized hclean hsized
  rw [earlyCheck, show scopeOk (served q) = true from hscope, hheader]
  rfl

/-- A well-formed request meets the state of the device. -/
theorem earlyCheck_wellFormed (hscope : scopeOk q = true) (hclean : headerClean q) (hsized : headerSized q)
    (hcarry : q.quorumLen = 0 ∨ mayCarryQuorum op = true) : earlyCheck op (served q) c = stateCheck c op := by
  have hheader : headerCheck (served q) = none := headerCheck_passes hclean hsized
  have hcarry : (q.quorumLen == 0 || mayCarryQuorum op) = true := by simpa using hcarry
  rw [earlyCheck, show scopeOk (served q) = true from hscope, hheader,
    show ((served q).quorumLen == 0 || mayCarryQuorum op) = true from hcarry]
  rfl

theorem stateCheck_lifecycle (hlc : c.d.sys.lc = 2) (hinfo : op ≠ .devInfo) (hlog : op ≠ .logRead) :
    stateCheck c op = some .lifecycle := by
  have hinvalid : (c.d.sys.lc != 2 || op == .devInfo || op == .logRead) = false := by simp [hlc, hinfo, hlog]
  rw [stateCheck, hinvalid]
  rfl

section
variable (hlc : c.d.sys.lc ≠ 2)
include hlc

theorem stateCheck_locked (hlock : c.d.goose.lock = true) (hop : lockAllows op = false) : stateCheck c op = some .locked := by
  simp [stateCheck, firstFail, hlc, hlock, hop]

variable (hlock : c.d.goose.lock = false) (herase : c.d.goose.eraseBegun = false)
include hlock herase

theorem stateCheck_fault (hfault : devFault c.d = true) (hop : stopAllows op = false) : stateCheck c op = some .fault := by
  simp [stateCheck, firstFail, hlc, hlock, herase, hfault, hop]

theorem stateCheck_passes (hfault : devFault c.d = false) (hhalt : c.d.sys.haltCause ≠ 4) : stateCheck c op = none := by
  simp [stateCheck, firstFail, hlc, hlock, herase, hfault, hhalt]

end

/-! ## What serving a request comes to where a check fails (R268) -/

theorem serve_early {st : Status} (h : earlyCheck op (served q) c = some st) :
    serve op q c = (taken op q c).mod (answer q.mailbox st [] [] false (nextSeq c.d)) := by
  unfold serve
  simp only [show earlyCheck op { q with tagOk := q.tagOk && decide (q.quorumLen + 16 ≤ q.bodyLen + q.inLen) } c = some st from h]
  rfl

/-- The input cannot be fetched: its bit and record, and step 5 fails. -/
def inputLost (q : MbReq) (d : Dev) : Dev := raise 0x9012 0xFFFF q.mailbox 0 (hifError 1 0 q.inAddr d)

variable (hpass : earlyCheck op (served q) c = none)
include hpass

theorem serve_dmaFault (hlen : q.inLen ≠ 0) (hfail : q.dmaFail ≠ none) : serve op q c =
    ((taken op q c).mod (inputLost q)).mod (answer q.mailbox .dmaFault [] [] false (nextSeq c.d)) := by
  unfold serve
  simp only [show earlyCheck op { q with tagOk := q.tagOk && decide (q.quorumLen + 16 ≤ q.bodyLen + q.inLen) } c = none from hpass]
  rw [if_pos ⟨hlen, Option.isSome_iff_ne_none.mpr hfail⟩]
  rfl

theorem serve_unauthorised {c1 : Cx} {st : Status} {off : Nat} (hdma : q.inLen = 0 ∨ q.dmaFail = none)
    (h : authorise op (reqOf q) (taken op q c) = (c1, some st, off)) :
    serve op q c = c1.mod (answer q.mailbox st [] [] false (nextSeq c.d)) := by
  unfold serve
  simp only [show earlyCheck op { q with tagOk := q.tagOk && decide (q.quorumLen + 16 ≤ q.bodyLen + q.inLen) } c = none from hpass]
  rw [if_neg (by rcases hdma with hdma | hdma <;> simp [hdma])]
  erw [h]

end

/-! ## Steps 6 and 7 (R268, R275, R278) -/

/-- The context in which step 7 finds a request: the request itself is in service on its mailbox. -/
def stepSeven (op : MOp) (q : MbReq) (c : Cx) : Cx := c.mod (modBox q.mailbox (fun b => { b with cur := some (op, served q) }))

section
variable {op : MOp} {q : MbReq} {c : Cx} (hsession : q.session = 0)
include hsession

theorem authorise_sessionless (hcls : classOf c op q.scope = .session) (hnone : Tab.find c.d.mg.sessions 0 = none) :
    authorise op (reqOf q) c = (c, some .session, 0) := by
  have hcheck : ∀ any auth, sessionCheck any auth (reqOf q) c = (c, some .session, 0) := fun any auth => by
    simp only [sessionCheck, show Tab.find c.d.mg.sessions (reqOf q).q.session = none from hsession ▸ hnone]
  simp only [authorise, show classOf c op (reqOf q).q.scope = .session from hcls, or_true, if_true, hcheck]

theorem authorise_quorum (hcls : classOf c op q.scope = .quorum) {c1 : Cx} {st : Option Status}
    (h : quorumCheck false (authorityOf c op q.scope) (reqOf q) (stepSeven op q c) = (c1, st)) :
    authorise op (reqOf q) c = (c1, st, 0) := by
  have hstep : quorumStep op (reqOf q) (stepSeven op q c) = (c1, st) := by
    have hcls2 : classOf (stepSeven op q c) op (reqOf q).q.scope = .quorum := hcls
    unfold quorumStep
    split
    · cases hcls
    · rw [hcls2]
      exact h
  have hq : ¬ ((reqOf q).q.session ≠ 0 ∨ classOf c op (reqOf q).q.scope = .session) := by
    rw [show classOf c op (reqOf q).q.scope = .quorum from hcls, show (reqOf q).q.session = 0 from hsession]
    simp
  unfold authorise
  simp only [if_neg hq]
  erw [hstep]

end

section
variable {owner : Bool} {auth : Nat} {r : Req} {c : Cx}

theorem quorumCheck_nonce (h : nonceOk c.d r.m r.q = false) : quorumCheck owner auth r c = (c, some .nonce) := by
  simp [quorumCheck, h]

/-- A quorum request that too few Officers have signed: its nonce is used up, and the refusal recorded with those who did sign. -/
def refused (auth : Nat) (r : Req) (c : Cx) : Cx :=
  (c.mod (useNonce r.m true)).mod (raise 0x3002 auth ((mailboxOf c.d r.m).cur.elim 0 (fun e => opCode e.1))
    (if entriesOk (officersOf c.d auth) none r.q.quorum then verifiedMask r.q else 0))

theorem quorumCheck_refused (hnonce : nonceOk c.d r.m r.q = true) (hform : quorumFormOk r.q = true)
    (hfew : verifiedCount r.q < (officersOf c.d auth).k ∨ (officersOf c.d auth).k < 2) :
    quorumCheck false auth r c = (refused auth r c, some .quorum) := by
  have hshort : (entriesOk (officersOf c.d auth) none r.q.quorum && decide (2 ≤ (officersOf c.d auth).k)
      && decide ((officersOf c.d auth).k ≤ verifiedCount r.q)) = false := by
    rcases hfew with hfew | hfew <;> simp [Nat.not_le.mpr hfew]
  simp only [quorumCheck, hnonce, hform, hshort, Bool.not_true, Bool.false_eq_true, if_false]
  rfl

end

/-! ## A request that is turned away (R266, R268) -/

theorem hifError_only (bit slice addr : Nat) (d : Dev) : ∃ h o, hifError bit slice addr d = { d with hif := h, out := o } := by
  unfold hifError
  dsimp only
  split
  · exact ⟨_, _, rfl⟩
  · obtain ⟨h, o, hs⟩ := signal_only 9 _
    exact ⟨h, o, hs⟩

/-- Requests of a class under the rate limit are accepted or suppressed, never held (R406, R408). -/
theorem raise_held {code source p1 p2 : Nat} {d : Dev} (h : rateLimited code = true) :
    (raise code source p1 p2 d).log.held = d.log.held := by
  unfold raise
  dsimp only
  rw [if_pos h]
  split_ifs <;> rfl

/-- A request in service outside any session, on a device that is otherwise as it was. -/
structure Unanswered (s : State) (q : MbReq) (c : Cx) : Prop where
  cur : ∃ op r, (mailboxOf c.d q.mailbox).cur = some (op, r) ∧ r.session = 0
  held : c.d.log.held = []
  fuse : c.f = s.fuse
  slices : c.d.slices = s.dev.slices
  officers : c.d.mg.officers = s.dev.mg.officers
  store : c.d.store = s.dev.store
  fw : c.d.fw = s.dev.fw

namespace Unanswered

variable {s : State} {q : MbReq} {c : Cx}

/-- A record under the rate limit leaves the request as it is. -/
theorem raise (h : Unanswered s q c) {code : Nat} (source p1 p2 : Nat) (hcode : rateLimited code = true) :
    Unanswered s q (c.mod (raise code source p1 p2)) := by
  obtain ⟨hcur, hheld, hfuse, hslices, hofficers, hstore, hfw⟩ := h
  refine ⟨?_, ?_, hfuse, ?_, ?_, ?_, ?_⟩
  · rwa [Cx.mod_d, mailboxOf_same (raise_mg ..)]
  · rwa [Cx.mod_d, raise_held hcode]
  all_goals simpa

theorem hifError (h : Unanswered s q c) (bit slice addr : Nat) : Unanswered s q (c.mod (hifError bit slice addr)) := by
  obtain ⟨hcur, hheld, hfuse, hslices, hofficers, hstore, hfw⟩ := h
  obtain ⟨_, _, hd⟩ := hifError_only bit slice addr c.d
  exact ⟨by rwa [Cx.mod_d, hd], by rwa [Cx.mod_d, hd], hfuse, by rwa [Cx.mod_d, hd], by rwa [Cx.mod_d, hd], by rwa [Cx.mod_d, hd],
    by rwa [Cx.mod_d, hd]⟩

/-- A change of the mailbox that keeps a request outside any session in service. -/
theorem modBox (h : Unanswered s q c) {f : Mailbox → Mailbox}
    (hf : ∃ op r, (f (mailboxOf c.d q.mailbox)).cur = some (op, r) ∧ r.session = 0) : Unanswered s q (c.mod (modBox q.mailbox f)) := by
  obtain ⟨-, hheld, hfuse, hslices, hofficers, hstore, hfw⟩ := h
  exact ⟨by rwa [Cx.mod_d, mailboxOf_modBox], hheld, hfuse, hslices, hofficers, hstore, hfw⟩

end Unanswered

/-- A request alone, written to an IDLE mailbox of a device whose CP serves, with nothing held back by the recorder. -/
structure Fresh (q : MbReq) (s : State) : Prop where
  spdm : q.spdm = none
  mailbox : q.mailbox < 8
  session : q.session = 0
  bars : barsOpen s.dev = true
  boxes : boxesServe s.dev = true
  ide : s.dev.hif.ideRequired = false
  idle : (mailboxOf s.dev q.mailbox).state = .idle
  held : s.dev.log.held = []

/-- The context in which a mailbox takes a request up. -/
abbrev submitted (op : MOp) (q : MbReq) (s : State) : Cx := s.cx.mod (submitBox op q)

/-- Step 7 meets the nonce and the sequence that the mailbox had before the request. -/
theorem stepSeven_nonce (op : MOp) (q : MbReq) (s : State) :
    (mailboxOf (stepSeven op q (taken op q (submitted op q s))).d q.mailbox).nonce = (mailboxOf s.dev q.mailbox).nonce ∧
      (mailboxOf (stepSeven op q (taken op q (submitted op q s))).d q.mailbox).qseq = (mailboxOf s.dev q.mailbox).qseq := by
  simp [stepSeven, taken, submitBox, goBox]

theorem nonceOk_stepSeven (op : MOp) (q : MbReq) (s : State) :
    nonceOk (stepSeven op q (taken op q (submitted op q s))).d q.mailbox q = nonceOk s.dev q.mailbox q := by
  obtain ⟨hnonce, hqseq⟩ := stepSeven_nonce op q s
  rw [nonceOk, nonceOk, hnonce, hqseq]

namespace Fresh

variable {op : MOp} {q : MbReq} {s : State} (h : Fresh q s)
include h

theorem unanswered_taken : Unanswered s q (taken op q (submitted op q s)) where
  cur := ⟨op, { served q with session := 0 }, by rw [taken, Cx.mod_d, mailboxOf_modBox]; rfl, rfl⟩
  held := h.held
  fuse := rfl
  slices := rfl
  officers := rfl
  store := rfl
  fw := rfl

theorem unanswered_stepSeven : Unanswered s q (stepSeven op q (taken op q (submitted op q s))) :=
  h.unanswered_taken.modBox ⟨op, served q, rfl, h.session⟩

/-- A request that is served by a status alone is turned away, with the nonce and the sequence that its checks have left. -/
theorem turnsAway {c : Cx} {st : Status} {before : Nat} (hc : Unanswered s q c)
    (hserve : serve op q (submitted op q s) = c.mod (answer q.mailbox st [] [] false before)) :
    ∃ t, TurnsAway (rowOf op q) s q.mailbox st t ∧ (mailboxOf t.dev q.mailbox).nonce = (mailboxOf c.d q.mailbox).nonce ∧
      (mailboxOf t.dev q.mailbox).qseq = (mailboxOf c.d q.mailbox).qseq := by
  obtain ⟨⟨op', r, hcur, hsession⟩, hheld, hfuse, hslices, hofficers, hstore, hfw⟩ := hc
  refine turned_away _ s _ st c op' r before (by have := h.mailbox; omega) ?_ hcur hsession hheld hfuse hslices hofficers hstore hfw
  rw [exec_idle op q s h.spdm h.mailbox h.bars h.boxes h.ide h.idle, hserve]

theorem turnsAway_early {st : Status} (hcheck : earlyCheck op (served q) (submitted op q s) = some st) :
    ∃ t, TurnsAway (rowOf op q) s q.mailbox st t :=
  (h.turnsAway h.unanswered_taken (serve_early hcheck)).imp fun _ ht => ht.1

theorem turnsAway_dmaFault (hcheck : earlyCheck op (served q) (submitted op q s) = none) (hlen : q.inLen ≠ 0) (hfail : q.dmaFail ≠ none) :
    ∃ t, TurnsAway (rowOf op q) s q.mailbox .dmaFault t :=
  have hlost : Unanswered s q ((taken op q (submitted op q s)).mod (inputLost q)) :=
    (h.unanswered_taken.hifError 1 0 q.inAddr).raise 0xFFFF q.mailbox 0 rfl
  (h.turnsAway hlost (serve_dmaFault hcheck hlen hfail)).imp fun _ ht => ht.1

section
variable (hcheck : earlyCheck op (served q) (submitted op q s) = none) (hdma : q.inLen = 0 ∨ q.dmaFail = none)
include hcheck hdma

theorem turnsAway_sessionless (hcls : classOf s.cx op q.scope = .session) (hnone : Tab.find s.dev.mg.sessions 0 = none) :
    ∃ t, TurnsAway (rowOf op q) s q.mailbox .session t :=
  (h.turnsAway h.unanswered_taken (serve_unauthorised hcheck hdma (authorise_sessionless h.session hcls hnone))).imp fun _ ht => ht.1

variable (hcls : classOf s.cx op q.scope = .quorum)
include hcls

theorem turnsAway_nonce (hnonce : nonceOk s.dev q.mailbox q = false) : ∃ t, TurnsAway (rowOf op q) s q.mailbox .nonce t := by
  have hstale : nonceOk (stepSeven op q (taken op q (submitted op q s))).d (reqOf q).m (reqOf q).q = false :=
    (nonceOk_stepSeven op q s).trans hnonce
  have hserve := serve_unauthorised hcheck hdma
    (authorise_quorum (c := taken op q (submitted op q s)) h.session hcls (quorumCheck_nonce hstale))
  exact (h.turnsAway h.unanswered_stepSeven hserve).imp fun _ ht => ht.1

/-- A request of the quorum class whose nonce passes has used it up, though too few have signed it (R275). -/
theorem turnsAway_quorum (hnonce : nonceOk s.dev q.mailbox q = true) (hform : quorumFormOk q = true)
    (hfew : verifiedCount q < (officersOf s.dev (authorityOf s.cx op q.scope)).k ∨ (officersOf s.dev (authorityOf s.cx op q.scope)).k < 2) :
    ∃ t, TurnsAway (rowOf op q) s q.mailbox .quorum t ∧ (mailboxOf t.dev q.mailbox).nonce = none ∧
      (mailboxOf t.dev q.mailbox).qseq = ((mailboxOf s.dev q.mailbox).qseq + 1) % 2 ^ 32 := by
  have hfresh : nonceOk (stepSeven op q (taken op q (submitted op q s))).d (reqOf q).m (reqOf q).q = true :=
    (nonceOk_stepSeven op q s).trans hnonce
  have hserve := serve_unauthorised hcheck hdma
    (authorise_quorum (c := taken op q (submitted op q s)) h.session hcls (quorumCheck_refused hfresh hform hfew))
  have hused : Unanswered s q ((stepSeven op q (taken op q (submitted op q s))).mod (useNonce q.mailbox true)) :=
    h.unanswered_stepSeven.modBox h.unanswered_stepSeven.cur
  obtain ⟨t, ht, htnonce, htqseq⟩ := h.turnsAway (hused.raise _ _ _ rfl) hserve
  obtain ⟨-, hqseq⟩ := stepSeven_nonce op q s
  refine ⟨t, ht, ?_, ?_⟩
  · rw [htnonce, Cx.mod_d, mailboxOf_same (raise_mg ..), Cx.mod_d, useNonce, mailboxOf_modBox]
  · rw [htqseq, Cx.mod_d, mailboxOf_same (raise_mg ..), Cx.mod_d, useNonce, mailboxOf_modBox, if_pos rfl, hqseq]

end

end Fresh

/-! ## The obligation -/

/-- Settles O43: each step's failing check answers with what the steps before it have left, and from step 5 on the checks of the header and
of the device's state are known to pass. -/
theorem requestsAreChecked : Obligations.RequestsAreChecked := by
  unfold Obligations.RequestsAreChecked
  intro op q s hspdm hmailbox hsession hbars hboxes hide hidle hheld away named clean sized
  have h : Fresh q s := ⟨hspdm, hmailbox, hsession, hbars, hboxes, hide, hidle, hheld⟩
  refine ⟨fun hbad => ?_, fun hnamed hclean hlong => ?_, fun hnamed hclean hsized hcarry => ⟨fun hlc hinfo hlog => ?_,
    fun hlc hlock hop => ?_, fun hlc hlock herase hfault hop => ?_, fun hlc hlock herase hfault hhalt => ⟨fun hlen hfail => ?_,
    fun hdma => ⟨fun hcls hnone => ?_, fun hcls => ⟨fun hnonce => ?_, fun hnonce hform hfew => ?_⟩⟩⟩⟩⟩
  · exact h.turnsAway_early (earlyCheck_format (by rwa [scopeOk_iff]))
  · exact h.turnsAway_early (earlyCheck_length (scopeOk_iff.mpr hnamed) hclean hlong)
  all_goals
    have hstate : earlyCheck op (served q) (submitted op q s) = stateCheck s.cx op :=
      earlyCheck_wellFormed (scopeOk_iff.mpr hnamed) hclean hsized hcarry
  · exact h.turnsAway_early (hstate.trans (stateCheck_lifecycle hlc hinfo hlog))
  · exact h.turnsAway_early (hstate.trans (stateCheck_locked hlc hlock hop))
  · exact h.turnsAway_early (hstate.trans (stateCheck_fault hlc hlock herase hfault hop))
  all_goals replace hstate := hstate.trans (stateCheck_passes hlc hlock herase hfault hhalt)
  · exact h.turnsAway_dmaFault hstate hlen hfail
  · exact h.turnsAway_sessionless hstate hdma hcls hnone
  · exact h.turnsAway_nonce hstate hdma hcls hnonce
  · exact h.turnsAway_quorum hstate hdma hcls hnonce hform hfew

end Sys2Proof.Machine
end

section
/-! PROOF. The control processor reset alone (O22): what its restart loses and what it leaves, and the answer that every request in service
gets once it runs again. -/

namespace Sys2Proof.Machine

/-! ## Tables -/

theorem Tab.del_eq_filter {α : Type} (k : Nat) : ∀ t : Tab α, Tab.del t k = t.filter (fun e => e.1 != k)
  | [] => rfl
  | (j, v) :: t => by
    by_cases hj : j = k <;> simp [Tab.del, hj, Tab.del_eq_filter k t]

/-- Removing an absent entry changes nothing. -/
theorem Tab.del_absent {α : Type} {k : Nat} {t : Tab α} (h : Tab.find t k = none) : Tab.del t k = t := by
  rw [Tab.del_eq_filter, List.filter_eq_self]
  intro e he
  by_contra hk
  obtain ⟨v, hv⟩ := Tab.find_of_mem he
  simp_all

theorem Tab.foldl_del {α : Type} (ks : List Nat) : ∀ t : Tab α, ks.foldl Tab.del t = t.filter (fun e => !ks.contains e.1) := by
  induction ks with
  | nil => intro t; simp
  | cons k ks ih =>
    intro t
    rw [List.foldl_cons, ih, Tab.del_eq_filter, List.filter_filter]
    simp [Bool.and_comm, bne, beq_eq_decide]

/-- A table of which every key is removed is empty. -/
theorem Tab.foldl_del_keys {α : Type} (t : Tab α) : (t.map (·.1)).foldl Tab.del t = [] := by
  rw [Tab.foldl_del, List.filter_eq_nil_iff]
  intro e he
  simpa using ⟨e.2, he⟩

/-- An entry of a table whose values have all changed; an absent one stands for a value that does not change. -/
theorem Tab.getD_map {α : Type} {f : α → α} {d : α} (hd : f d = d) (t : Tab α) (k : Nat) :
    Tab.getD (t.map fun e => (e.1, f e.2)) k d = f (Tab.getD t k d) := by
  rw [Tab.getD, Tab.getD, Tab.find_map]
  cases Tab.find t k
  · exact hd.symm
  · rfl

/-! ## What a restart of the CP loses (R264, R330) -/

/-- A mailbox as the CP leaves it when it goes down: no nonce, the sequence at 0, and nothing waited for. -/
def boxDown (b : Mailbox) : Mailbox := { b with nonce := none, qseq := 0, wait := .none }

/-- A slice as the CP leaves it when it goes down: no component staged, and a drain that answers no mailbox. -/
def sliceDown (x : Slice) : Slice := { x with staged := [], drain := x.drain.map (fun dr => { dr with mailboxes := [] }) }

/-- A session that ends leaves its table, and a record may follow. -/
theorem endSession_only (id : Nat) (d : Dev) :
    ∃ l, endSession id d = { d with mg := { d.mg with sessions := Tab.del d.mg.sessions id }, log := l } := by
  unfold endSession
  split
  · next hnone => exact ⟨d.log, by rw [Tab.del_absent hnone]⟩
  · obtain ⟨l, hl⟩ := raise_only 0x3005 _ _ 0 { d with mg := { d.mg with sessions := Tab.del d.mg.sessions id } }
    exact ⟨l, hl⟩

theorem foldl_endSession_only (ks : List Nat) : ∀ d : Dev,
    ∃ l, ks.foldl (fun d k => endSession k d) d = { d with mg := { d.mg with sessions := ks.foldl Tab.del d.mg.sessions }, log := l } := by
  induction ks with
  | nil => exact fun d => ⟨d.log, rfl⟩
  | cons k ks ih =>
    intro d
    obtain ⟨l, hl⟩ := endSession_only k d
    obtain ⟨l', hl'⟩ := ih (endSession k d)
    exact ⟨l', by rw [List.foldl_cons, hl', hl]; rfl⟩

theorem foldl_orphanSteps_steps (ms : List Nat) : ∀ d : Dev,
    ∃ st, ms.foldl (fun d m => orphanSteps m d) d = { d with pair := { d.pair with steps := st } } := by
  induction ms with
  | nil => exact fun d => ⟨_, rfl⟩
  | cons m ms ih =>
    intro d
    obtain ⟨st, hst⟩ := ih (orphanSteps m d)
    exact ⟨st, hst⟩

/-- What goes with the CP once its sessions have ended. -/
def cpForgets (d : Dev) : Dev :=
  let d1 := clearStaged { d with mg := { d.mg with
    migration := []
    boxes := d.mg.boxes.map fun e => (e.1, boxDown e.2) } }
  let d2 := (d1.mg.boxes.map (·.1)).foldl (fun d m => orphanSteps m d) d1
  { d2 with
    slices := d2.slices.map fun e => (e.1, { e.2 with drain := e.2.drain.map fun dr => { dr with mailboxes := [] } })
    pair := { d2.pair with cmd := none }
    hif := { d2.hif with spdm := d2.hif.spdm.map fun e => (e.1, { e.2 with nonce := none, bound := none }) } }

/-- A raw-sample run that is under way ends. -/
def rawEnded (d : Dev) : Dev :=
  match d.rng.raw with
  | some run => endRaw run d
  | none => d

theorem loseCp_eq (d : Dev) : loseCp d = rawEnded (cpForgets ((d.mg.sessions.map (·.1)).foldl (fun d k => endSession k d) d)) := rfl

theorem cpForgets_only (d : Dev) : ∃ st h, cpForgets d = { d with
    mg := { d.mg with migration := [], boxes := d.mg.boxes.map fun e => (e.1, boxDown e.2) }
    slices := d.slices.map fun e => (e.1, sliceDown e.2)
    pair := { d.pair with steps := st, cmd := none }
    hif := h } := by
  unfold cpForgets
  dsimp only
  obtain ⟨st, hsteps⟩ := foldl_orphanSteps_steps _ _
  rw [hsteps]
  exact ⟨st, _, by simp only [clearStaged, List.map_map]; rfl⟩

theorem rawEnded_only (d : Dev) : ∃ g l, rawEnded d = { d with rng := g, log := l } ∧ g.raw = none := by
  unfold rawEnded
  split
  · next run _ =>
    obtain ⟨g, l, h⟩ := endRaw_only run d
    exact ⟨g, l, h, by have hraw := endRaw_raw run d; rwa [h] at hraw⟩
  · next hnone => exact ⟨d.rng, d.log, rfl, hnone⟩

/-- The whole of what a restart of the CP loses: its sessions, migration keys and raw-sample run, what its mailboxes and slices had of it, and
beside that changes of the steps, the host interface and the recorder alone. -/
theorem loseCp_only (d : Dev) : ∃ st h g l, loseCp d = { d with
    mg := { d.mg with sessions := [], migration := [], boxes := d.mg.boxes.map fun e => (e.1, boxDown e.2) }
    slices := d.slices.map fun e => (e.1, sliceDown e.2)
    pair := { d.pair with steps := st, cmd := none }
    hif := h, rng := g, log := l } ∧ g.raw = none := by
  obtain ⟨l, hsessions⟩ := foldl_endSession_only (d.mg.sessions.map (·.1)) d
  rw [Tab.foldl_del_keys] at hsessions
  obtain ⟨st, h, hforgets⟩ := cpForgets_only ((d.mg.sessions.map (·.1)).foldl (fun d k => endSession k d) d)
  obtain ⟨g, l', hraw, hnone⟩ := rawEnded_only (cpForgets ((d.mg.sessions.map (·.1)).foldl (fun d k => endSession k d) d))
  refine ⟨st, h, g, l', ?_, hnone⟩
  rw [loseCp_eq, hraw, hforgets, hsessions]

theorem mailboxOf_loseCp (d : Dev) (m : Nat) : mailboxOf (loseCp d) m = boxDown (mailboxOf d m) := by
  obtain ⟨_, _, _, _, h, -⟩ := loseCp_only d
  rw [h]
  exact Tab.getD_map rfl d.mg.boxes m

theorem sliceOf_loseCp (d : Dev) (n : Nat) : sliceOf (loseCp d) n = sliceDown (sliceOf d n) := by
  obtain ⟨_, _, _, _, h, -⟩ := loseCp_only d
  rw [h]
  exact Tab.getD_map rfl d.slices n

/-! ## The reset (R330) -/

/-- The resets of the CP within the last second. -/
def recentResets (d : Dev) : List Nat := d.sys.cpResets.filter (fun t => decide (d.sys.uptime < t + 1000000000))

/-- The device as the CP is reset, its record raised and `CP_RESET` set. -/
def cpGoesDown (code : Nat) (d : Dev) : Dev :=
  setFault 1 { raise code 0xFFFF 0 0 d with sys := { (raise code 0xFFFF 0 0 d).sys with
    cpUp := false, cpRestart := true, cpActivation := false, cpResets := d.sys.uptime :: recentResets d } }

section
variable (code : Nat) (d : Dev)

theorem cpGoesDown_sys : (cpGoesDown code d).sys = { d.sys with
    cpUp := false, cpRestart := true, cpActivation := false, cpResets := d.sys.uptime :: recentResets d
    faultStatus := d.sys.faultStatus ||| 2 } := by simp [cpGoesDown, setFault]

@[simp] theorem cpGoesDown_slices : (cpGoesDown code d).slices = d.slices := by simp [cpGoesDown]
@[simp] theorem cpGoesDown_sched : (cpGoesDown code d).sched = d.sched := by simp [cpGoesDown]
@[simp] theorem cpGoesDown_keys : (cpGoesDown code d).keys = d.keys := by simp [cpGoesDown]
@[simp] theorem cpGoesDown_mg : (cpGoesDown code d).mg = d.mg := by simp [cpGoesDown]
@[simp] theorem cpGoesDown_pair : (cpGoesDown code d).pair = d.pair := by simp [cpGoesDown]

end

/-- What a reset of the CP alone leaves: the CP down and owing its answers, what it kept for itself gone, and the rest as it was. -/
def CpDown (s t : State) : Prop :=
  t.fuse = s.fuse ∧ t.dev.sys.cpUp = false ∧ t.dev.sys.cpRestart = true ∧
    t.dev.sys.faultStatus = s.dev.sys.faultStatus ||| 2 ∧ t.dev.mg.sessions = [] ∧ t.dev.mg.migration = [] ∧ t.dev.rng.raw = none ∧
    t.dev.sched = s.dev.sched ∧ t.dev.keys = s.dev.keys ∧ t.dev.mg.officers = s.dev.mg.officers ∧ t.dev.pair.state = s.dev.pair.state ∧
    (∀ m, (mailboxOf t.dev m).qseq = 0 ∧ (mailboxOf t.dev m).nonce = none ∧
      (mailboxOf t.dev m).state = (mailboxOf s.dev m).state) ∧
    ∀ n, (sliceOf t.dev n).staged = [] ∧ (sliceOf t.dev n).per = (sliceOf s.dev n).per

section
variable {i : Instr} {code : Nat} {s : State} (hrow : exec i s = onDev (cpReset (some code)) s) (hup : s.dev.sys.cpUp = true)
  (hfault : devFault s.dev = false)
include hrow hup hfault

theorem cpReset_down (hfew : (recentResets s.dev).length < 2) : ∃ t, exec i s = .next t ∧ CpDown s t := by
  have hreset : cpReset (some code) s.dev = loseCp (cpGoesDown code s.dev) := by
    unfold cpReset
    rw [hup, hfault]
    exact if_neg (Nat.not_le.mpr hfew)
  obtain ⟨st, h, g, l, hlose, hraw⟩ := loseCp_only (cpGoesDown code s.dev)
  refine ⟨_, hrow, rfl, ?_, ?_, ?_, ?_, ?_, ?_, ?_, ?_, ?_, ?_, fun m => ?box, fun n => ?slice⟩
  case box =>
    have hbox : mailboxOf (cpGoesDown code s.dev) m = mailboxOf s.dev m := mailboxOf_same (by simp) m
    rw [mailboxOf_same (watch_mg _ _), hreset, mailboxOf_loseCp, hbox]
    exact ⟨rfl, rfl, rfl⟩
  case slice =>
    have hslice : sliceOf (cpGoesDown code s.dev) n = sliceOf s.dev n := by simp [sliceOf]
    rw [sliceOf_watch, hreset, sliceOf_loseCp, hslice]
    exact ⟨rfl, rfl⟩
  all_goals simp [hreset, hlose, hraw, cpGoesDown_sys]

/-- The third reset within a second stops the device. -/
theorem cpReset_stops (hmany : 2 ≤ (recentResets s.dev).length) : Does i s (setFault 5 (raise 0x5009 0xFFFF 0 0 s.dev)) := by
  refine does_of_onDev hrow ?_
  unfold cpReset
  rw [hup, hfault]
  exact (if_pos hmany).trans (faultStop_first 0 hfault)

end

/-! ## The answers once the CP runs again (R264, R266) -/

theorem mailboxOf_writeResponse {m : Nat} (r : Resp) (d : Dev) (hm : m < 256) : mailboxOf (writeResponse m r d) m =
    { mailboxOf d m with state := .done, cur := none, wait := .none
                         response := Mem.writeAll [] 0 (respHeader (mailboxOf d m).qseq r r.body.length ++ r.body) } := by
  unfold writeResponse
  dsimp only
  rw [if_neg (Nat.not_le.mpr hm)]
  split
  · rw [mailboxOf_same (signal_mg ..), mailboxOf_modBox]
  · rw [mailboxOf_modBox]

theorem mailboxOf_writeResponse_ne {m k : Nat} (r : Resp) (d : Dev) (hk : k ≠ m) : mailboxOf (writeResponse m r d) k = mailboxOf d k := by
  unfold writeResponse
  dsimp only
  split
  · exact mailboxOf_modBox_ne _ d hk
  · split
    · rw [mailboxOf_same (signal_mg ..), mailboxOf_modBox_ne _ d hk]
    · exact mailboxOf_modBox_ne _ d hk

theorem writeResponse_log (m : Nat) (r : Resp) (d : Dev) : (writeResponse m r d).log = d.log := by
  unfold writeResponse
  dsimp only
  split
  · rfl
  · split
    · rw [signal_log]; rfl
    · rfl

/-- A mailbox is DONE with a response of a status. -/
structure Responded (st : Status) (b : Mailbox) : Prop where
  state : b.state = .done
  response : ∃ rest, b.response = Mem.writeAll [] 0 (leBytes 2 st.code ++ rest)

/-- From `d` to `e` the request of mailbox `m` is answered with a status; no other mailbox changes, and the recorder holds nothing back. -/
structure BoxAnswered (st : Status) (m : Nat) (d e : Dev) : Prop where
  responded : m < 256 → Responded st (mailboxOf e m)
  abandoned : m < 256 → (mailboxOf e m).abandoned = (mailboxOf d m).abandoned
  others : ∀ k, k ≠ m → mailboxOf e k = mailboxOf d k
  held : e.log.held = []

theorem answers_writeResponse {m : Nat} (r : Resp) {d : Dev} (o : List Out) (hheld : d.log.held = []) :
    BoxAnswered r.status m d (writeResponse m r { d with out := o }) := by
  refine ⟨fun hm => ?_, fun hm => by rw [mailboxOf_writeResponse r _ hm]; rfl, fun k hk => mailboxOf_writeResponse_ne r _ hk,
    by rw [writeResponse_log]; exact hheld⟩
  rw [mailboxOf_writeResponse r _ hm]
  exact ⟨rfl, _, by simp only [respHeader, List.append_assoc]; rfl⟩

/-- The response is written at once, since the recorder holds nothing back. -/
theorem answers_respond {m : Nat} {st : Status} {r : Resp} {out : List Byte} {outAddr session : Nat} {d : Dev} (hst : r.status = st)
    (hheld : d.log.held = []) : BoxAnswered st m d (respond m r out outAddr session d) := by
  have delivered : ∀ b : List Byte, ∃ o, (if b.isEmpty then d else emit (.mailboxData outAddr b) d) = { d with out := o } := by
    intro b
    split
    · exact ⟨_, rfl⟩
    · exact ⟨_, rfl⟩
  have written : ∀ {e : Dev} {r2 : Resp}, (∃ o, e = { d with out := o }) → r2.status = st → BoxAnswered st m d
      (if e.log.held.isEmpty then writeResponse m r2 e else modBox m (fun b => { b with wait := .record r2 }) e) := by
    rintro e r2 ⟨o, rfl⟩ hr
    rw [if_pos (by simp [hheld]), ← hr]
    exact answers_writeResponse r2 o hheld
  unfold respond
  dsimp only
  split <;> exact written (delivered _) hst

namespace BoxAnswered

variable {st : Status} {m : Nat} {d e f : Dev}

/-- What follows the answer without touching a mailbox or holding a record back. -/
theorem then_same (h : BoxAnswered st m d e) (hbox : f.mg.boxes = e.mg.boxes) (hheld : f.log.held = e.log.held) :
    BoxAnswered st m d f := by
  have hsame : ∀ k, mailboxOf f k = mailboxOf e k := fun k => by rw [mailboxOf, hbox]; rfl
  exact ⟨fun hm => hsame m ▸ h.responded hm, fun hm => hsame m ▸ h.abandoned hm, fun k hk => (hsame k).trans (h.others k hk),
    hheld.trans h.held⟩

end BoxAnswered

/-- The answer to a request in service; the end of its session, if it ends one, is an entry less and a record that is never held. -/
theorem answers_answer {m : Nat} {st : Status} {body : List Byte} {before : Nat} {d : Dev}
    (hcur : (mailboxOf d m).cur.isSome = true) (hheld : d.log.held = []) :
    BoxAnswered st m d (answer m st body [] false before d) := by
  obtain ⟨⟨op, q⟩, hcur⟩ := Option.isSome_iff_exists.mp hcur
  have responded : ∀ r : Resp, r.status = st → BoxAnswered st m d (respond m r [] q.outAddr q.session d) :=
    fun _ hst => answers_respond hst hheld
  unfold answer
  simp only [hcur]
  split
  · exact responded _ rfl
  · split
    · exact (responded _ rfl).then_same rfl rfl
    · split
      · exact (responded _ rfl).then_same (by rw [raise_mg]) (raise_held rfl)
      · exact responded _ rfl

theorem answers_answerRaw {m : Nat} {st : Status} {d : Dev} (hheld : d.log.held = []) : BoxAnswered st m d (answerRaw m st d) := by
  unfold answerRaw
  exact answers_respond rfl hheld

/-- A request left BUSY by a restart that ends no activation: ABANDONED, and answered `ST_CP_RESTART`. -/
theorem answerAbandoned_busy {c : Cx} {m : Nat} {d : Dev} (hm : m < 256) (hact : d.sys.cpActivation = false)
    (hbusy : (mailboxOf d m).state = .busy) (hheld : d.log.held = []) :
    BoxAnswered .cpRestart m (modBox m (fun b => { b with abandoned := true }) d) (answerAbandoned c m d) := by
  unfold answerAbandoned
  dsimp only
  rw [if_neg (not_not.mpr hbusy), if_neg (Nat.not_le.mpr hm), if_neg (by simp [hact])]
  split
  · next hcur => exact answers_answer (by rwa [mailboxOf_modBox]) hheld
  · exact answers_answerRaw hheld

/-- A mailbox whose abandoned request is answered (R264). -/
structure Abandoned (b : Mailbox) : Prop where
  responded : Responded .cpRestart b
  abandoned : b.abandoned = true

theorem answerAbandoned_idle {c : Cx} {m : Nat} {d : Dev} (h : (mailboxOf d m).state ≠ .busy) : answerAbandoned c m d = d := if_pos h

/-- The answer to one mailbox leaves the others and the recorder as they are. -/
theorem answerAbandoned_others {c : Cx} {m : Nat} {d : Dev} (hact : d.sys.cpActivation = false) (hheld : d.log.held = []) :
    (∀ k, k ≠ m → mailboxOf (answerAbandoned c m d) k = mailboxOf d k) ∧ (answerAbandoned c m d).log.held = [] := by
  by_cases hbusy : (mailboxOf d m).state = .busy
  · by_cases hm : m < 256
    · have h := answerAbandoned_busy (c := c) hm hact hbusy hheld
      exact ⟨fun k hk => (h.others k hk).trans (mailboxOf_modBox_ne _ d hk), h.held⟩
    · have hspdm : answerAbandoned c m d = modBox m (fun b => { b with state := .idle, cur := none, wait := .none }) d := by
        unfold answerAbandoned
        dsimp only
        rw [if_neg (not_not.mpr hbusy), if_pos (Nat.not_lt.mp hm)]
      rw [hspdm]
      exact ⟨fun k hk => mailboxOf_modBox_ne _ d hk, hheld⟩
  · rw [answerAbandoned_idle hbusy]
    exact ⟨fun _ _ => rfl, hheld⟩

theorem answerAbandoned_abandoned {c : Cx} {m : Nat} {d : Dev} (hm : m < 256) (hact : d.sys.cpActivation = false)
    (hbusy : (mailboxOf d m).state = .busy) (hheld : d.log.held = []) : Abandoned (mailboxOf (answerAbandoned c m d) m) := by
  have h := answerAbandoned_busy (c := c) hm hact hbusy hheld
  exact ⟨h.responded hm, by rw [h.abandoned hm, mailboxOf_modBox]⟩

/-- Over all mailboxes: one that is BUSY is answered in its turn, and what is answered stays. -/
theorem foldl_answerAbandoned {c : Cx} {m : Nat} (hm : m < 256) (ms : List Nat) :
    ∀ d : Dev, d.sys.cpActivation = false → d.log.held = [] →
    Abandoned (mailboxOf d m) ∨ ((mailboxOf d m).state = .busy ∧ m ∈ ms) →
    Abandoned (mailboxOf (ms.foldl (fun d m => answerAbandoned c m d) d) m) := by
  induction ms with
  | nil => exact fun d _ _ h => h.resolve_right (by simp)
  | cons k ms ih =>
    intro d hact hheld h
    obtain ⟨hothers, hheld'⟩ := answerAbandoned_others (c := c) (m := k) hact hheld
    refine ih (answerAbandoned c k d) ((congrArg Sys.cpActivation (replies_answerAbandoned c k d).sys).trans hact) hheld' ?_
    by_cases hk : m = k
    · subst hk
      rcases h with h | ⟨hbusy, -⟩
      · rw [answerAbandoned_idle (by simp [h.responded.state])]
        exact .inl h
      · exact .inl (answerAbandoned_abandoned hm hact hbusy hheld)
    · rw [hothers m hk]
      exact h.imp_right fun ⟨hbusy, hmem⟩ => ⟨hbusy, (List.mem_cons.mp hmem).resolve_left hk⟩

/-! ## The CP up again (R264, R443) -/

theorem replies_cpAnswered (s : State) : Replies { s.dev with sys := { s.dev.sys with
    cpUp := true, cpRestart := false, watchdogKick := s.dev.sys.uptime } } (cpAnswered s) :=
  Replies.foldl (fun e m => replies_answerAbandoned _ m e) _ _

theorem cpAnswered_sched (s : State) : (cpAnswered s).sched = s.dev.sched := by
  obtain ⟨_, _, _, _, h⟩ := replies_cpAnswered s
  rw [h]

theorem abandoned_cpAnswered {s : State} {m : Nat} (hm : m < 256) (hact : s.dev.sys.cpActivation = false) (hheld : s.dev.log.held = [])
    (hbusy : (mailboxOf s.dev m).state = .busy) : Abandoned (mailboxOf (cpAnswered s) m) := by
  refine foldl_answerAbandoned hm _ _ hact hheld (.inr ⟨hbusy, ?_⟩)
  cases hfind : Tab.find s.dev.mg.boxes m with
  | some b => exact Tab.key_mem_of_find hfind
  | none =>
    rw [mailboxOf, Tab.getD, hfind] at hbusy
    cases hbusy

/-- A package half received is lost as the CP comes up again. -/
def receptionEnded (d : Dev) : Dev :=
  if d.fw.staging = .receiving then raise 0x7005 0xFFFF 4 (newFw d) (dropStaging 11 d) else { d with fw := { d.fw with mailbox := none } }

section
variable {d : Dev}

theorem receptionEnded_receiving (h : d.fw.staging = .receiving) : (receptionEnded d).fw.staging = .none ∧
    (receptionEnded d).fw.lastResult = 11 ∧ (receptionEnded d).fw.package = [] := by
  rw [receptionEnded, if_pos h, raise_fw]
  exact ⟨rfl, rfl, rfl⟩

theorem receptionEnded_otherwise (h : d.fw.staging ≠ .receiving) : (receptionEnded d).fw.staging = d.fw.staging := by
  rw [receptionEnded, if_neg h]

variable (d)

theorem receptionEnded_sys : (receptionEnded d).sys = d.sys := by
  unfold receptionEnded
  split
  · exact raise_sys ..
  · rfl

theorem receptionEnded_sched : (receptionEnded d).sched = d.sched := by
  unfold receptionEnded
  split
  · exact raise_sched ..
  · rfl

theorem receptionEnded_mg : (receptionEnded d).mg = d.mg := by
  unfold receptionEnded
  split
  · exact raise_mg ..
  · rfl

end

/-- The device after a restart that ends no activation. -/
def cpRestarted (s : State) : Dev :=
  { receptionEnded (cpAnswered s) with sys := { (receptionEnded (cpAnswered s)).sys with cpActivation := false } }

theorem does_cpRestartComplete {s : State} (ha : alive s.dev = true) (hr : s.dev.sys.cpRestart = true)
    (hact : s.dev.sys.cpActivation = false) : Does .cpRestartComplete s (cpRestarted s) := by
  rw [Does, exec_cpRestartComplete, execCpRestartComplete, if_neg (by simp [ha, hr])]
  simp only [hact, Bool.false_eq_true, if_false]
  rfl

theorem cpRestarted_sys (s : State) : (cpRestarted s).sys =
    { s.dev.sys with cpUp := true, cpRestart := false, cpActivation := false, watchdogKick := s.dev.sys.uptime } := by
  simp only [cpRestarted, receptionEnded_sys, cpAnswered_sys]

theorem cpRestarted_sched (s : State) : (cpRestarted s).sched = s.dev.sched := (receptionEnded_sched _).trans (cpAnswered_sched s)

theorem mailboxOf_cpRestarted (s : State) (m : Nat) : mailboxOf (cpRestarted s) m = mailboxOf (cpAnswered s) m :=
  mailboxOf_same (receptionEnded_mg _) m

/-! ## The obligation -/

/-- Settles O22: a reset loses what the CP kept for itself and nothing else, a third within a second stops the device, and the CP that runs
again answers each mailbox it had left BUSY in its turn. -/
theorem controlProcessorResets : Obligations.ControlProcessorResets := by
  unfold Obligations.ControlProcessorResets
  intro s
  refine ⟨?resets, ?kick, ?restart⟩
  case resets =>
    intro hup hfault recent down
    constructor
    · intro hfew
      exact ⟨cpReset_down (exec_cpLockstepMismatch s) hup hfault hfew, cpReset_down (exec_cpWatchdogExpiry s) hup hfault hfew⟩
    · intro hmany
      exact ⟨cpReset_stops (exec_cpLockstepMismatch s) hup hfault hmany, cpReset_stops (exec_cpWatchdogExpiry s) hup hfault hmany⟩
  case kick =>
    intro hup
    exact (does_of_onDev (exec_cpWatchdogKick s) (if_pos hup)).next rfl
  case restart =>
    intro ha hr hact hheld
    have hstaging : (cpAnswered s).fw.staging = s.dev.fw.staging := congrArg Firmware.staging (cpAnswered_fw s)
    refine ⟨_, does_cpRestartComplete ha hr hact, rfl, ?_, ?_, ?_, ?_, fun m hm hbusy => ?mailbox, fun hreceiving => ?received,
      fun hother => ?other⟩
    case mailbox =>
      obtain ⟨⟨hstate, hresponse⟩, habandoned⟩ := abandoned_cpAnswered (show m < 256 by omega) hact hheld hbusy
      rw [mailboxOf_same (watch_mg _ _), mailboxOf_cpRestarted]
      exact ⟨hstate, habandoned, hresponse⟩
    case received =>
      rw [watch_fw]
      exact receptionEnded_receiving (hstaging.trans hreceiving)
    case other =>
      rw [watch_fw]
      exact (receptionEnded_otherwise (hstaging ▸ hother)).trans hstaging
    all_goals simp [cpRestarted_sys, cpRestarted_sched]

end Sys2Proof.Machine
end

section
/-! PROOF. What the requests on one slice answer (O47): each passes or fails its checks in their order, a status body is read back field by
field, and a Ferry image has the length it reports. -/

namespace Sys2Proof.Machine

/-! ## Lengths and fields of byte strings -/

@[simp] theorem length_leBytes (n v : Nat) : (leBytes n v).length = n := by
  induction n generalizing v with
  | zero => rfl
  | succ n ih => rw [leBytes, List.length_cons, ih]

@[simp] theorem length_beBytes (n v : Nat) : (beBytes n v).length = n := by rw [beBytes, List.length_reverse, length_leBytes]

@[simp] theorem length_fit (l : List Byte) (n : Nat) : (fit l n).length = n := length_slice8 l 0 n

theorem takeFill_append {n : Nat} (a b : List Byte) (h : n ≤ a.length) : takeFill n (a ++ b) = takeFill n a := by
  induction n generalizing a with
  | zero => rfl
  | succ n ih =>
    cases a with
    | nil => simp at h
    | cons x a => rw [List.cons_append, takeFill, takeFill, ih a (Nat.le_of_succ_le_succ h)]

theorem takeFill_length (a : List Byte) : takeFill a.length a = a := by
  induction a with
  | nil => rfl
  | cons x a ih => rw [List.length_cons, takeFill, ih]

/-- A field that ends within the first part of a string is a field of that part. -/
theorem slice8_append {a b : List Byte} {o n : Nat} (h : o + n ≤ a.length) : slice8 (a ++ b) o n = slice8 a o n := by
  unfold slice8
  rw [List.drop_append_of_le_length (by omega), takeFill_append _ _ (by rw [List.length_drop]; omega)]

/-- The part behind the first is the field that begins at its end. -/
theorem slice8_append_last {a x : List Byte} {o n : Nat} (ho : a.length = o) (hn : x.length = n) : slice8 (a ++ x) o n = x := by
  subst ho hn
  rw [slice8, List.drop_left, takeFill_length]

/-- The header of a Ferry image has 64 bytes (R317). -/
@[simp] theorem length_ferryHeader (d : Dev) (n count bodyLen dst keyId : Nat) (nonce : List Byte) :
    (ferryHeader d n count bodyLen dst keyId nonce).length = 64 := by simp [ferryHeader, ferryMagic, ascii]

/-! ## Checks of a slice's requests (R298) -/

theorem aSlice_passes {r : Req} (h : r.q.scope < 4096) : aSlice r = (true, .format) := by simp [aSlice, h]

section
variable {c : Cx} {n : Nat} {l : List SliceState}

theorem inState_passes (h : (sliceOf c.d n).state ∈ l) : inState c n l = (true, .sliceState) := by simp [inState, h]

theorem inState_fails (h : (sliceOf c.d n).state ∉ l) : inState c n l = (false, .sliceState) := by simp [inState, h]

end

section
variable {r : Req} {c : Cx} (hn : r.q.scope < 4096)
include hn

/-! ## Quiescing (R299, R305) -/

theorem sliceQuiesceCmd_still (hinp : r.inp = [])
    (hstate : (sliceOf c.d r.q.scope).state = .quiesced ∨ (sliceOf c.d r.q.scope).state = .frozen) :
    sliceQuiesceCmd r c = .done c (List.replicate 16 0) [] := by
  have hserved : (sliceOf c.d r.q.scope).state ∈ [SliceState.active, .quiesced, .frozen] := by
    rcases hstate with hstate | hstate <;> simp [hstate]
  have hidle : (sliceOf c.d r.q.scope).state ≠ .active := by
    rcases hstate with hstate | hstate <;> simp [hstate]
  simp only [sliceQuiesceCmd, aSlice_passes hn, len_empty hinp, inState_passes hserved, behind_pass, behind_nil, if_pos hidle]

theorem sliceQuiesceCmd_joins {dr : Drain} (hinp : r.inp = []) (hstate : (sliceOf c.d r.q.scope).state = .active)
    (hdrain : (sliceOf c.d r.q.scope).drain = some dr) :
    sliceQuiesceCmd r c = .wait (.quiesce r.q.scope)
      (c.mod (modSlice r.q.scope (fun x => { x with drain := some { dr with mailboxes := dr.mailboxes ++ [r.m] } }))) := by
  simp [sliceQuiesceCmd, aSlice_passes hn, len_empty hinp, inState, hstate, hdrain]

theorem sliceQuiesceCmd_begins (hinp : r.inp = []) (hstate : (sliceOf c.d r.q.scope).state = .active)
    (hdrain : (sliceOf c.d r.q.scope).drain = none) :
    sliceQuiesceCmd r c = .wait (.quiesce r.q.scope) (c.mod (fun d => checkDrained r.q.scope (modSlice r.q.scope (fun x => { x with
      intake := false, drain := some { mailboxes := [r.m], start := d.sys.uptime, last := d.sys.uptime } }) d))) := by
  simp [sliceQuiesceCmd, aSlice_passes hn, len_empty hinp, inState, hstate, hdrain]

theorem sliceQuiesceCmd_refused (hinp : r.inp = [])
    (hstate : (sliceOf c.d r.q.scope).state = .free ∨ (sliceOf c.d r.q.scope).state = .bound ∨ (sliceOf c.d r.q.scope).state = .error) :
    sliceQuiesceCmd r c = .fail .sliceState c [] := by
  have hrefused : (sliceOf c.d r.q.scope).state ∉ [SliceState.active, .quiesced, .frozen] := by
    rcases hstate with hstate | hstate | hstate <;> simp [hstate]
  simp only [sliceQuiesceCmd, aSlice_passes hn, len_empty hinp, inState_fails hrefused, behind_pass, behind_stop]

/-! ## Freezing and resuming (R306, R307) -/

theorem sliceFreezeCmd_freezes (hinp : r.inp = []) (hstate : (sliceOf c.d r.q.scope).state = .quiesced) :
    sliceFreezeCmd r c = .done (c.mod (fun d => raise 0x4005 r.q.scope 0 0
      (modSlice r.q.scope (fun x => { x with state := .frozen, saved := false }) d))) [] [] := by
  have hserved : (sliceOf c.d r.q.scope).state ∈ [SliceState.quiesced] := by simp [hstate]
  simp only [sliceFreezeCmd, aSlice_passes hn, len_empty hinp, inState_passes hserved, behind_pass, behind_nil]

theorem sliceFreezeCmd_refused (hinp : r.inp = []) (hstate : (sliceOf c.d r.q.scope).state ≠ .quiesced) :
    sliceFreezeCmd r c = .fail .sliceState c [] := by
  have hrefused : (sliceOf c.d r.q.scope).state ∉ [SliceState.quiesced] := by simp [hstate]
  simp only [sliceFreezeCmd, aSlice_passes hn, len_empty hinp, inState_fails hrefused, behind_pass, behind_stop]

section
variable (hlen : r.inp.length = 4) (hform : r.f 0 4 ≤ 1)
include hlen hform

/-- In the states that resume, the mark of a save alone decides (R306). -/
theorem sliceResumeCmd_eq (hstate : (sliceOf c.d r.q.scope).state = .quiesced ∨ (sliceOf c.d r.q.scope).state = .frozen) :
    sliceResumeCmd r c =
      if (sliceOf c.d r.q.scope).state = .quiesced ∨ (sliceOf c.d r.q.scope).saved = false ∨ r.f 0 4 = 1 then
        .done (c.mod (fun d => raise 0x4006 r.q.scope (r.f 0 4) 0 (modSlice r.q.scope (fun x => { x with
          state := .active, saved := false, intake := true }) d))) [] []
      else .fail .sliceState c [] := by
  have hserved : (sliceOf c.d r.q.scope).state ∈ [SliceState.quiesced, .frozen] := by simpa using hstate
  have hmark : (!((sliceOf c.d r.q.scope).state == .frozen && (sliceOf c.d r.q.scope).saved) || r.f 0 4 == 1)
      = decide ((sliceOf c.d r.q.scope).state = .quiesced ∨ (sliceOf c.d r.q.scope).saved = false ∨ r.f 0 4 = 1) := by
    rcases hstate with hstate | hstate <;> simp [hstate, beq_eq_decide]
  simp only [sliceResumeCmd, aSlice_passes hn, len_passes hlen, inState_passes hserved, hform, hmark, decide_true, behind_pass]
  split
  next hresumes => simp only [hresumes, decide_true, behind_pass, behind_nil]
  next hsaved => simp only [hsaved, decide_false, behind_stop]

theorem sliceResumeCmd_refused (hstate : (sliceOf c.d r.q.scope).state = .free ∨ (sliceOf c.d r.q.scope).state = .bound ∨
    (sliceOf c.d r.q.scope).state = .active ∨ (sliceOf c.d r.q.scope).state = .error) :
    sliceResumeCmd r c = .fail .sliceState c [] := by
  have hrefused : (sliceOf c.d r.q.scope).state ∉ [SliceState.quiesced, .frozen] := by
    rcases hstate with hstate | hstate | hstate | hstate <;> simp [hstate]
  simp only [sliceResumeCmd, aSlice_passes hn, len_passes hlen, inState_fails hrefused, hform, decide_true, behind_pass, behind_stop]

end

/-! ## The status of a slice (R312) -/

/-- The body is a row of fields of fixed lengths, so that each is read back at the sum of those before it. -/
theorem sliceStatusCmd_fields (hinp : r.inp = []) : ∃ body, sliceStatusCmd r c = .done c body [] ∧ body.length = 48 ∧
    slice8 body 0 1 = [byteOf (sliceOf c.d r.q.scope).state.code] ∧
    slice8 body 4 4 = leBytes 4 (sliceOf c.d r.q.scope).per.pasid ∧
    slice8 body 8 2 = leBytes 2 (sliceOf c.d r.q.scope).per.flowQuota ∧
    slice8 body 12 4 = leBytes 4 (sliceOf c.d r.q.scope).per.cacheGuar ∧
    slice8 body 16 4 = leBytes 4 (sliceOf c.d r.q.scope).per.cacheCeil ∧
    slice8 body 36 4 = leBytes 4 (sliceOf c.d r.q.scope).per.policy := by
  unfold sliceStatusCmd
  rw [aSlice_passes hn, len_empty hinp, behind_pass, behind_pass, behind_nil]
  refine ⟨_, rfl, ?length, ?state, ?fields⟩
  case length => simp
  case state => rfl
  case fields =>
    simp only [slice8_append, slice8_append_last, List.length_append, List.length_cons, List.length_nil, length_leBytes,
      Nat.reduceAdd, Nat.reduceLeDiff, and_self]

/-! ## A Ferry image (R317, R319) -/

section
variable (hlen : r.inp.length = 4) (hstate : (sliceOf c.d r.q.scope).state = .frozen)
  (hmigratable : (sliceOf c.d r.q.scope).per.migratable = true)
include hlen hstate hmigratable

theorem sliceSaveCmd_keyless (hkey : migOf c.d .outgoing (r.f 0 4) none = none) : sliceSaveCmd r c = .fail .policy c [] := by
  have hserved : (sliceOf c.d r.q.scope).state ∈ [SliceState.frozen] := by simp [hstate]
  simp only [sliceSaveCmd, aSlice_passes hn, len_passes hlen, inState_passes hserved, hmigratable, hkey, behind_pass, behind_nil]

theorem sliceSaveCmd_saves {k : Nat} {e : MigKey} {body head : List Byte} (hkey : migOf c.d .outgoing (r.f 0 4) none = some (k, e))
    (hbody : ((sections c.d r.q.scope).map (fun x => section8 x.1 x.2)).flatten = body)
    (hhead : ferryHeader c.d r.q.scope (sections c.d r.q.scope).length body.length e.partner e.keyId (drawBytes 12 c.d) = head)
    (hcap : 64 + body.length + 16 ≤ r.q.outCap) (hserving : rngServing c.d = true) :
    sliceSaveCmd r c = .done (c.mod (fun d => raise 0x4009 r.q.scope e.keyId (64 + body.length + 16)
        (delMig k (modSlice r.q.scope (fun x => { x with saved := true }) (cpDraw 12 d)))))
      (leBytes 4 (64 + body.length + 16)) (head ++ beBytes (body.length + 16) (Config.sealed e.key (drawBytes 12 c.d) head body)) := by
  have hserved : (sliceOf c.d r.q.scope).state ∈ [SliceState.frozen] := by simp [hstate]
  simp only [sliceSaveCmd, aSlice_passes hn, len_passes hlen, inState_passes hserved, hmigratable, hkey, hbody, hhead, outCap_passes hcap,
    withRandom_serves _ hserving, behind_pass, behind_nil, Cx.mod]

end
end

/-! ## The obligation -/

/-- Settles O47: each body behind its checks by its own equation above, and each of its three answers by what it comes to. -/
theorem sliceRequests : Obligations.SliceRequests := by
  unfold Obligations.SliceRequests
  rintro q s r c _ rfl hn
  refine ⟨?quiesce, ?freeze, ?resume, ?status, ?save⟩
  case quiesce =>
    intro h hinp
    refine ⟨fun hstate => ?_, fun hstate => ⟨fun dr hdrain => ?_, fun hdrain => ?_⟩, fun hstate => ?_⟩
    · exact answers_done (exec_sliceQuiesce q s) h (sliceQuiesceCmd_still hn hinp hstate) (Nat.zero_le _)
    · exact waits_of (exec_sliceQuiesce q s) h (sliceQuiesceCmd_joins hn hinp hstate hdrain)
    · exact waits_of (exec_sliceQuiesce q s) h (sliceQuiesceCmd_begins hn hinp hstate hdrain)
    · exact answers_fail (exec_sliceQuiesce q s) h (sliceQuiesceCmd_refused hn hinp hstate)
  case freeze =>
    intro h hinp
    refine ⟨fun hstate => ?_, fun hstate => ?_⟩
    · exact answers_done (exec_sliceFreeze q s) h (sliceFreezeCmd_freezes hn hinp hstate) (Nat.zero_le _)
    · exact answers_fail (exec_sliceFreeze q s) h (sliceFreezeCmd_refused hn hinp hstate)
  case resume =>
    intro h hlen hform
    refine ⟨fun hstate => ?_, fun hstate => ?_⟩
    · have hbody : body .sliceResume r c = _ := sliceResumeCmd_eq hn hlen hform hstate
      refine ⟨fun hresumes => ?_, fun hfrozen hsaved hafter => ?_⟩
      · exact answers_done (exec_sliceResume q s) h (hbody.trans (if_pos hresumes)) (Nat.zero_le _)
      · exact answers_fail (exec_sliceResume q s) h (hbody.trans (if_neg (by simp [Req.f, hfrozen, hsaved, hafter])))
    · exact answers_fail (exec_sliceResume q s) h (sliceResumeCmd_refused hn hlen hform hstate)
  case status =>
    intro h hinp
    obtain ⟨fields, hdone, hfields⟩ := sliceStatusCmd_fields (c := c) hn hinp
    exact ⟨fields, answers_done (exec_sliceStatus q s) h hdone (Nat.zero_le _), hfields⟩
  case save =>
    intro h hlen hstate hmigratable
    refine ⟨fun hkey => ?_, ?_⟩
    · exact answers_fail (exec_sliceSave q s) h (sliceSaveCmd_keyless hn hlen hstate hmigratable hkey)
    · intro k e hkey sects head hcap hserving
      refine answers_done (exec_sliceSave q s) h (sliceSaveCmd_saves hn hlen hstate hmigratable hkey rfl rfl hcap hserving) ?_
      rwa [List.length_append, length_ferryHeader, length_beBytes, ← Nat.add_assoc]

end Sys2Proof.Machine
end

section
/-! PROOF. How migration keys are agreed (O51): the three modes of `MIGRATION_KEY_AGREE` behind the receiver's checks, and the end of an
entry. -/

namespace Sys2Proof.Machine

/-! ## The receiver's checks (R315) -/

/-- A check that fails stops a body, whatever checks would follow. -/
theorem behind_append_stop {l l' : List (Bool × Status)} {st : Status} {c : Cx} {k : BRes} (h : firstFail l = some st) :
    behind (l ++ l') c k = .fail st c [] := by
  obtain ⟨e, hfound, rfl⟩ := Option.map_eq_some_iff.mp h
  simp [behind, firstFail, List.find?_append, hfound]

section
variable {v : MigVerdict} {r : Req}

theorem migChecks_malformed (hform : migFormOk r = false) : firstFail (migChecks v r) = some .format := by
  simp [migChecks, firstFail, hform]

section
variable (hform : migFormOk r = true)
include hform

theorem migChecks_chain (hchain : v.chainOk = false) : firstFail (migChecks v r) = some .policy := by
  simp [migChecks, firstFail, hform, hchain]

theorem migChecks_signature (hchain : v.chainOk = true) (hsig : v.sigOk = false) : firstFail (migChecks v r) = some .signature := by
  simp [migChecks, firstFail, hform, hchain, hsig]

theorem migChecks_point (hchain : v.chainOk = true) (hsig : v.sigOk = true) (hpoint : v.pointOk = false) :
    firstFail (migChecks v r) = some .pkPoint := by
  simp [migChecks, firstFail, hform, hchain, hsig, hpoint]

theorem migChecks_pass (hchain : v.chainOk = true) (hsig : v.sigOk = true) (hpoint : v.pointOk = true) (hencap : v.encapOk = true) :
    migChecks v r = [(true, .format), (true, .policy), (true, .signature), (true, .pkPoint), (true, .pkRange)] := by
  rw [migChecks, hform, hchain, hsig, hpoint, hencap]

end
end

/-- The fields before the signature, with a point of P-384 and a key or ciphertext of ML-KEM-1024. -/
theorem length_migHead {keyId serial : Nat} {point second : List Byte} (hpoint : point.length = 97) (hsecond : second.length = 1568) :
    (migHead keyId serial point second).length = 1679 + (slotChain 1).length := by
  simp only [migHead, List.length_append, length_leBytes, hpoint, hsecond]

section
variable {r : Req} {c : Cx}

/-! ## An offer (R315) -/

theorem migOfferCmd_open (hlc : c.d.sys.lc ≠ 1) : migOfferCmd r c = .fail .lifecycle c [] := by
  have hclosed : (c.d.sys.lc == 1) = false := by simpa using hlc
  simp only [migOfferCmd, hclosed, behind_stop]

variable (hlc : c.d.sys.lc = 1)
include hlc

section
variable (hinp : r.inp = [0, 0, 0, 0]) (hcap : 1679 + (slotChain 1).length + 96 ≤ r.q.outCap)
include hinp hcap

omit hlc in
/-- The four bytes of an offer's input and its room for the answer pass every check behind that of the life cycle. -/
theorem migOffer_checks : ownMode r 0 0 [0, 1, 2] = r ∧ r.f 0 1 = 0 ∧ len r 4 = (true, .format) ∧ rsv r 1 4 = (true, .format) ∧
    outCap r (1679 + (slotChain 1).length + 96) = (true, .length) := by
  have hmode : leAt r.inp 0 1 = 0 := by rw [hinp]; rfl
  exact ⟨ownMode_own hmode, hmode, len_passes (by rw [hinp]; rfl), rsv_passes (by rw [hinp]; rfl), outCap_passes hcap⟩

theorem migOfferCmd_full (hfull : freeMig c.d = none) : migOfferCmd r c = .fail .busy c [] := by
  obtain ⟨hown, hmode, hlen, hzero, hroom⟩ := migOffer_checks hinp hcap
  simp only [migOfferCmd, hown, hlc, hmode, hlen, hzero, hroom, hfull, beq_self_eq_true, behind_pass, behind_nil]

theorem migOfferCmd_offers {k : Nat} {head : List Byte} (hfree : freeMig c.d = some k) (hserving : rngServing c.d = true)
    (hhead : migHead c.d.mg.nextKeyId c.d.sys.serial (0x04 :: beBytes 96 (Config.ephemeral 1 c.d.rng.drawn))
      (beBytes 1568 (Config.ephemeral 3 c.d.rng.drawn)) = head) :
    migOfferCmd r c = .done (c.mod (fun d =>
        let d1 := cpDraw 128 d
        setMig k { keyId := d.mg.nextKeyId, role := .offered, key := head }
          { d1 with mg := { d1.mg with nextKeyId := (d.mg.nextKeyId + 1) % 2 ^ 32 } })) []
      (head ++ beBytes 96 (Config.deviceSign 1 (sha384 head))) := by
  obtain ⟨hown, hmode, hlen, hzero, hroom⟩ := migOffer_checks hinp hcap
  simp only [migOfferCmd, hown, hlc, hmode, hlen, hzero, hroom, hfree, withRandom_serves _ hserving, hybridDraw, hhead, beq_self_eq_true,
    behind_pass, behind_nil, Cx.mod]

end

/-! ## The answer to an offer (R315, R316) -/

section
variable {v : MigVerdict} (hmode : r.f 0 1 = 1)
include hmode

theorem migAcceptCmd_refused {st : Status} (h : firstFail (migChecks v r) = some st) : migAcceptCmd v r c = .fail st c [] := by
  simp only [migAcceptCmd, ownMode_own hmode, hlc, hmode, List.cons_append, List.nil_append, beq_self_eq_true, behind_pass]
  exact behind_append_stop h

theorem migAcceptCmd_accepts {k : Nat} {msg head : List Byte} (hform : migFormOk r = true) (hchain : v.chainOk = true)
    (hsig : v.sigOk = true) (hpoint : v.pointOk = true) (hencap : v.encapOk = true) (hmsg : r.inp.drop 4 = msg)
    (hother : leAt msg 4 8 ≠ c.d.sys.serial) (hcap : 1679 + (slotChain 1).length + 96 ≤ r.q.outCap) (hfree : freeMig c.d = some k)
    (hserving : rngServing c.d = true)
    (hhead : migHead (leAt msg 0 4) c.d.sys.serial (0x04 :: beBytes 96 (Config.ephemeral 1 c.d.rng.drawn))
      (beBytes 1568 (Config.ephemeral 2 c.d.rng.drawn)) = head) :
    migAcceptCmd v r c = .done (c.mod (fun d =>
        setMig k { keyId := leAt msg 0 4, role := .outgoing, partner := leAt msg 4 8,
                   key := migKey msg head d.sys.serial (leAt msg 4 8) (leAt msg 0 4) } (cpDraw 128 d))) []
      (head ++ beBytes 96 (Config.deviceSign 1 (sha384 (msg ++ head)))) := by
  have hserial : (leAt msg 4 8 != c.d.sys.serial) = true := by simpa using hother
  simp only [migAcceptCmd, ownMode_own hmode, hlc, hmode, migChecks_pass hform hchain hsig hpoint hencap, migMsg, hmsg, hserial,
    outCap_passes hcap, hfree, withRandom_serves _ hserving, hybridReply, hybridDraw, hhead, List.cons_append, List.nil_append,
    beq_self_eq_true, behind_pass, behind_nil, Cx.mod]

end

/-! ## The completion of an offer (R315, R316) -/

section
variable {v : MigVerdict} (hmode : r.f 0 1 = 2) (hform : migFormOk r = true) (hchain : v.chainOk = true) (hsig : v.sigOk = true)
include hmode hform hchain hsig

theorem migCompleteCmd_refused (hpoint : v.pointOk = false) : migCompleteCmd v r c = .fail .pkPoint c [] := by
  simp only [migCompleteCmd, ownMode_own hmode, hlc, hmode, List.cons_append, List.nil_append, beq_self_eq_true, behind_pass]
  rw [behind, migChecks_point hform (v := { v with encapOk := true }) hchain hsig hpoint]

section
variable {msg : List Byte} (hpoint : v.pointOk = true) (hmsg : r.inp.drop 4 = msg)
include hpoint hmsg

/-- A good reply needs an offer of its key identifier that this device has made. -/
theorem migCompleteCmd_unoffered (hkey : migOf c.d .offered (leAt msg 0 4) none = none) : migCompleteCmd v r c = .fail .policy c [] := by
  simp only [migCompleteCmd, ownMode_own hmode, hlc, hmode, migChecks_pass (v := { v with encapOk := true }) hform hchain hsig hpoint rfl,
    migMsg, hmsg, hkey, List.cons_append, List.nil_append, beq_self_eq_true, behind_pass, behind_nil]

theorem migCompleteCmd_completes {k : Nat} {e : MigKey} (hkey : migOf c.d .offered (leAt msg 0 4) none = some (k, e)) :
    migCompleteCmd v r c = .done (c.mod (setMig k
      { keyId := leAt msg 0 4, role := .incoming, partner := leAt msg 4 8,
        key := migKey e.key msg (leAt msg 4 8) c.d.sys.serial (leAt msg 0 4) })) [] [] := by
  simp only [migCompleteCmd, ownMode_own hmode, hlc, hmode, migChecks_pass (v := { v with encapOk := true }) hform hchain hsig hpoint rfl,
    migMsg, hmsg, hkey, List.cons_append, List.nil_append, beq_self_eq_true, behind_pass, behind_nil]

end
end
end

/-! ## The obligation -/

/-- Settles O51: each mode behind its checks by its own equation above; an expiry deletes the entry. -/
theorem migrationKeys : Obligations.MigrationKeys := by
  unfold Obligations.MigrationKeys
  refine ⟨?offer, ?accept, ?complete, ?lifecycle, ?expiry⟩
  case offer =>
    intro q s r c h hlc hinp hcap
    refine ⟨fun hfull => ?_, ?_⟩
    · exact answers_fail (exec_migrationKeyOffer q s) h (migOfferCmd_full hlc hinp hcap hfull)
    · intro k hfree hserving head
      refine answers_done (exec_migrationKeyOffer q s) h (migOfferCmd_offers hlc hinp hcap hfree hserving rfl) ?_
      rwa [List.length_append, length_migHead (by simp) (by simp), length_beBytes]
  case accept =>
    intro v q s r c h hlc hmode msg
    have hrefuse {st : Status} (hst : firstFail (migChecks v r) = some st) : Answers (.migrationKeyAccept q v) s r st [] [] c :=
      answers_fail (exec_migrationKeyAccept q v s) h (migAcceptCmd_refused hlc hmode hst)
    refine ⟨fun hform => hrefuse (migChecks_malformed hform), fun hform hchain => hrefuse (migChecks_chain hform hchain),
      fun hform hchain hsig => hrefuse (migChecks_signature hform hchain hsig), ?_⟩
    rintro hform rfl hother hcap k hfree hserving head
    refine answers_done (exec_migrationKeyAccept q _ s) h
      (migAcceptCmd_accepts (v := ⟨true, true, true, true⟩) hlc hmode hform rfl rfl rfl rfl rfl hother hcap hfree hserving rfl) ?_
    rwa [List.length_append, length_migHead (by simp) (by simp), length_beBytes]
  case complete =>
    intro v q s r c h hlc hmode hform hchain hsig msg
    refine ⟨fun hpoint => ?_, fun hpoint hkey => ?_, fun k e hpoint hkey => ?_⟩
    · exact answers_fail (exec_migrationKeyComplete q v s) h (migCompleteCmd_refused hlc hmode hform hchain hsig hpoint)
    · exact answers_fail (exec_migrationKeyComplete q v s) h
        (migCompleteCmd_unoffered hlc hmode hform hchain hsig hpoint rfl hkey)
    · exact answers_done (exec_migrationKeyComplete q v s) h
        (migCompleteCmd_completes hlc hmode hform hchain hsig hpoint rfl hkey) (Nat.zero_le _)
  case lifecycle =>
    intro q s r c h hlc
    exact answers_fail (exec_migrationKeyOffer q s) h (migOfferCmd_open hlc)
  case expiry =>
    intro s k hk
    exact does_of_onUnit (exec_migrationKeyExpiry k s) (decide_eq_true hk) rfl

end Sys2Proof.Machine
end

section
/-! PROOF. The queue (O2) and the fuses (O3): what each operation on device and fuses together blows, and then every command by the shape of
its answer. -/

namespace Sys2Proof.Machine

/-! ## The queue -/

/-- Settles O2: every command's answer is a next state with the queue in place, or none. -/
theorem commandsLeaveTheQueue : Obligations.CommandsLeaveTheQueue := by
  unfold Obligations.CommandsLeaveTheQueue
  intro c s t h
  exact exec_pending h

/-! ## Fuse words -/

theorem KeepsBits.trans {w : Nat} {x y z : BitVec w} (h : KeepsBits x y) (k : KeepsBits y z) : KeepsBits x z := by
  unfold KeepsBits at *
  rw [← h, BitVec.and_assoc, k]

@[simp] theorem keepsBits_or {w : Nat} (x y : BitVec w) : KeepsBits x (x ||| y) := by
  unfold KeepsBits
  ext i
  simp only [BitVec.getElem_and, BitVec.getElem_or]
  cases x[i] <;> rfl

@[simp] theorem keepsBits_allOnes {w : Nat} (x : BitVec w) : KeepsBits x (BitVec.allOnes w) := BitVec.and_allOnes

@[simp] theorem keepsBits_blowNext {w : Nat} (x : BitVec w) : KeepsBits x (blowNext x) := by
  unfold blowNext
  split
  · exact keepsBits_or x _
  · exact keepsBits_refl x

theorem keepsBits_foldl_blowNext {w : Nat} (l : List Nat) (x : BitVec w) : KeepsBits x (l.foldl (fun y _ => blowNext y) x) := by
  induction l generalizing x with
  | nil => exact keepsBits_refl x
  | cons _ _ ih => exact (keepsBits_blowNext x).trans (ih _)

@[simp] theorem keepsBits_stepFuse {w : Nat} (target : Nat) (x : BitVec w) : KeepsBits x (stepFuse target x) := keepsBits_foldl_blowNext _ x

/-! ## The fuses as a whole -/

theorem KeepsFuses.trans {f g h : Fuses} (hfg : KeepsFuses f g) (hgh : KeepsFuses g h) : KeepsFuses f h := by
  obtain ⟨a0, a1, a2, a3, a4, a5, a6, a7, a8, a9, a10, a11, a12, a13, a14, a15, a16, a17, a18, a19⟩ := hfg
  obtain ⟨b0, b1, b2, b3, b4, b5, b6, b7, b8, b9, b10, b11, b12, b13, b14, b15, b16, b17, b18, b19⟩ := hgh
  exact ⟨b0.trans a0, b1.trans a1, a2.trans b2, a3.trans b3, a4.trans b4, a5.trans b5, a6.trans b6, a7.trans b7, a8.trans b8,
    a9.trans b9, a10.trans b10, a11.trans b11, a12.trans b12, a13.trans b13, a14.trans b14, a15.trans b15, a16.trans b16,
    a17.trans b17, a18.trans b18, b19 ∘ a19⟩

theorem keepsFuses_of_eq {f g : Fuses} (h : g = f) : KeepsFuses f g := h ▸ keepsFuses_refl f

theorem keepsFuses_blowGroup (k : Nat) (v : BitVec 128) (f : Fuses) : KeepsFuses f (blowGroup k v f) := by
  unfold blowGroup
  split
  · simp [KeepsFuses, keepsBits_refl]
  · simp [KeepsFuses, keepsBits_refl]
  · simp [KeepsFuses, keepsBits_refl]
  · simp [KeepsFuses, keepsBits_refl]

theorem keepsFuses_revokeGroup (f : Fuses) : KeepsFuses f (revokeGroup f) := by
  unfold revokeGroup
  split
  · simp [KeepsFuses, keepsBits_refl]
  · exact keepsFuses_refl f

/-! ## Tamper, boot and the service port (R354, R368, R369, R430, R447) -/

@[simp] theorem alarms_f (srcs : List Nat) (powerUp : Bool) (c : Cx) : (alarms srcs powerUp c).f = c.f := by
  unfold alarms
  dsimp only
  split <;> rfl

@[simp] theorem eraseShare_f (c : Cx) : (eraseShare c).f = c.f := by
  unfold eraseShare
  split <;> rfl

theorem keepsFuses_eraseVolatile (c : Cx) : KeepsFuses c.f (eraseVolatile c).f := by
  unfold eraseVolatile
  split
  · exact keepsFuses_refl c.f
  · simp [KeepsFuses, keepsBits_refl]

theorem keepsFuses_fullErase (c : Cx) : KeepsFuses c.f (fullErase c).f := by
  rw [fullErase, eraseShare_f]
  exact keepsFuses_eraseVolatile _

theorem checkerFails_f (k : Checker) (c : Cx) : (checkerFails k c).f = c.f := by
  cases k with
  | goose =>
    unfold checkerFails
    dsimp only
    split
    · exact alarms_f ..
    · rfl
  | _ => rfl

theorem keepsFuses_formKsk (c : Cx) : KeepsFuses c.f (formKsk c).f := by
  unfold formKsk
  dsimp only
  split
  · simp [KeepsFuses, keepsBits_refl]
  · exact keepsFuses_refl c.f

theorem keepsFuses_keyStep (c : Cx) : KeepsFuses c.f (keyStep c).f := by
  unfold keyStep
  split
  · exact keepsFuses_refl c.f
  · split
    · exact keepsFuses_formKsk c
    · split
      · exact keepsFuses_formKsk (c.mod (cpDraw 32))
      · exact keepsFuses_refl c.f

@[simp] theorem dissent_f (c : Cx) : (dissent c).f = c.f := by
  unfold dissent
  dsimp only
  split <;> rfl

theorem ite_mod_f {p : Prop} [Decidable p] (g : Dev → Dev) (c : Cx) : (if p then c.mod g else c).f = c.f := by split <;> rfl

@[simp] theorem start_f (p : Pins) (cause : Nat) (c : Cx) : (start p cause c).f = c.f := (ite_mod_f ..).trans (dissent_f _)

theorem keepsFuses_startImage (c : Cx) : KeepsFuses c.f (startImage c).f := by
  simp [KeepsFuses, keepsBits_refl, startImage]

theorem keepsFuses_stageImage (img : List Byte) (c : Cx) : KeepsFuses c.f (stageImage img c).f := by
  unfold stageImage
  dsimp only
  split
  · exact keepsFuses_refl c.f
  · simp [KeepsFuses, keepsBits_refl]

/-! ## Mirrored commands and steps: none of their effects blows a fuse (R282, R384) -/

/-- The context an effect comes to. -/
def Eff.cx : Eff → Cx
  | .error e => e.2
  | .ok k => k.1

theorem eff_f {r : MReq} {l : List (Bool × Status)} {c : Cx} {k : Cx × List Byte × List Byte} (h : k.1.f = c.f) :
    (Eff.cx (eff r l c k)).f = c.f := by
  unfold eff
  split
  · rfl
  · exact h

theorem lmkCommitEff_f (r : MReq) (c : Cx) : (Eff.cx (lmkCommitEff r c)).f = c.f := by
  unfold lmkCommitEff
  dsimp only
  split
  · next h => exact (congrArg (fun x => (Eff.cx x).f) h).symm.trans (eff_f rfl)
  · next h => exact (congrArg (fun x => (Eff.cx x).f) h).symm.trans (eff_f rfl)

theorem lmkTr34Eff_f (r : MReq) (c : Cx) : (Eff.cx (lmkTr34Eff r c)).f = c.f := by
  unfold lmkTr34Eff
  dsimp only
  split
  · next h => exact (congrArg (fun x => (Eff.cx x).f) h).symm.trans (eff_f rfl)
  · exact eff_f rfl

theorem effect_f (op : MOp) (r : MReq) (c : Cx) : (Eff.cx (effect op r c)).f = c.f := by
  cases op with
  | lmkCommit => exact lmkCommitEff_f r c
  | lmkTr34Load _ => exact lmkTr34Eff_f r c
  | sliceCreate | sliceBind | sliceRingSetup | sliceActivate | sliceReset | sliceRemove | sliceRestore _ _ | slicePolicySet
  | tenantPolicySet | officerEnroll _ | officerRemove | quorumSet | lmkActivate | lmkRemove | krdInit _ | anchorSet _ | curveLoad _
  | curveClear => exact eff_f (r := r) rfl
  | _ => rfl

@[simp] theorem applyStep_f (p : Pend) (unm : Bool) (c : Cx) : (applyStep p unm c).f = c.f := by
  unfold applyStep
  dsimp only
  split
  case h_6 =>
    have heff (op r) {x} (h : effect op r c = x) : (Eff.cx x).f = c.f := h ▸ effect_f op r c
    split
    · next h =>
      split
      · rfl
      · exact heff _ _ h
    · next h => exact heff _ _ h
  all_goals rfl

@[simp] theorem commitPend_f (p : Pend) (c : Cx) : (commitPend p c).f = c.f := by
  unfold commitPend
  split
  · exact applyStep_f ..
  · dsimp only
    rw [applyStep_f]
    split <;> rfl

@[simp] theorem commitFirst_f (p : Pend → Bool) (c : Cx) : (commitFirst p c).f = c.f := by
  unfold commitFirst
  split
  · rfl
  · split
    · rfl
    · exact commitPend_f ..

theorem foldl_applyStep_f (ps : List Pend) (c : Cx) :
    (ps.foldl (fun c p => applyStep { p with origin := .device } true c) c).f = c.f := by
  induction ps generalizing c with
  | nil => rfl
  | cons p ps ih => rw [List.foldl_cons, ih, applyStep_f]

@[simp] theorem enterReset_f (port : Bool) (c : Cx) : (enterReset port c).f = c.f := by
  unfold enterReset settleSteps
  exact foldl_applyStep_f _ _

@[simp] theorem hostReset_f (p : Pins) (cause : Nat) (c : Cx) : (hostReset p cause c).f = c.f := by
  unfold hostReset
  dsimp only
  split <;> simp

/-! ## The pair's link (R377, R384, R389) -/

@[simp] theorem applyOrHold_f (p : Pend) (unm : Bool) (c : Cx) : (applyOrHold p unm c).f = c.f := by
  unfold applyOrHold
  split
  · rfl
  · exact applyStep_f ..

@[simp] theorem applySequenced_f (n : Nat) (unm : Bool) (fuel : Nat) (c : Cx) : (applySequenced n unm fuel c).f = c.f := by
  induction fuel generalizing c with
  | zero => rfl
  | succ fuel ih =>
    unfold applySequenced
    split
    · rfl
    · rw [ih, applyOrHold_f, Cx.mod_f]

@[simp] theorem applyAll_f (unm : Bool) (c : Cx) : (applyAll unm c).f = c.f := applySequenced_f ..

@[simp] theorem silentLoss_f (c : Cx) : (silentLoss c).f = c.f := by
  unfold silentLoss
  dsimp only
  split <;> simp

@[simp] theorem partnerLeft_f (seq : Nat) (c : Cx) : (partnerLeft seq c).f = c.f := by
  unfold partnerLeft
  dsimp only
  split <;> simp

@[simp] theorem missHeartbeat_f (n : Nat) (c : Cx) : (missHeartbeat n c).f = c.f := by
  unfold missHeartbeat
  dsimp only
  split <;> simp

@[simp] theorem takeEntry_f (e : Entry) (c : Cx) : (takeEntry e c).f = c.f := by
  unfold takeEntry
  dsimp only
  split
  · rfl
  · split <;> simp

@[simp] theorem enterPaired_f (c : Cx) : (enterPaired c).f = c.f := by simp [enterPaired]

theorem keepsFuses_adopt (m : HelloMsg) (c : Cx) : KeepsFuses c.f (adopt m c).f := by
  unfold adopt
  dsimp only
  split
  · exact keepsFuses_blowGroup ..
  · exact keepsFuses_blowGroup ..
  all_goals exact keepsFuses_refl c.f

/-- What forms a pair beside the adoption of an identity blows nothing. -/
theorem formPair_f (m : HelloMsg) (c : Cx) : (formPair m c).f = (adopt m c).f := by
  unfold formPair
  dsimp only
  split <;> simp

theorem keepsFuses_takeHello (m : HelloMsg) (c : Cx) : KeepsFuses c.f (takeHello m c).f := by
  have hsent : (if c.d.pair.nonce.isEmpty then c.mod sendHello else c).f = c.f := ite_mod_f ..
  unfold takeHello
  generalize (if c.d.pair.nonce.isEmpty then c.mod sendHello else c) = c1 at hsent ⊢
  dsimp only
  split
  · exact keepsFuses_refl c.f
  · split
    · exact keepsFuses_refl c.f
    · split
      · exact keepsFuses_of_eq hsent
      · split
        · exact keepsFuses_of_eq hsent
        · split
          · exact keepsFuses_of_eq hsent
          · rw [formPair_f, ← hsent]
            exact keepsFuses_adopt m c1

/-! ## Management requests -/

/-- The context a body comes to. -/
def BRes.cx : BRes → Cx
  | .fail _ c _ => c
  | .done c _ _ => c
  | .wait _ c => c

theorem keepsFuses_behind {l : List (Bool × Status)} {c : Cx} {k : BRes} (h : KeepsFuses c.f k.cx.f) :
    KeepsFuses c.f (behind l c k).cx.f := by
  unfold behind
  split
  · exact keepsFuses_refl c.f
  · exact h

theorem keepsFuses_withRandom {c : Cx} {k : BRes} (h : KeepsFuses c.f k.cx.f) : KeepsFuses c.f (withRandom c k).cx.f := by
  unfold withRandom
  split
  · exact keepsFuses_refl c.f
  · split
    · exact keepsFuses_refl c.f
    · exact h

theorem keepsFuses_mirroredCmd (op : MOp) (r : Req) (c : Cx) : KeepsFuses c.f (mirroredCmd op r c).cx.f := by
  unfold mirroredCmd
  dsimp only
  split
  · next h => exact keepsFuses_of_eq (h ▸ effect_f op _ c :)
  · refine keepsFuses_behind ?_
    split
    · exact keepsFuses_refl c.f
    · split
      · exact keepsFuses_refl c.f
      · exact keepsFuses_withRandom (keepsFuses_refl c.f)

theorem submitSlot_f (r : Req) (k : StepKind) (fixed : List Byte) (c : Cx) : (submitSlot r k fixed c).cx.f = c.f := by
  unfold submitSlot
  split <;> rfl

theorem keepsFuses_slotImportCmd (r : Req) (c : Cx) : KeepsFuses c.f (slotImportCmd r c).cx.f := by
  refine keepsFuses_behind ?_
  dsimp only
  split
  · exact keepsFuses_refl c.f
  · exact keepsFuses_refl c.f
  · split
    · exact keepsFuses_refl c.f
    · exact keepsFuses_of_eq (submitSlot_f ..)

theorem keepsFuses_migOfferCmd (r : Req) (c : Cx) : KeepsFuses c.f (migOfferCmd r c).cx.f := by
  refine keepsFuses_behind ?_
  split
  · exact keepsFuses_refl c.f
  · exact keepsFuses_withRandom (keepsFuses_refl c.f)

theorem keepsFuses_migAcceptCmd (v : MigVerdict) (r : Req) (c : Cx) : KeepsFuses c.f (migAcceptCmd v r c).cx.f := by
  refine keepsFuses_behind ?_
  split
  · exact keepsFuses_refl c.f
  · exact keepsFuses_withRandom (keepsFuses_refl c.f)

theorem keepsFuses_sliceSaveCmd (r : Req) (c : Cx) : KeepsFuses c.f (sliceSaveCmd r c).cx.f := by
  refine keepsFuses_behind ?_
  split
  · exact keepsFuses_refl c.f
  · exact keepsFuses_behind (keepsFuses_withRandom (keepsFuses_refl c.f))

/-- `SESSION_OPEN` and `NONCE_GET` draw for a mailbox and bind for an SPDM session. -/
theorem keepsFuses_sessionOpenCmd (pointOk encapOk : Bool) (r : Req) (c : Cx) :
    KeepsFuses c.f (sessionOpenCmd pointOk encapOk r c).cx.f := by
  unfold sessionOpenCmd
  dsimp only
  split
  · exact keepsFuses_behind (keepsFuses_refl c.f)
  · exact keepsFuses_behind (keepsFuses_withRandom (keepsFuses_refl c.f))

theorem keepsFuses_nonceGetCmd (r : Req) (c : Cx) : KeepsFuses c.f (nonceGetCmd r c).cx.f := by
  refine keepsFuses_behind (keepsFuses_withRandom ?_)
  dsimp only
  split <;> exact keepsFuses_refl c.f

theorem keepsFuses_body (op : MOp) (r : Req) (c : Cx) : KeepsFuses c.f (body op r c).cx.f := by
  have same {l : List (Bool × Status)} {k : BRes} (h : k.cx.f = c.f) : KeepsFuses c.f (behind l c k).cx.f :=
    keepsFuses_behind (keepsFuses_of_eq h)
  cases op with
  | tamperConfig => exact keepsFuses_behind (by simp [KeepsFuses, keepsBits_refl, BRes.cx])
  | tamperFuseDisable => exact keepsFuses_behind (by simp [KeepsFuses, keepsBits_refl, BRes.cx])
  | lcClose =>
    exact keepsFuses_behind (by simp [KeepsFuses, keepsBits_refl, BRes.cx])
  | unpair => exact keepsFuses_behind (keepsFuses_revokeGroup c.f)
  | nonceGet => exact keepsFuses_nonceGetCmd r c
  | sessionOpen pointOk encapOk => exact keepsFuses_sessionOpenCmd pointOk encapOk r c
  | sliceSave => exact keepsFuses_sliceSaveCmd r c
  | migOffer => exact keepsFuses_migOfferCmd r c
  | migAccept v => exact keepsFuses_migAcceptCmd v r c
  | slotImport => exact keepsFuses_slotImportCmd r c
  | slotDelete => exact same (submitSlot_f ..)
  | debugChallenge => exact keepsFuses_behind (keepsFuses_withRandom (keepsFuses_refl c.f))
  | curveLoad v => exact keepsFuses_mirroredCmd (.curveLoad v) (ownMode r 1 1 [0, 1]) c
  | curveClear => exact keepsFuses_mirroredCmd .curveClear (ownMode r 1 0 [0, 1]) c
  | sliceCreate | sliceBind | sliceRingSetup | sliceActivate | sliceReset | sliceRemove | sliceRestore _ _ | slicePolicySet
  | tenantPolicySet | officerEnroll _ | officerRemove | quorumSet | lmkCommit | lmkTr34Load _ | lmkActivate | lmkRemove
  | krdInit _ | anchorSet _ => exact keepsFuses_mirroredCmd _ r c
  | rngSelfTest _ | rngRawSample | sessionClose | sliceQuiesce | migComplete _ | tamperUnlock | ctrRead | pairSwap =>
    refine same ?_
    repeat' split
    all_goals rfl
  | _ => exact same rfl

/-- A request's answer, or its wait, follows its body. -/
theorem keepsFuses_perform (op : MOp) (r : Req) (before : Nat) (c : Cx) : KeepsFuses c.f (perform op r before c).f := by
  have hbody {x : BRes} (h : body op r c = x) : KeepsFuses c.f x.cx.f := h ▸ keepsFuses_body op r c
  unfold perform
  split
  · next h => exact hbody h
  · next h =>
    split
    · exact keepsFuses_refl c.f
    · exact hbody h
  · next h => exact hbody h

theorem quorumCheck_f (owner : Bool) (auth : Nat) (r : Req) (c : Cx) : (quorumCheck owner auth r c).1.f = c.f := by
  unfold quorumCheck
  dsimp only
  repeat' split
  all_goals rfl

theorem openCheck_f (r : Req) (c : Cx) : (openCheck r c).1.f = c.f := by
  unfold openCheck
  dsimp only
  repeat' split
  all_goals rfl

theorem sessionCheck_f (anyScope : Bool) (auth : Nat) (r : Req) (c : Cx) : (sessionCheck anyScope auth r c).1.f = c.f := by
  unfold sessionCheck
  dsimp only
  repeat' split
  all_goals rfl

theorem quorumStep_f (op : MOp) (r : Req) (c : Cx) : (quorumStep op r c).1.f = c.f := by
  unfold quorumStep
  dsimp only
  split
  · split
    · exact openCheck_f r c
    · rfl
  · split
    · exact quorumCheck_f ..
    · exact quorumCheck_f ..
    · rfl

theorem authorise_f (op : MOp) (r : Req) (c : Cx) : (authorise op r c).1.f = c.f := by
  have hsession : (if r.q.session ≠ 0 ∨ classOf c op r.q.scope = .session then
      sessionCheck (classOf c op r.q.scope == .open_) (authorityOf c op r.q.scope) r c else (c, none, 0)).1.f = c.f := by
    split
    · exact sessionCheck_f ..
    · rfl
  unfold authorise
  dsimp only
  split
  · exact hsession
  · exact (quorumStep_f ..).trans hsession

theorem keepsFuses_serve (op : MOp) (q : MbReq) (c : Cx) : KeepsFuses c.f (serve op q c).f := by
  unfold serve
  dsimp only
  split
  · exact keepsFuses_refl c.f
  · split
    · exact keepsFuses_refl c.f
    · split
      · exact keepsFuses_of_eq (authorise_f ..)
      · refine KeepsFuses.trans ?_ (keepsFuses_perform ..)
        exact keepsFuses_of_eq (authorise_f ..)

theorem keepsFuses_overMailbox (op : MOp) (q : MbReq) (c : Cx) : KeepsFuses c.f (overMailbox op q c).f := by
  have hserve (c' : Cx) (h : c'.f = c.f) (q') : KeepsFuses c.f (serve op q' c').f := h ▸ keepsFuses_serve op q' c'
  unfold overMailbox
  dsimp only
  split
  · exact keepsFuses_refl c.f
  · split
    · exact keepsFuses_refl c.f
    · split
      · exact keepsFuses_refl c.f
      · split
        · exact hserve (c.mod _) rfl _
        · exact keepsFuses_refl c.f
        · split
          · split
            · exact hserve _ rfl _
            · exact keepsFuses_refl c.f
          · split
            · split
              · exact keepsFuses_perform _ _ _ (c.mod _)
              · exact keepsFuses_refl c.f
            · exact keepsFuses_refl c.f

theorem spdmAuthorise_f (op : MOp) (k : Nat) (x : SpdmSession) (r : Req) (c : Cx) : (spdmAuthorise op k x r c).1.f = c.f := by
  unfold spdmAuthorise
  split
  · rfl
  · split
    · exact openCheck_f ..
    · rfl
  · split <;> rfl

theorem keepsFuses_overSpdm (op : MOp) (k : Nat) (q : MbReq) (c : Cx) : KeepsFuses c.f (overSpdm op k q c).f := by
  unfold overSpdm
  dsimp only
  split
  · exact keepsFuses_of_eq (ite_mod_f ..)
  · split
    · exact keepsFuses_refl c.f
    · split
      · exact keepsFuses_refl c.f
      · split
        · exact keepsFuses_refl c.f
        · split
          · next h => exact keepsFuses_of_eq ((congrArg (·.1.f) h).symm.trans (spdmAuthorise_f ..))
          · next h =>
            refine KeepsFuses.trans ?_ (keepsFuses_perform ..)
            exact keepsFuses_of_eq ((congrArg (·.1.f) h).symm.trans (spdmAuthorise_f ..))

/-! ## Answers -/

/-- An answer under which every blown fuse stays blown. -/
def FusesKept (s : State) (o : Ans) : Prop := ∀ t, o = .next t → KeepsFuses s.fuse t.fuse

theorem WatchedDev.fusesKept {s : State} {o : Ans} (h : WatchedDev s o) : FusesKept s o := by
  intro t ht
  obtain ⟨d, rfl⟩ := h t ht
  exact keepsFuses_refl s.fuse

theorem fusesKept_onDev (s : State) (f : Dev → Dev) : FusesKept s (onDev f s) := (watched_onDev s f).fusesKept

theorem fusesKept_onUnit (s : State) (ok : Bool) (f : Dev → Dev) : FusesKept s (onUnit ok f s) := (watched_onUnit s ok f).fusesKept

theorem fusesKept_stop {s : State} {x : Fault} : FusesKept s (.fault x) := fun _ h => nomatch h

section
variable {s : State} {c : Cx}

theorem fusesKept_withCx (h : KeepsFuses s.fuse c.f) : FusesKept s (withCx s c) := by
  rintro t ⟨⟩
  exact h

theorem fusesKept_resetTo (h : c.f = s.fuse) : FusesKept s (resetTo s c) := by
  rintro t ⟨⟩
  exact keepsFuses_of_eq h

end

theorem fusesKept_runMgmt (s : State) (op : MOp) (q : MbReq) : FusesKept s (runMgmt op q s) := by
  unfold runMgmt
  split
  · exact fusesKept_withCx (keepsFuses_overSpdm op _ q s.cx)
  · split
    · exact fusesKept_withCx (keepsFuses_overMailbox op q s.cx)
    · exact fusesKept_stop

theorem fusesKept_onFrame {s : State} {ty : Nat} {auth : Bool} {f : Cx → Cx} (h : ∀ c, (f c).f = c.f) :
    FusesKept s (onFrame ty auth f s) := by
  refine fusesKept_withCx ?_
  split
  · exact keepsFuses_refl s.fuse
  · split
    · exact keepsFuses_of_eq (h s.cx)
    · exact keepsFuses_refl s.fuse

theorem fusesKept_onPort {s : State} {ty : Nat} {f : SvcFrame} {l : Nat → Bool} {k : Cx → PortRes}
    (h : ∀ c, KeepsFuses c.f (k c).1.f) : FusesKept s (onPort ty f l k s) := by
  have hk : KeepsFuses s.fuse (if !frameOk ty f then (s.cx, some (1, [])) else if !l f.payload.length then (s.cx, some (3, []))
      else k s.cx : PortRes).1.f := by
    split
    · exact keepsFuses_refl s.fuse
    · split
      · exact keepsFuses_refl s.fuse
      · exact h s.cx
  refine fusesKept_withCx ?_
  split
  · exact keepsFuses_refl s.fuse
  · dsimp only
    split <;> exact hk

theorem keepsFuses_barred {r : Option (Nat × List Byte)} {c : Cx} {k : PortRes} (h : KeepsFuses c.f k.1.f) :
    KeepsFuses c.f (barred r c k).1.f := by
  unfold barred
  split
  · exact keepsFuses_refl c.f
  · exact h

/-! ## Every command -/

theorem fusesKept_journalAck (auth : Bool) (n : Nat) (s : State) : FusesKept s (execJournalAck auth n s) :=
  fusesKept_onFrame fun _ => applySequenced_f ..

theorem fusesKept_status (f : SvcFrame) (s : State) : FusesKept s (execStatus f s) := fusesKept_onPort fun c => keepsFuses_refl c.f

theorem fusesKept_test (f : SvcFrame) (s : State) : FusesKept s (execTest f s) := by
  unfold execTest
  split
  · exact fun _ h => nomatch h
  · exact fusesKept_onPort fun c => keepsFuses_refl c.f

theorem fusesKept_pkgBegin (f : SvcFrame) (s : State) : FusesKept s (execPkgBegin f s) := by
  refine fusesKept_onPort fun c => keepsFuses_barred ?_
  dsimp only
  repeat' split
  all_goals exact keepsFuses_refl c.f

theorem fusesKept_pkgData (f : SvcFrame) (s : State) : FusesKept s (execPkgData f s) := by
  refine fusesKept_onPort fun c => keepsFuses_barred ?_
  dsimp only
  repeat' split
  all_goals exact keepsFuses_refl c.f

theorem fusesKept_pkgEnd (f : SvcFrame) (v : PkgVerdict) (s : State) : FusesKept s (execPkgEnd f v s) := by
  refine fusesKept_onPort fun c => keepsFuses_barred ?_
  dsimp only
  split
  · exact keepsFuses_refl c.f
  · split
    · exact keepsFuses_refl c.f
    · exact keepsFuses_stageImage ..

theorem fusesKept_pkgAbort (f : SvcFrame) (s : State) : FusesKept s (execPkgAbort f s) := by
  refine fusesKept_onPort fun c => keepsFuses_barred ?_
  split <;> exact keepsFuses_refl c.f

theorem fusesKept_activate (f : SvcFrame) (s : State) : FusesKept s (execActivate f s) := by
  refine fusesKept_onPort fun c => keepsFuses_barred ?_
  repeat' split
  all_goals exact keepsFuses_refl c.f

theorem fusesKept_svcLogRead (f : SvcFrame) (s : State) : FusesKept s (execSvcLogRead f s) := by
  refine fusesKept_onPort fun c => keepsFuses_barred ?_
  dsimp only
  split <;> exact keepsFuses_refl c.f

/-- The events that Goose takes up as alarms (R348, R350). -/
theorem fusesKept_alarms {s : State} {p q : Prop} [Decidable p] [Decidable q] {g : Dev → Dev} {srcs : List Nat} {powerUp : Bool} :
    FusesKept s (withCx s (if p then s.cx else if q then s.cx.mod g else alarms srcs powerUp (s.cx.mod g))) := by
  refine fusesKept_withCx (keepsFuses_of_eq ?_)
  split
  · rfl
  · split
    · rfl
    · exact alarms_f ..

theorem fusesKept_activationLoadComplete (failedCores : List Nat) (s : State) :
    FusesKept s (execActivationLoadComplete failedCores s) := by
  unfold execActivationLoadComplete
  split
  · exact fusesKept_stop
  · refine fusesKept_withCx ?_
    split
    · exact keepsFuses_refl s.fuse
    · simp [KeepsFuses, keepsBits_refl]

theorem fusesKept_muleCheckerTest (k : Checker) (pass : Bool) (s : State) : FusesKept s (execMuleCheckerTest k pass s) := by
  unfold execMuleCheckerTest
  split
  · exact fusesKept_stop
  · refine fusesKept_withCx (keepsFuses_of_eq ?_)
    split
    · rfl
    · dsimp only
      split
      · rfl
      · exact checkerFails_f ..

theorem fusesKept_lcScrapStart (s : State) : FusesKept s (execLcScrapStart s) := by
  refine fusesKept_withCx ?_
  split
  · exact keepsFuses_refl s.fuse
  · refine (keepsFuses_fullErase s.cx).trans ?_
    simp only [KeepsFuses, keepsBits_refl, keepsBits_allOnes, implies_true, and_self]

theorem fusesKept_debugReopenStart (s : State) : FusesKept s (execDebugReopenStart s) := by
  refine fusesKept_withCx ?_
  split
  · exact keepsFuses_refl s.fuse
  · exact (keepsFuses_fullErase s.cx).trans (by simp [KeepsFuses, keepsBits_refl])

theorem fusesKept_extTamperPowerupCheck (s : State) : FusesKept s (execExtTamperPowerupCheck s) := by
  refine fusesKept_withCx ?_
  dsimp only
  split
  · exact keepsFuses_refl s.fuse
  · refine KeepsFuses.trans ?_ (keepsFuses_keyStep _)
    exact keepsFuses_of_eq (alarms_f ..)

theorem fusesKept_pufReread (ok : Bool) (s : State) : FusesKept s (execPufReread ok s) := by
  refine fusesKept_withCx ?_
  split
  · exact keepsFuses_refl s.fuse
  · dsimp only
    split
    · exact keepsFuses_keyStep (s.cx.mod _)
    · split <;> exact keepsFuses_refl s.fuse

theorem fusesKept_bootImageVerify (v : BootVerdict) (s : State) : FusesKept s (execBootImageVerify v s) := by
  refine fusesKept_withCx ?_
  dsimp only
  split
  · exact keepsFuses_refl s.fuse
  · split
    · exact keepsFuses_refl s.fuse
    · exact keepsFuses_startImage s.cx

theorem fusesKept_reservationCommit (slice slot : Nat) (s : State) : FusesKept s (execReservationCommit slice slot s) := by
  unfold execReservationCommit
  split
  · exact fusesKept_stop
  · exact fusesKept_withCx (keepsFuses_of_eq (commitFirst_f ..))

/-- Every command by the shape of its answer: the device alone, a unit of it, a request, a frame, or device and fuses together. -/
theorem exec_fusesKept (c : Instr) (s : State) : FusesKept s (exec c s) := by
  cases c with
  | configurationRequest _ | unsupportedRequest _ | descriptorFetch | finish _ | itemDispatch | deviceFaultStop _ | cpLockstepMismatch
  | cpWatchdogKick | cpWatchdogExpiry | engineRequestStart _ | conditionedBlock | aptWindowClose | sourceStartupPass
  | sourceStartupTimeout | reseedComplete | conditionerMismatch | rawSampleRunEnd _ | sessionIdleExpiry _ | debugChallengeExpiry
  | muleProgress | muleProgressTimeout | straitTrainingStart | straitTrainingRetry | heartbeatSend | pairTimeoutExpiry
  | eventRecordWrite | tokenAdd _ | suppressionSummary | dumpPeriodEnd _ | svcResponseRead | svcBootStatusRead | svcResponseTimeout
  | svcReceptionTimeout | activationDrainExpiry | activationBankCommit | doeDiscovery _ | getVersion _ | getCapabilities _
  | negotiateAlgorithms _ | getDigests _ | getCertificate _ | challenge _ | getMeasurements _ | keyExchange _ | heartbeatSpdm _
  | keyUpdate _ | endSession _ | ideKm _ =>
    exact fusesKept_onDev s _
  | linkRetrain _ _ | barAccessRejected _ | registerWrite _ | sqTailWrite _ | cqHeadWrite _ | interruptMessageStoreWrite _
  | descriptorArrival _ _ _ | dmaReadFault _ _ _ | pcieCompletionTimeout _ _ | ideCheckFail _ _ | preemptSave _ _ | itemFinish _ _
  | drainCeilingExpiry _ | coreFence _ _ | engineFence _ _ _ | pkEngineFence _ _ | keyCacheBankFence _ _ _ | sliceError _ _
  | gateViolation _ | engineRequestComplete _ _ | engineAbortComplete _ _ | pkAbortComplete _ | healthTestFailure _ | drbgGenerate _
  | reseedDue _ | drbgInstanceFence _ _ _ | mbAck _ | executionLimitExpiry _ | migrationKeyExpiry _ | tamperSourceClear _
  | scrubPass _ _ _ | skerryScrub _ _ | straitTrainingComplete _ | bwmonWindowEnd _ _ | deviceReady _ _ _ | keyImport _ | keyExport _
  | keyGenerate _ | keyCheckValue _ | keyStore _ | keyDelete _ | keyDerive _ | keyTranslate _ | keyLoadEphemeral _ | keyRelease _
  | keySlotInfo _ | pinTranslate _ | pinVerifyOffset _ | pinOffsetGenerate _ | pinVerifyPvv _ | pvvGenerate _ | pinVerifyReference _
  | pinReferenceGenerate _ | arqcVerify _ | arpcGenerate _ | emvScriptMac _ | emvScriptPin _ | ccvGenerate _ | ccvVerify _
  | macGenerate _ | macVerify _ | dataEncrypt _ | dataDecrypt _ | bulkMacGenerate _ | bulkMacVerify _ | digest _ | digestVerify _
  | hmacDeriveKey _ | rsaSign _ | rsaVerify _ | rsaDecrypt _ | ecdsaSign _ | ecdsaVerify _ | ecdhDerive _ | eddsaSign _ | eddsaVerify _
  | mlkemEncapsulate _ | mlkemDecapsulate _ | mldsaSign _ | mldsaVerify _ | pkKeyGenerate _ | randomGenerate _ | rngStatus _ =>
    exact fusesKept_onUnit s _ _
  | devInfo _ | devReset _ | timeSet _ | nonceGet _ | sessionOpen _ _ _ | sessionClose _ | hifPolicySet _ | rngSelfTest _ _
  | rngRawSample _ | sliceCreate _ | sliceBind _ | sliceRingSetup _ | sliceActivate _ | sliceQuiesce _ | sliceFreeze _ | sliceResume _
  | sliceReset _ | sliceRemove _ | sliceSave _ | sliceRestore _ _ _ | slicePolicySet _ | sliceStatus _ | migrationKeyOffer _
  | migrationKeyAccept _ _ | migrationKeyComplete _ _ | tenantPolicySet _ | officerEnroll _ _ | officerRemove _ | quorumSet _
  | officerList _ | lmkComponentLoad _ | lmkCommit _ | lmkTr34Load _ _ | lmkActivate _ | lmkRemove _ | lmkInfo _ | tr34KrdInit _ _
  | tr34AnchorSet _ _ | curveLoad _ _ | curveClear _ | slotImport _ | slotDelete _ | logRead _ | logClear _ | logRateSet _
  | ctrSelect _ | ctrRead _ | ctrDumpSet _ | bwmonSet _ | ctrGrant _ | ctrRevoke _ | tamperStatus _ | tamperUnlock _ | tamperConfig _
  | tamperFuseDisable _ | lcClose _ | lcScrap _ | debugChallenge _ | debugReopen _ _ | fwStatus _ | fwActivate _ | fwDiscard _
  | pairFound _ | pairJoin _ | pairAdmit _ | pairResolve _ | unpair _ | pairStatus _ | pairTimeoutSet _ | pairSwap _ | pairTakeOver _ =>
    exact fusesKept_runMgmt s _ _
  | svcTransactionTimeout => exact (watched_same s).fusesKept
  | resetNAssert heldNs =>
    refine fusesKept_resetTo ?_
    split
    · rfl
    · dsimp only
      split
      · exact (enterReset_f ..).trans (ite_mod_f ..)
      · exact ite_mod_f ..
  | resetNRelease p =>
    refine fusesKept_resetTo ?_
    split
    · exact start_f ..
    · rfl
  | powerLoss =>
    refine fusesKept_resetTo ?_
    split
    · rfl
    · exact enterReset_f ..
  | perstNAssert =>
    refine fusesKept_resetTo ?_
    dsimp only
    split
    · exact hostReset_f ..
    · rfl
  | perstNRelease p =>
    refine fusesKept_resetTo ?_
    dsimp only
    split
    · exact start_f ..
    · rfl
  | hotReset p | linkDown p =>
    refine fusesKept_resetTo ?_
    split
    · exact hostReset_f ..
    · rfl
  | devResetStart p =>
    refine fusesKept_resetTo ?_
    split
    · split
      · exact hostReset_f ..
      · rfl
    · split
      · exact hostReset_f ..
      · rfl
    · rfl
  | status f => exact fusesKept_status f s
  | svcLogRead f => exact fusesKept_svcLogRead f s
  | pkgBegin f => exact fusesKept_pkgBegin f s
  | pkgData f => exact fusesKept_pkgData f s
  | pkgEnd f v => exact fusesKept_pkgEnd f v s
  | pkgAbort f => exact fusesKept_pkgAbort f s
  | activate f => exact fusesKept_activate f s
  | test f => exact fusesKept_test f s
  | journalReq _ _ | resync _ _ | control _ _ => exact fusesKept_onFrame fun _ => rfl
  | journal _ e => exact fusesKept_onFrame fun c => takeEntry_f e c
  | journalAck auth n => exact fusesKept_journalAck auth n s
  | relinquish _ n => exact fusesKept_onFrame fun c => partnerLeft_f n c
  | reservationCommit slice slot => exact fusesKept_reservationCommit slice slot s
  | muleCheckerTest k pass => exact fusesKept_muleCheckerTest k pass s
  | activationLoadComplete failedCores => exact fusesKept_activationLoadComplete failedCores s
  | cpRestartComplete => exact fusesKept_withCx (keepsFuses_of_eq (by split <;> rfl))
  | instanceInstantiate => exact fusesKept_withCx (keepsFuses_keyStep (s.cx.mod instantiate))
  | lcScrapStart => exact fusesKept_lcScrapStart s
  | debugReopenStart => exact fusesKept_debugReopenStart s
  | tamperAlarm mask temps =>
    refine fusesKept_withCx (keepsFuses_of_eq ?_)
    dsimp only
    split
    · exact alarms_f ..
    · rfl
  | eraseVolatileComplete => exact fusesKept_withCx (keepsFuses_eraseVolatile s.cx)
  | eraseShareComplete => exact fusesKept_withCx (keepsFuses_of_eq (eraseShare_f s.cx))
  | extTamperEdge _ _ | jtagInstructionLoad _ | shieldPatternRenew _ => exact fusesKept_alarms
  | extTamperPhaseTimeout lineB =>
    refine fusesKept_withCx (keepsFuses_of_eq ?_)
    dsimp only
    repeat' split
    all_goals simp
  | fuseResense ok =>
    refine fusesKept_withCx (keepsFuses_of_eq ?_)
    split
    · rfl
    · exact alarms_f ..
  | extTamperPowerupCheck => exact fusesKept_extTamperPowerupCheck s
  | skerryCommit => exact fusesKept_withCx (keepsFuses_of_eq (commitFirst_f ..))
  | hello auth m =>
    refine fusesKept_withCx ?_
    repeat' split
    · exact keepsFuses_refl s.fuse
    · exact keepsFuses_takeHello m s.cx
    · exact keepsFuses_refl s.fuse
  | heartbeat auth m =>
    refine fusesKept_withCx (keepsFuses_of_eq ?_)
    repeat' split
    all_goals simp
  | resyncComplete =>
    refine fusesKept_withCx (keepsFuses_of_eq ?_)
    dsimp only
    split
    · rfl
    · exact enterPaired_f _
  | heartbeatLoss =>
    refine fusesKept_withCx (keepsFuses_of_eq ?_)
    split
    · exact missHeartbeat_f ..
    · rfl
  | journalAckTimeout =>
    refine fusesKept_withCx (keepsFuses_of_eq ?_)
    split
    · exact silentLoss_f _
    · rfl
  | pufReread ok => exact fusesKept_pufReread ok s
  | bootImageVerify v => exact fusesKept_bootImageVerify v s

/-- Settles O3: time blows nothing, and every command keeps what is blown, so that what an earlier state had blown stays. -/
theorem fusesStayBlown : Obligations.FusesStayBlown := by
  unfold Obligations.FusesStayBlown
  intro f s t hf hstep
  refine hf.trans ?_
  unfold step at hstep
  split at hstep
  · cases hstep
    exact keepsFuses_refl s.fuse
  · next c rest _ => exact exec_fusesKept c { s with pending := rest } t hstep

end Sys2Proof.Machine
end

section
/-! PROOF. Target gates (O23): a decision counts and reports a violation before its consequence, and no consequence takes back the report or
a fence. -/

namespace Sys2Proof.Machine

/-! ## What leaves the units and the fault report alone -/

/-- The parts of the device that no item, completion or mailbox answer changes. -/
def unitsOf (d : Dev) : Sys × Fences × Keys × Rng × Goose × Debug × PairStore × Firmware :=
  (d.sys, d.fen, d.keys, d.rng, d.goose, d.dbg, d.store, d.fw)

/-- The second device has those parts of the first. -/
def SameUnits (d e : Dev) : Prop := unitsOf e = unitsOf d

namespace SameUnits

variable {d e f : Dev}

theorem sys (h : SameUnits d e) : e.sys = d.sys := congrArg (fun x => x.1) (show unitsOf e = unitsOf d from h)
theorem fen (h : SameUnits d e) : e.fen = d.fen := congrArg (fun x => x.2.1) (show unitsOf e = unitsOf d from h)
theorem keys (h : SameUnits d e) : e.keys = d.keys := congrArg (fun x => x.2.2.1) (show unitsOf e = unitsOf d from h)
theorem rng (h : SameUnits d e) : e.rng = d.rng := congrArg (fun x => x.2.2.2.1) (show unitsOf e = unitsOf d from h)
theorem goose (h : SameUnits d e) : e.goose = d.goose := congrArg (fun x => x.2.2.2.2.1) (show unitsOf e = unitsOf d from h)
theorem dbg (h : SameUnits d e) : e.dbg = d.dbg := congrArg (fun x => x.2.2.2.2.2.1) (show unitsOf e = unitsOf d from h)
theorem store (h : SameUnits d e) : e.store = d.store := congrArg (fun x => x.2.2.2.2.2.2.1) (show unitsOf e = unitsOf d from h)
theorem fw (h : SameUnits d e) : e.fw = d.fw := congrArg (fun x => x.2.2.2.2.2.2.2) (show unitsOf e = unitsOf d from h)

theorem refl (d : Dev) : SameUnits d d := rfl

theorem trans (h : SameUnits d e) (k : SameUnits e f) : SameUnits d f := Eq.trans k h

/-- A change of none of them before an operation. -/
theorem after_same (h : SameUnits e f) (hs : SameUnits d e) : SameUnits d f := hs.trans h

theorem foldl {α : Type} {f : Dev → α → Dev} (hf : ∀ d x, SameUnits d (f d x)) (l : List α) : ∀ d, SameUnits d (l.foldl f d) := by
  induction l with
  | nil => exact refl
  | cons x l ih => exact fun d => (hf d x).trans (ih _)

end SameUnits

theorem sameUnits_of_replies {d e : Dev} (h : Replies d e) : SameUnits d e := by
  obtain ⟨_, _, _, _, rfl⟩ := h
  exact rfl

theorem sameUnits_raise (code source p1 p2 : Nat) (d : Dev) : SameUnits d (raise code source p1 p2 d) := by simp [SameUnits, unitsOf]

theorem sameUnits_modItem (id : Nat) (f : Item → Item) (d : Dev) : SameUnits d (modItem id f d) := by
  unfold modItem
  split <;> exact rfl

theorem sameUnits_freeThread (p : Place) (d : Dev) : SameUnits d (freeThread p d) := by
  cases p <;> exact rfl

theorem sameUnits_sendMessage (n : Nat) (d : Dev) : SameUnits d (sendMessage n d) := by
  unfold sendMessage
  dsimp only
  split
  · exact rfl
  · split
    · exact by simp [SameUnits, unitsOf]
    · exact by simp [SameUnits, unitsOf]

theorem sameUnits_haltRecord (n ring : Nat) (d : Dev) : SameUnits d (haltRecord n ring d) := by
  unfold haltRecord
  dsimp only
  split
  · exact (sameUnits_sendMessage ..).after_same rfl
  · exact .refl d

theorem sameUnits_countItem (n opcode : Nat) (st : Status) (fenced : Bool) (d : Dev) : SameUnits d (countItem n opcode st fenced d) := by
  unfold countItem
  dsimp only
  split_ifs <;> simp [SameUnits, unitsOf]

theorem sameUnits_complete (n ring tag : Nat) (st : Status) (opcode seq outLen flags : Nat) (inl : List Byte) (irq : Bool) (d : Dev) :
    SameUnits d (complete n ring tag st opcode seq outLen flags inl irq d) := by
  unfold complete
  dsimp only
  refine .trans ?_ (sameUnits_haltRecord ..)
  have recorded : SameUnits d (modRing n ring (fun r => { r with inflight := r.inflight - 1 })
      (putRecord n ring tag st.code opcode seq outLen flags inl d)) := rfl
  have counted := recorded.trans (sameUnits_countItem n opcode st (bitAt flags 1) _)
  split
  · exact counted.trans (sameUnits_sendMessage ..)
  · exact counted

/-- Mailboxes answered one after the other, each from the recorder's number before it. -/
theorem sameUnits_foldl_answers {f : Dev → Nat → Nat → Dev} (hf : ∀ d k m, Replies d (f d k m)) (ms : List Nat) :
    ∀ x : Dev × Nat, SameUnits x.1 (ms.foldl (fun x m => (f x.1 x.2 m, nextSeq (f x.1 x.2 m))) x).1 := by
  induction ms with
  | nil => exact fun x => .refl x.1
  | cons m ms ih => exact fun x => (sameUnits_of_replies (hf x.1 x.2 m)).trans (ih (_, _))

theorem sameUnits_checkDrained (n : Nat) (d : Dev) : SameUnits d (checkDrained n d) := by
  unfold checkDrained
  dsimp only
  split
  · exact .refl d
  · next dr _ =>
    split
    · exact .refl d
    · generalize leBytes 4 dr.drained ++ leBytes 4 dr.aborted ++ leBytes 4 ((dr.last - dr.start) / 1000) ++ leBytes 4 0 = body
      cases (sliceOf d n).state == .error with
      | true =>
        simp only [if_true]
        exact (sameUnits_foldl_answers (f := fun e k m => answer m .sliceState [] [] false k e)
          (fun _ _ _ => replies_answer ..) dr.mailboxes (_, _)).after_same rfl
      | false =>
        simp only [Bool.false_eq_true, if_false]
        refine .trans ?_ (sameUnits_foldl_answers (f := fun e k m => answer m .ok body [] false k e) (fun _ _ _ => replies_answer ..)
          dr.mailboxes (_, _))
        exact (sameUnits_raise ..).after_same rfl

theorem sameUnits_release (id : Nat) (d : Dev) : SameUnits d (release id d) := by
  unfold release
  dsimp only
  split
  · exact .refl d
  · refine .trans ?_ ((sameUnits_complete ..).trans (sameUnits_checkDrained ..))
    refine .trans (e := freeThread _ (modSched _ _)) (.trans ?_ (sameUnits_freeThread ..)) rfl
    split_ifs <;> exact rfl

theorem sameUnits_releaseFollowing (fuel : Nat) : ∀ (k : Nat) (d : Dev), SameUnits d (releaseFollowing fuel k d) := by
  induction fuel with
  | zero => exact fun _ => .refl
  | succ fuel ih =>
    intro k d
    unfold releaseFollowing
    split
    · exact .refl d
    · split
      · exact .refl d
      · exact (sameUnits_release ..).trans ((ih ..).after_same rfl)

theorem sameUnits_fillReorder (fuel : Nat) : ∀ d : Dev, SameUnits d (fillReorder fuel d) := by
  induction fuel with
  | zero => exact .refl
  | succ fuel ih =>
    intro d
    unfold fillReorder
    split
    · exact .refl d
    · split
      · exact .refl d
      · exact ((sameUnits_freeThread ..).trans (sameUnits_modItem ..)).trans (ih _)

theorem sameUnits_finishItem (id : Nat) (d : Dev) : SameUnits d (finishItem id d) := by
  unfold finishItem
  dsimp only
  split
  · exact .refl d
  · next i _ =>
    generalize ({ i with copies := [], run := none, queued := none } : Item) = i1
    refine (sameUnits_modItem id (fun _ => i1) d).trans ?_
    generalize modItem id (fun _ => i1) d = d1
    split
    · split
      · exact (sameUnits_freeThread ..).trans (sameUnits_modItem ..)
      · exact (sameUnits_modItem ..).trans rfl
    · refine .trans ?_ (sameUnits_fillReorder ..)
      split
      · split
        · exact (sameUnits_release ..).trans ((sameUnits_releaseFollowing ..).after_same rfl)
        · exact sameUnits_release ..
      · exact sameUnits_release ..

theorem sameUnits_finishWith (st : Status) (id : Nat) (d : Dev) : SameUnits d (finishWith st id d) :=
  (sameUnits_modItem ..).trans (sameUnits_finishItem ..)

/-- An item's requests and steps end with it. -/
theorem sameUnits_cancel (id : Nat) (d : Dev) : SameUnits d (cancelSteps id (cancelRequests id d)) := rfl

theorem sameUnits_abortNow (id : Nat) (d : Dev) : SameUnits d (abortNow id d) := (sameUnits_cancel ..).trans (sameUnits_finishWith ..)

theorem sameUnits_takeBack (id : Nat) (d : Dev) : SameUnits d (takeBack id d) := by
  unfold takeBack
  split
  · exact .refl d
  · next i _ =>
    refine ((sameUnits_freeThread i.place d).trans (sameUnits_cancel id _)).trans ?_
    dsimp only
    split
    · exact (sameUnits_modItem ..).trans (sameUnits_finishWith ..)
    · split
      · exact (sameUnits_modItem ..).trans (sameUnits_finishWith ..)
      · exact sameUnits_modItem ..

theorem sameUnits_takeBackFrom (n id : Nat) (d : Dev) : SameUnits d (takeBackFrom n d id) := by
  unfold takeBackFrom
  split
  · exact sameUnits_takeBack id d
  · exact .refl d

theorem sameUnits_setEngine (p : Pool) (n : Nat) (e : Engine) (d : Dev) : SameUnits d (setEngine p n e d) := by
  cases p <;> exact rfl

theorem sameUnits_retryItem (id : Nat) (d : Dev) : SameUnits d (retryItem id d) := by
  unfold retryItem
  split
  · exact .refl d
  · split
    · exact sameUnits_abortNow ..
    · split
      · split
        · exact sameUnits_modItem ..
        · exact sameUnits_modItem ..
      · exact sameUnits_modItem ..

theorem sameUnits_endAbort (p : Pool) (n : Nat) (d : Dev) : SameUnits d (endAbort p n d) := by
  unfold endAbort
  dsimp only
  split
  · exact .refl d
  · split
    · exact .refl d
    · refine (sameUnits_setEngine p n {} d).trans ?_
      split
      · split
        · exact sameUnits_abortNow ..
        · exact .refl _
      · exact .refl _

/-- A request that fails reports to its item alone. -/
theorem sameUnits_reportEngine_nothing (q : EngReq) (d : Dev) (h : q.after = .nothing) : SameUnits d (reportEngine q d) := by
  unfold reportEngine
  split
  · exact .refl d
  · split
    · rw [h]
      exact (sameUnits_modItem ..).trans (sameUnits_modItem ..)
    · exact sameUnits_modItem ..

theorem sameUnits_failPool (p : Pool) (d : Dev) : SameUnits d (failPool p d) := by
  unfold failPool
  dsimp only
  split
  · refine .trans (e := { d with eng := { d.eng with queue := d.eng.queue.filter (fun q => q.pool != p) } })
      rfl ?_
    exact .foldl (fun d (q : EngReq) => sameUnits_reportEngine_nothing { q with res := { status := .fault }, after := .nothing } d rfl) _ _
  · exact .refl d

/-! ## Fences -/

theorem getLsbD_bitOr_self {w n : Nat} (x : BitVec w) (h : n < w) : (bitOr x n).getLsbD n = true := by
  rw [bitOr, BitVec.getLsbD_or, BitVec.getLsbD_ofNat, Nat.testBit_two_pow_self, decide_eq_true h]
  simp

/-- The system state but for what a fence or a stop reports in it. -/
structure KeepsViolation (x y : Sys) : Prop where
  denied : x.faultStatus.getLsbD 2 = true → y.faultStatus.getLsbD 2 = true
  count : y.gateViolCount = x.gateViolCount
  info : y.gateViolInfo = x.gateViolInfo
  addr : y.gateViolAddr = x.gateViolAddr

theorem keepsViolation_of_eq {x y : Sys} (h : y = x) : KeepsViolation x y := h ▸ ⟨id, rfl, rfl, rfl⟩

theorem keepsViolation_fenceReport (cls unit cause : Nat) (d : Dev) : KeepsViolation d.sys (fenceReport cls unit cause d).sys := by
  rw [fenceReport_sys]
  exact ⟨fun h => by simp [h], rfl, rfl, rfl⟩

theorem fenceCore_denies (n cause : Nat) (d : Dev) (hn : n < 64) :
    KeepsViolation d.sys (fenceCore n cause d).sys ∧ (fenceCore n cause d).fen.tc.getLsbD n = true := by
  cases h : d.fen.tc.getLsbD n with
  | true => exact ⟨keepsViolation_of_eq (by rw [fenceCore, if_pos h]), by rw [fenceCore, if_pos h, h]⟩
  | false =>
    have taken : SameUnits (coreFenced n cause d) (fenceCore n cause d) := by
      rw [fenceCore_eq cause h]
      exact .foldl (fun d id => sameUnits_takeBackFrom n id d) _ _
    rw [taken.sys, taken.fen]
    exact ⟨keepsViolation_fenceReport 1 n cause { d with fen := { d.fen with tc := bitOr d.fen.tc n } }, by rw [coreFenced, fenceReport_fen]; exact getLsbD_bitOr_self d.fen.tc hn⟩

/-- The width of a pool's fences. -/
def poolWidth : Pool → Nat
  | .cipher => 16
  | .digest => 8
  | .pk => 24

theorem poolFenced_engineFenced (p : Pool) (n cause : Nat) (d : Dev) (hn : n < poolWidth p) :
    poolFenced (engineFenced p n cause d) p n = true := by
  rw [poolFenced.eq_def, engineFenced, fenceReport_fen]
  cases p <;> exact getLsbD_bitOr_self _ hn

theorem keepsViolation_engineFenced (p : Pool) (n cause : Nat) (d : Dev) : KeepsViolation d.sys (engineFenced p n cause d).sys := by
  have kept := keepsViolation_fenceReport (poolClass p) n cause (setEngine p n {} { d with fen := withFence p n d.fen })
  rwa [(sameUnits_setEngine ..).sys] at kept

theorem fenceEngine_eq {p : Pool} {n : Nat} (cause : Nat) {d : Dev} (h : poolFenced d p n = false) :
    SameUnits (engineFenced p n cause d) (fenceEngine p n cause d) := by
  have hshape : fenceEngine p n cause d = match (engineOf d p n).cur with
      | none => engineFenced p n cause d
      | some q => if (engineOf d p n).aborting then endAbort p n (setEngine p n (engineOf d p n) (engineFenced p n cause d))
        else retryItem q.item (engineFenced p n cause d) := by
    cases p <;> simp only [fenceEngine, h, Bool.false_eq_true, if_false] <;> rfl
  rw [hshape]
  split
  · exact .refl _
  · split
    · exact (sameUnits_setEngine ..).trans (sameUnits_endAbort ..)
    · exact sameUnits_retryItem ..

theorem poolFenced_of_fen {d e : Dev} (h : e.fen = d.fen) (p : Pool) (n : Nat) : poolFenced e p n = poolFenced d p n := by
  rw [poolFenced.eq_def, poolFenced.eq_def, h]

theorem fencePool_denies (p : Pool) (n cause : Nat) (d : Dev) (hn : n < poolWidth p) :
    KeepsViolation d.sys (fencePool p n cause d).sys ∧ poolFenced (fencePool p n cause d) p n = true := by
  have failed := sameUnits_failPool p (fenceEngine p n cause d)
  rw [fencePool, failed.sys, poolFenced_of_fen failed.fen]
  cases h : poolFenced d p n with
  | true => exact ⟨keepsViolation_of_eq (by rw [fenceEngine, if_pos h]), by rw [fenceEngine, if_pos h, h]⟩
  | false =>
    have fenced := fenceEngine_eq cause h
    rw [fenced.sys, poolFenced_of_fen fenced.fen]
    exact ⟨keepsViolation_engineFenced .., poolFenced_engineFenced p n cause d hn⟩

/-! ## The device and its CP -/

theorem keepsViolation_setFault (b : Nat) (d : Dev) : KeepsViolation d.sys (setFault b d).sys :=
  ⟨fun h => by simp [setFault, h], rfl, rfl, rfl⟩

theorem faultStop_denies (block : Nat) (d : Dev) :
    KeepsViolation d.sys (faultStop block d).sys ∧ devFault (faultStop block d) = true := by
  cases h : devFault d with
  | true => exact ⟨keepsViolation_of_eq (by rw [faultStop, if_pos h]), by rw [faultStop, if_pos h, h]⟩
  | false =>
    rw [faultStop_first block h]
    refine ⟨?_, devFault_setFault _⟩
    have kept := keepsViolation_setFault 5 (if block = 0x303 then d else raise 0x5009 0xFFFF block 0 d)
    have same : (if block = 0x303 then d else raise 0x5009 0xFFFF block 0 d).sys = d.sys := by split <;> simp
    rwa [same] at kept

theorem cpReset_denies (d : Dev) :
    KeepsViolation d.sys (cpReset none d).sys ∧ ((cpReset none d).sys.cpUp = false ∨ devFault (cpReset none d) = true) := by
  by_cases hdown : (!d.sys.cpUp || devFault d) = true
  · rw [cpReset, if_pos hdown]
    exact ⟨keepsViolation_of_eq rfl, by simpa using hdown⟩
  · rw [cpReset, if_neg hdown]
    dsimp only
    split
    · exact ⟨(faultStop_denies 0 d).1, .inr (faultStop_denies 0 d).2⟩
    · rw [(loseCp_spec _).1]
      exact ⟨⟨fun h => by simp [setFault, h], rfl, rfl, rfl⟩, .inl rfl⟩

/-! ## The masters of a part (R337) -/

/-- The masters of a family are those the part has. -/
theorem activeSet_bounds {d : Dev} {m : Nat} {x : RuleTag × List Rule} (h : activeSet d m = some x) :
    (0x100 ≤ m → m < 0x200 → m - 0x100 < 4 * coreCount d) ∧ (0x210 ≤ m → m < 0x220 → m - 0x210 < deCount d) ∧
      (0x220 ≤ m → m < 0x300 → m - 0x220 < pkCount d) := by
  have few : coreCount d ≤ 64 ∧ ceCount d ≤ 16 ∧ deCount d ≤ 8 := by
    unfold coreCount ceCount deCount Config.cores Config.cipherEngines Config.digestEngines
    cases d.sys.pg40 <;> decide
  unfold activeSet at h
  dsimp only at h
  grind

/-! ## A violation (R340, R344, R346) -/

/-- What a violation does to its master, a master of the part. -/
structure Consequence (m : Nat) (d e : Dev) : Prop where
  kept : KeepsViolation d.sys e.sys
  core : 0x100 ≤ m → m < 0x200 → e.fen.tc.getLsbD ((m - 0x100) / 4) = true
  cipher : 0x200 ≤ m → m < 0x210 → e.fen.ce.getLsbD (m - 0x200) = true
  digest : 0x210 ≤ m → m < 0x220 → e.fen.de.getLsbD (m - 0x210) = true
  pk : 0x220 ≤ m → m < 0x300 → e.fen.pk.getLsbD (m - 0x220) = true
  cp : m = 0 → e.sys.cpUp = false ∨ devFault e = true
  other : 0x300 ≤ m → devFault e = true

theorem gateConsequence_follows {d0 : Dev} {m : Nat} {x : RuleTag × List Rule} (h : activeSet d0 m = some x) (d : Dev) :
    Consequence m d (gateConsequence m d) := by
  have few : coreCount d0 ≤ 64 ∧ deCount d0 ≤ 8 ∧ pkCount d0 ≤ 24 := by
    unfold coreCount deCount pkCount Config.cores Config.digestEngines Config.pkEngines
    cases d0.sys.pg40 <;> decide
  obtain ⟨hcore, hdigest, hpk⟩ := activeSet_bounds h
  have core (h1 : 0x100 ≤ m) (h2 : m < 0x200) := fenceCore_denies ((m - 0x100) / 4) 4 d (by have := hcore h1 h2; omega)
  have cipher (_ : 0x200 ≤ m) (_ : m < 0x210) := fencePool_denies .cipher (m - 0x200) 4 d (by rw [poolWidth]; omega)
  have digest (h1 : 0x210 ≤ m) (h2 : m < 0x220) := fencePool_denies .digest (m - 0x210) 4 d (by
    have := hdigest h1 h2; rw [poolWidth]; omega)
  have pk (h1 : 0x220 ≤ m) (h2 : m < 0x300) := fencePool_denies .pk (m - 0x220) 4 d (by have := hpk h1 h2; rw [poolWidth]; omega)
  constructor
  case kept =>
    unfold gateConsequence
    split
    next h => exact (core h.1 h.2).1
    split
    next h => exact (cipher h.1 h.2).1
    split
    next h => exact (digest h.1 h.2).1
    split
    next h => exact (pk h.1 h.2).1
    split
    · exact (cpReset_denies d).1
    · exact (faultStop_denies m d).1
  case core =>
    intro h1 h2
    rw [gateConsequence, if_pos ⟨h1, h2⟩]
    exact (core h1 h2).2
  case cipher =>
    intro h1 h2
    rw [gateConsequence, if_neg (by omega), if_pos ⟨h1, h2⟩]
    exact (cipher h1 h2).2
  case digest =>
    intro h1 h2
    rw [gateConsequence, if_neg (by omega), if_neg (by omega), if_pos ⟨h1, h2⟩]
    exact (digest h1 h2).2
  case pk =>
    intro h1 h2
    rw [gateConsequence, if_neg (by omega), if_neg (by omega), if_neg (by omega), if_pos ⟨h1, h2⟩]
    exact (pk h1 h2).2
  case cp =>
    rintro rfl
    exact (cpReset_denies d).2
  case other =>
    intro h1
    rw [gateConsequence, if_neg (by omega), if_neg (by omega), if_neg (by omega), if_neg (by omega), if_neg (by omega)]
    exact (faultStop_denies m d).2

/-- The device once a violation is counted and reported, before its consequence. -/
def violationReported (a : GateAccess) (tag : RuleTag) (k : Nat) (d : Dev) : Dev :=
  let d1 := count 0x4001 1 (tagSlice tag) (some a.master) (tag == .cpWork) (some (a.target, a.addr)) d
  let first := !d1.sys.faultStatus.getLsbD 2
  raise 0x9020 ((tagSlice tag).getD 0) (gateInfo tag a k) a.addr (setFault 2 { d1 with sys := { d1.sys with
    gateViolCount := sat 0xFFFFFFFF (d1.sys.gateViolCount + 1)
    gateViolInfo := if first then BitVec.ofNat 64 (gateInfo tag a k) else d1.sys.gateViolInfo
    gateViolAddr := if first then BitVec.ofNat 64 a.addr else d1.sys.gateViolAddr } })

theorem violationReported_sys (a : GateAccess) (tag : RuleTag) (k : Nat) (d : Dev) : (violationReported a tag k d).sys = { d.sys with
    gateViolCount := sat 0xFFFFFFFF (d.sys.gateViolCount + 1)
    gateViolInfo := if d.sys.faultStatus.getLsbD 2 then d.sys.gateViolInfo else BitVec.ofNat 64 (gateInfo tag a k)
    gateViolAddr := if d.sys.faultStatus.getLsbD 2 then d.sys.gateViolAddr else BitVec.ofNat 64 a.addr
    faultStatus := d.sys.faultStatus ||| 4 } := by
  simp only [violationReported, raise_sys, setFault, count_sys, Bool.not_eq_true', ← Bool.not_eq_true, ite_not]
  rfl

section
variable {a : GateAccess} {d : Dev} {tag : RuleTag} {rules : List Rule} (hset : activeSet d a.master = some (tag, rules))
include hset

theorem gateDecide_allowed (hk : gateKind d a = none) :
    gateDecide a d = count 0x4000 1 (tagSlice tag) (some a.master) (tag == .cpWork) (some (a.target, a.addr)) d := by
  simp only [gateDecide, hset, hk]

theorem gateDecide_probe {k : Nat} (hk : gateKind d a = some k) (hm : a.master = 0x302) (hp : a.probe = true) : gateDecide a d = d := by
  simp only [gateDecide, hset, hk]
  exact if_pos (by simp [hm, hp])

theorem gateDecide_denied {k : Nat} (hk : gateKind d a = some k) (h : a.master ≠ 0x302 ∨ a.probe = false) :
    gateDecide a d = gateConsequence a.master (violationReported a tag k d) := by
  simp only [gateDecide, hset, hk]
  exact if_neg (by rcases h with h | h <;> simp [h])

end

/-- Settles O23, with the report made before the consequence and every consequence keeping it. -/
theorem targetGates : Obligations.TargetGates := by
  unfold Obligations.TargetGates
  intro s a tag rules hset
  have hok : (activeSet s.dev a.master).isSome = true := by rw [hset]; rfl
  have does {d : Dev} (h : gateDecide a s.dev = d) : Does (.gateViolation a) s d := by
    have hrow : exec (.gateViolation a) s = onUnit (activeSet s.dev a.master).isSome (gateDecide a) s := exec_gateViolation a s
    exact does_of_onUnit hrow hok h
  refine ⟨fun hk => does (gateDecide_allowed hset hk), fun k hk hm hp => ?_, fun k hk h => ?_⟩
  · have kept := does (gateDecide_probe hset hk hm hp)
    rwa [Does, show watch (fun _ => s.dev) s.dev = s.dev from watch_same _ _ rfl] at kept
  · refine ⟨_, does (gateDecide_denied hset hk h), rfl, ?_⟩
    obtain ⟨kept, core, cipher, digest, pk, cp, other⟩ := gateConsequence_follows hset (violationReported a tag k s.dev)
    obtain ⟨denied, count, info, addr⟩ := kept
    rw [violationReported_sys] at denied count info addr
    simp only [watch_sys, watch_fen, devFault_watch]
    refine ⟨denied (by simp), count, fun hf => ⟨info.trans ?_, addr.trans ?_⟩, fun hf => ⟨info.trans ?_, addr.trans ?_⟩,
      core, cipher, digest, pk, cp, other⟩
    all_goals simp only [hf, Bool.false_eq_true, if_false, if_true]

end Sys2Proof.Machine
end

section
/-! PROOF. The tamper unlock (O54): its checks one by one. -/

namespace Sys2Proof.Machine

/-- An input of another length than its command defines. -/
theorem len_fails {r : Req} {n : Nat} (h : r.inp.length ≠ n) : len r n = (false, .format) := by simp [len, h]

section
variable {r : Req} {c : Cx} (hinp : r.inp = [])
include hinp

theorem tamperUnlockCmd_unlocked (hlock : c.d.goose.lock = false) : tamperUnlockCmd r c = .fail .policy c [] := by
  simp [tamperUnlockCmd, len_empty hinp, hlock]

theorem tamperUnlockCmd_erasing (hlock : c.d.goose.lock = true) (herase : c.d.goose.eraseBegun = true) :
    tamperUnlockCmd r c = .fail .locked c (leBytes 4 ((c.d.goose.latched &&& c.d.goose.uncleared).toNat + 2 ^ 31)) := by
  simp [tamperUnlockCmd, len_empty hinp, hlock, herase]

theorem tamperUnlockCmd_uncleared (hlock : c.d.goose.lock = true) (herase : c.d.goose.eraseBegun = false)
    (hleft : (c.d.goose.latched &&& c.d.goose.uncleared).toNat ≠ 0) :
    tamperUnlockCmd r c = .fail .locked c (leBytes 4 (c.d.goose.latched &&& c.d.goose.uncleared).toNat) := by
  simp only [tamperUnlockCmd, len_empty hinp, hlock, herase, behind_pass, behind_nil, Bool.false_eq_true, if_false, if_pos hleft]

theorem tamperUnlockCmd_unlocks (hlock : c.d.goose.lock = true) (herase : c.d.goose.eraseBegun = false)
    (hleft : (c.d.goose.latched &&& c.d.goose.uncleared).toNat = 0) :
    tamperUnlockCmd r c = .done (c.mod (fun d => raise 0x1002 0xFFFF d.goose.latched.toNat 0
      (modGoose (fun g => { g with latched := 0, uncleared := 0, alarmOut := false, lock := false }) d))) [] [] := by
  simp only [tamperUnlockCmd, len_empty hinp, hlock, herase, behind_pass, behind_nil, Bool.false_eq_true, if_false, ne_eq, hleft,
    not_true]
  rfl

end

/-- Settles O54: the length, the Lock, the Erase and the sources not cleared are checked in that order, and nothing is left to fail. -/
theorem tamperUnlock : Obligations.TamperUnlock := by
  unfold Obligations.TamperUnlock
  intro q s r c hadmits
  have hrow := exec_tamperUnlock q s
  refine ⟨fun hne => ?_, fun hinp => ⟨fun hlock => ?_, fun hlock herase => ?_, fun hlock herase hleft => ?_, fun hlock herase hleft => ?_⟩⟩
  · refine answers_fail hrow hadmits (c1 := c) ?_
    show tamperUnlockCmd r c = _
    rw [tamperUnlockCmd, len_fails (by simpa using hne)]
    rfl
  · exact answers_fail hrow hadmits (tamperUnlockCmd_unlocked hinp hlock)
  · exact answers_fail hrow hadmits (tamperUnlockCmd_erasing hinp hlock herase)
  · exact answers_fail hrow hadmits (tamperUnlockCmd_uncleared hinp hlock herase hleft)
  · exact ⟨answers_done hrow hadmits (tamperUnlockCmd_unlocks hinp hlock herase hleft) (Nat.zero_le _), by simp [Cx.mod, modGoose],
      by simp [Cx.mod, modGoose], by simp [Cx.mod, modGoose], by simp [Cx.mod]⟩

end Sys2Proof.Machine
end

section
/-! PROOF. The event log and the counters through the mailboxes (O52, O53): each request passes or fails its checks in their order, and what is
left is a value or one change of the recorder or of the counters. -/

namespace Sys2Proof.Machine

/-- An input of four reserved bytes. -/
theorem fourZeros_pass {r : Req} (h : r.inp = [0, 0, 0, 0]) : len r 4 = (true, .format) ∧ rsv r 0 4 = (true, .format) :=
  ⟨len_passes (by rw [h]; rfl), rsv_passes (by rw [h]; rfl)⟩

theorem slice8_one (l : List Byte) (o : Nat) : slice8 l o 1 = [l.getD o 0] := by
  have hhead : (l.drop o).head? = l[o]? := List.head?_drop
  rw [slice8, List.getD_eq_getElem?_getD, ← hhead]
  cases l.drop o <;> rfl

/-- A reserved byte read as a number. -/
theorem zeroFrom_one {l : List Byte} {o : Nat} (h : leAt l o 1 = 0) : zeroFrom l o (o + 1) = true := by
  have hbyte : l.getD o 0 = 0 := BitVec.eq_of_toNat_eq (by simpa [leAt] using h)
  rw [zeroFrom, Nat.add_sub_cancel_left, slice8_one, hbyte]
  rfl

/-! ## The log (R410 to R413) -/

section
variable {r : Req} {c : Cx}

theorem logReadCmd_reads (hlen : r.inp.length = 16) (hok : logReadOk r.inp = true) (hcap : 32 * leAt r.inp 4 4 ≤ r.q.outCap) :
    logReadCmd r c = .done c (readLog c.d.sys.cpUp (leAt r.inp 0 1) (leAt r.inp 4 4) (leAt r.inp 8 8) c.d).2
      (readLog c.d.sys.cpUp (leAt r.inp 0 1) (leAt r.inp 4 4) (leAt r.inp 8 8) c.d).1 := by
  have hroom : outCap r (32 * r.f 4 4) = (true, .length) := outCap_passes hcap
  rw [logReadCmd, len_passes hlen, hok, hroom]
  rfl

theorem logReadCmd_malformed (hlen : r.inp.length = 16) (hok : logReadOk r.inp = false) : logReadCmd r c = .fail .format c [] := by
  rw [logReadCmd, len_passes hlen, hok]
  rfl

theorem logReadCmd_tooLong (hlen : r.inp.length = 16) (hok : logReadOk r.inp = true) (hcap : r.q.outCap < 32 * leAt r.inp 4 4) :
    logReadCmd r c = .fail .length c [] := by
  have hfull : outCap r (32 * r.f 4 4) = (false, .length) := congrArg (·, _) (decide_eq_false (Nat.not_le.mpr hcap))
  rw [logReadCmd, len_passes hlen, hok, hfull]
  rfl

theorem logClearCmd_clears (hinp : r.inp = [0, 0, 0, 0]) : logClearCmd r c = .done (c.mod clearLog) [] [] := by
  rw [logClearCmd, (fourZeros_pass hinp).1, (fourZeros_pass hinp).2]
  rfl

end

/-- A clear of a log that holds records names the first it clears and their count. -/
theorem clearLog_held {d : Dev} (h : max d.log.clearMark (nextSeq d - 262144) < nextSeq d) :
    clearLog d = raise 0xA002 0xFFFF (max d.log.clearMark (nextSeq d - 262144))
      (sat 0xFFFFFFFF (nextSeq d - max d.log.clearMark (nextSeq d - 262144))) { d with log := { d.log with clearMark := nextSeq d } } := if_pos h

theorem clearLog_empty {d : Dev} (h : nextSeq d ≤ max d.log.clearMark (nextSeq d - 262144)) :
    clearLog d = raise 0xA002 0xFFFF (nextSeq d) 0 { d with log := { d.log with clearMark := nextSeq d } } := if_neg (Nat.not_lt.mpr h)

theorem setRate_set {code rate burst : Nat} (d : Dev) (h : rate ≠ 0) :
    setRate code rate burst d = raise 0xA003 0xFFFF code (rate * 65536 + burst) { d with log := { d.log with
      rates := Tab.put d.log.rates code (rate, burst), spent := Tab.del d.log.spent code } } := by
  simp [setRate, h, rateOf]

/-- Zeros restore the default of every code (R408). -/
theorem setRate_restore {code burst : Nat} (d : Dev) :
    setRate code 0 burst d = raise 0xA003 0xFFFF code (32 * 65536 + 256) { d with log := { d.log with
      rates := Tab.del d.log.rates code, spent := Tab.del d.log.spent code } } := by
  simp [setRate, rateOf, Tab.getD, Tab.find_del_same]

/-- A rate and a burst that are set or restored together, each in range. -/
theorem rateForm_iff {rate burst : Nat} : ((rate == 0) == (burst == 0) && decide (rate ≤ 4096) && decide (burst ≤ 4096)) = true ↔
    (rate = 0 ↔ burst = 0) ∧ rate ≤ 4096 ∧ burst ≤ 4096 := by
  rw [Bool.and_eq_true, Bool.and_eq_true, beq_iff_eq, Bool.eq_iff_iff, beq_iff_eq, beq_iff_eq, decide_eq_true_iff, decide_eq_true_iff, and_assoc]

section
variable {r : Req} {c : Cx} (hlen : r.inp.length = 8) (hzero : zeroFrom r.inp 6 8 = true)
include hlen hzero

theorem logRateCmd_malformed
    (h : 4096 < leAt r.inp 2 2 ∨ 4096 < leAt r.inp 4 2 ∨ ¬ (leAt r.inp 2 2 = 0 ↔ leAt r.inp 4 2 = 0)) :
    logRateCmd r c = .fail .format c [] := by
  have hbad : ((r.f 2 2 == 0) == (r.f 4 2 == 0) && decide (r.f 2 2 ≤ 4096) && decide (r.f 4 2 ≤ 4096)) = false := by
    rw [Bool.eq_false_iff, ne_eq, rateForm_iff]
    rintro ⟨hboth, hrate, hburst⟩
    exact h.elim (Nat.not_lt.mpr hrate) fun h => h.elim (Nat.not_lt.mpr hburst) fun h => h hboth
  simp only [logRateCmd, len_passes hlen, rsv_passes hzero, hbad, behind_pass, behind_stop]

section
variable (hrate : leAt r.inp 2 2 ≤ 4096) (hburst : leAt r.inp 4 2 ≤ 4096) (hboth : leAt r.inp 2 2 = 0 ↔ leAt r.inp 4 2 = 0)
include hrate hburst hboth

theorem logRateCmd_wellFormed : logRateCmd r c = behind [(rateLimited (leAt r.inp 0 2), .policy)] c
    (.done (c.mod (setRate (leAt r.inp 0 2) (leAt r.inp 2 2) (leAt r.inp 4 2))) [] []) := by
  have hgood : ((r.f 2 2 == 0) == (r.f 4 2 == 0) && decide (r.f 2 2 ≤ 4096) && decide (r.f 4 2 ≤ 4096)) = true :=
    rateForm_iff.mpr ⟨hboth, hrate, hburst⟩
  simp only [logRateCmd, len_passes hlen, rsv_passes hzero, hgood, behind_pass]
  rfl

theorem logRateCmd_unlimited (h : rateLimited (leAt r.inp 0 2) = false) : logRateCmd r c = .fail .policy c [] := by
  rw [logRateCmd_wellFormed hlen hzero hrate hburst hboth, h, behind_stop]

theorem logRateCmd_sets (h : rateLimited (leAt r.inp 0 2) = true) :
    logRateCmd r c = .done (c.mod (setRate (leAt r.inp 0 2) (leAt r.inp 2 2) (leAt r.inp 4 2))) [] [] := by
  rw [logRateCmd_wellFormed hlen hzero hrate hburst hboth, h, behind_pass, behind_nil]

end

end

/-- Settles O52: a read, a clear and a rate behind their checks, the restored rate being the default of every code. -/
theorem logRequests : Obligations.LogRequests := by
  unfold Obligations.LogRequests
  intro q s r c
  refine ⟨fun hadmits hlen => ⟨fun hok hcap hfits => ?_, fun hok => ?_, fun hok hcap => ?_⟩, fun hadmits hinp => ⟨fun hlow => ?_, fun hlow => ?_⟩,
    fun hadmits hlen hzero hbad => ?_, fun hadmits hlen hzero hrate hburst hboth => ⟨fun hlim => ?_, fun hlim hset => ?_, fun hlim hset => ?_⟩⟩
  · exact answers_done (exec_logRead q s) hadmits (logReadCmd_reads hlen hok hcap) hfits
  · exact answers_fail (exec_logRead q s) hadmits (logReadCmd_malformed hlen hok)
  · exact answers_fail (exec_logRead q s) hadmits (logReadCmd_tooLong hlen hok hcap)
  · have done := answers_done (exec_logClear q s) hadmits (logClearCmd_clears hinp) (Nat.zero_le _)
    rwa [Cx.mod, clearLog_held hlow] at done
  · have done := answers_done (exec_logClear q s) hadmits (logClearCmd_clears hinp) (Nat.zero_le _)
    rwa [Cx.mod, clearLog_empty hlow] at done
  · exact answers_fail (exec_logRateSet q s) hadmits (logRateCmd_malformed hlen hzero hbad)
  · exact answers_fail (exec_logRateSet q s) hadmits (logRateCmd_unlimited hlen hzero hrate hburst hboth hlim)
  · have done := answers_done (exec_logRateSet q s) hadmits (logRateCmd_sets hlen hzero hrate hburst hboth hlim) (Nat.zero_le _)
    rwa [Cx.mod, setRate_set c.d hset] at done
  · have done := answers_done (exec_logRateSet q s) hadmits (logRateCmd_sets hlen hzero hrate hburst hboth hlim) (Nat.zero_le _)
    rwa [Cx.mod, hset, setRate_restore] at done

/-! ## Selecting a counter (R417, R422) -/

/-- The fields of a selection that stand alone are in range. -/
def ctrFieldsOk (r : Req) : Bool :=
  decide (r.f 0 2 < 256) && decide (r.f 2 1 < 16) && decide (1 ≤ r.f 3 1) && decide (r.f 3 1 < 8) && decide (r.f 8 2 < 1024)
    && decide (r.f 10 2 < 1024) && decide (r.f 12 2 < 4096) && zeroFrom r.inp 14 16 && zeroFrom r.inp 29 32

/-- The events a selection admits. -/
def ctrEvents (r : Req) : List Nat := admitted (r.f 4 2) (r.f 6 2)

/-- The counter a selection makes of an old one. -/
def ctrSelected (r : Req) (old : Ctr) : Ctr :=
  ⟨if bitAt (r.f 2 1) 1 then 0 else old.value, !bitAt (r.f 2 1) 1 && old.ovf, bitAt (r.f 2 1) 0, old.grant, r.f 4 2, r.f 6 2, r.f 3 1, r.f 8 2,
    r.f 10 2, bitAt (r.f 2 1) 2 || old.grant.isSome, if old.grant.isSome then old.slice else r.f 12 2, bitAt (r.f 2 1) 3, r.f 16 8,
    r.f 24 4, r.f 28 1⟩

/-- A window, where one is enabled, is of whole pages and its events carry an address. -/
def ctrWindowOk (r : Req) : Prop :=
  bitAt (r.f 2 1) 3 = true → (∀ e ∈ ctrEvents r, e / 4096 = 4) ∧ r.f 16 8 % 4096 = 0 ∧ 1 ≤ r.f 24 4

section
variable {r : Req} {c : Cx} (hlen : r.inp.length = 32) (hfields : ctrFieldsOk r = true)
include hlen hfields

theorem ctrSelectCmd_wellFormed : ctrSelectCmd r c = behind [(!(ctrEvents r).isEmpty, .format),
    (!bitAt (r.f 2 1) 3 || ((ctrEvents r).all (fun e => e / 4096 == 4) && r.f 16 8 % 4096 == 0 && decide (1 ≤ r.f 24 4)), .format),
    ((ctrOf c.d (r.f 0 2)).grant.isNone || (ctrEvents r).all carriesSlice, .policy)] c
    (.done (c.mod (setCtr (r.f 0 2) (ctrSelected r (ctrOf c.d (r.f 0 2))))) [] []) := by
  rw [ctrSelectCmd, len_passes hlen, behind_pass]
  exact (congrArg (fun b => behind ((b, _) :: _) c _) hfields).trans (behind_pass ..)

theorem ctrSelectCmd_noEvent (h : ctrEvents r = []) : ctrSelectCmd r c = .fail .format c [] := by
  rw [ctrSelectCmd_wellFormed hlen hfields, h]
  rfl

section
variable (hev : ctrEvents r ≠ []) (hwindow : ctrWindowOk r)
include hev hwindow

theorem ctrSelectCmd_events : ctrSelectCmd r c = behind [((ctrOf c.d (r.f 0 2)).grant.isNone || (ctrEvents r).all carriesSlice, .policy)] c
    (.done (c.mod (setCtr (r.f 0 2) (ctrSelected r (ctrOf c.d (r.f 0 2))))) [] []) := by
  have hsome : (!(ctrEvents r).isEmpty) = true := by simpa using hev
  have hpages : (!bitAt (r.f 2 1) 3 || ((ctrEvents r).all (fun e => e / 4096 == 4) && r.f 16 8 % 4096 == 0 && decide (1 ≤ r.f 24 4))) = true := by
    simpa [ctrWindowOk, imp_iff_not_or, and_assoc] using hwindow
  rw [ctrSelectCmd_wellFormed hlen hfields, hsome, hpages, behind_pass, behind_pass]

theorem ctrSelectCmd_unsliced (hgrant : (ctrOf c.d (r.f 0 2)).grant.isSome = true) (h : ∃ e ∈ ctrEvents r, carriesSlice e = false) :
    ctrSelectCmd r c = .fail .policy c [] := by
  have hbad : ((ctrOf c.d (r.f 0 2)).grant.isNone || (ctrEvents r).all carriesSlice) = false := by
    simpa [hgrant, ← Option.not_isSome] using h
  rw [ctrSelectCmd_events hlen hfields hev hwindow, hbad, behind_stop]

theorem ctrSelectCmd_selects (h : (ctrOf c.d (r.f 0 2)).grant = none ∨ ∀ e ∈ ctrEvents r, carriesSlice e = true) :
    ctrSelectCmd r c = .done (c.mod (setCtr (r.f 0 2) (ctrSelected r (ctrOf c.d (r.f 0 2))))) [] [] := by
  have hgood : ((ctrOf c.d (r.f 0 2)).grant.isNone || (ctrEvents r).all carriesSlice) = true := by simpa using h
  rw [ctrSelectCmd_events hlen hfields hev hwindow, hgood, behind_pass, behind_nil]

end

end

/-! ## Reading, dumping and monitoring (R419 to R421) -/

section
variable {r : Req} {c : Cx}

theorem ctrReadCmd_reads (hlen : r.inp.length = 4) (hone : 1 ≤ r.f 2 1) (hmost : r.f 2 1 ≤ 251) (hlast : r.f 0 2 + r.f 2 1 ≤ 256)
    (hflag : r.f 3 1 ≤ 1) :
    ctrReadCmd r c = .done (if r.f 3 1 = 1 then c.mod (fun d => (List.range' (r.f 0 2) (r.f 2 1)).foldl (fun d k =>
        if (ctrOf d k).grant.isSome then d else setCtr k { ctrOf d k with value := 0, ovf := false } d) d) else c)
      (leBytes 8 (now c.d) ++ ((List.range' (r.f 0 2) (r.f 2 1)).map (fun k => leBytes 8 (ctrValue (ctrOf c.d k)))).flatten) [] := by
  simp only [ctrReadCmd, len_passes hlen, hone, hmost, hlast, hflag, decide_true, Bool.and_true, behind_pass, behind_nil]

theorem ctrDumpCmd_wellFormed (hlen : r.inp.length = 20) (halign : r.f 0 8 % 64 = 0) (htwo : 2 ≤ r.f 8 4) (hslots : r.f 8 4 ≤ 65536)
    (hperiod : r.f 12 4 = 0 ∨ 10 ≤ r.f 12 4) (hperiod' : r.f 12 4 ≤ 10000000) (hflag : r.f 16 4 ≤ 1) :
    ctrDumpCmd r c = behind [(decide (r.f 0 8 + 2240 * r.f 8 4 ≤ 2 ^ 64), .length)] c
      (.done (c.mod (fun d => { d with ctr := { d.ctr with
        dumpAddr := r.f 0 8, dumpSlots := r.f 8 4, dumpPeriod := r.f 12 4, dumpSignal := r.f 16 4 == 1
        dumpSeq := if r.f 12 4 = 0 then d.ctr.dumpSeq else 0
        missed := if r.f 12 4 = 0 then d.ctr.missed else 0
        dumpMissed := if r.f 12 4 = 0 then d.ctr.dumpMissed else 0 } })) [] []) := by
  have hfields : (r.f 0 8 % 64 == 0 && decide (2 ≤ r.f 8 4) && decide (r.f 8 4 ≤ 65536) && (r.f 12 4 == 0 || decide (10 ≤ r.f 12 4))
      && decide (r.f 12 4 ≤ 10000000) && decide (r.f 16 4 ≤ 1)) = true := by
    simpa [halign, htwo, hslots, hperiod', hflag] using hperiod
  rw [ctrDumpCmd, len_passes hlen, behind_pass, hfields, behind_pass]

/-- A monitor as `BWMON_SET` leaves it: its peak goes with a clear or another window (R420). -/
def monSet (r : Req) (d : Dev) (k : Nat) : Dev :=
  let x := monOf d k
  let keep := r.f 1 1 = 0 ∧ x.window = r.f 4 4
  let y : Bwmon := ⟨r.f 4 4, x.last, if keep then x.peak else 0, if keep then x.peakTime else 0⟩
  { d with ctr := { d.ctr with mon := Tab.put d.ctr.mon k y } }

section
variable (hlen : r.inp.length = 8) (hzero : zeroFrom r.inp 2 4 = true) (hflag : r.f 1 1 ≤ 1) (hwindow : r.f 4 4 ≤ 1000000)
include hlen hzero hflag hwindow

theorem bwmonCmd_sets (hm : r.f 0 1 < 8 ∨ r.f 0 1 = 0xFF) :
    bwmonCmd r c = .done (c.mod (fun d => (if r.f 0 1 = 0xFF then List.range 8 else [r.f 0 1]).foldl (monSet r) d)) [] [] := by
  have hfields : ((decide (r.f 0 1 < 8) || r.f 0 1 == 0xFF) && decide (r.f 1 1 ≤ 1) && decide (r.f 4 4 ≤ 1000000)) = true := by
    simpa [hflag, hwindow] using hm
  have hset (d : Dev) (k : Nat) : ({ d with ctr := { d.ctr with mon := Tab.put d.ctr.mon k { monOf d k with
      window := r.f 4 4
      peak := if r.f 1 1 == 1 || (monOf d k).window != r.f 4 4 then 0 else (monOf d k).peak
      peakTime := if r.f 1 1 == 1 || (monOf d k).window != r.f 4 4 then 0 else (monOf d k).peakTime } } } : Dev) = monSet r d k := by
    by_cases hkeep : r.f 1 1 = 0 ∧ (monOf d k).window = r.f 4 4
    · simp [monSet, hkeep]
    · have hclear : (r.f 1 1 == 1 || (monOf d k).window != r.f 4 4) = true := by
        rw [Bool.or_eq_true, beq_iff_eq, bne_iff_ne]
        omega
      simp only [monSet, hclear, if_true, if_neg hkeep]
  rw [bwmonCmd, len_passes hlen, rsv_passes hzero, behind_pass, behind_pass, hfields, behind_pass, behind_nil]
  simp only [hset]

omit hflag hwindow in
theorem bwmonCmd_noMonitor (hm : 8 ≤ r.f 0 1) (hm' : r.f 0 1 ≠ 0xFF) : bwmonCmd r c = .fail .format c [] := by
  have hbad : ((decide (r.f 0 1 < 8) || r.f 0 1 == 0xFF) && decide (r.f 1 1 ≤ 1) && decide (r.f 4 4 ≤ 1000000)) = false := by
    simp [Nat.not_lt.mpr hm, hm']
  rw [bwmonCmd, len_passes hlen, rsv_passes hzero, behind_pass, behind_pass, hbad, behind_stop]

end

end

/-! ## Grants (R422) -/

section
variable {r : Req} {c : Cx}

section
variable (hlen : r.inp.length = 6) (hzero : r.f 5 1 = 0) (hn : r.f 0 2 < 256) (hm : r.f 2 2 < 4096) (hk : r.f 4 1 < 8)
include hlen hzero hn hm hk

theorem ctrGrantCmd_wellFormed : ctrGrantCmd r c = behind [
      ((ctrOf c.d (r.f 0 2)).grant.isNone && c.d.ctr.ctr.all (fun e => e.2.grant != some (r.f 2 2, r.f 4 1)), .policy),
      ((admitted (ctrOf c.d (r.f 0 2)).event (ctrOf c.d (r.f 0 2)).eventMask).all carriesSlice, .policy),
      ((sliceOf c.d (r.f 2 2)).state != .free, .sliceState)] c
    (.done (c.mod (setCtr (r.f 0 2) { ctrOf c.d (r.f 0 2) with
      value := 0, ovf := false, sliceEn := true, slice := r.f 2 2, grant := some (r.f 2 2, r.f 4 1) })) [] []) := by
  rw [ctrGrantCmd, len_passes hlen, rsv_passes (zeroFrom_one hzero)]
  simp only [hn, hm, hk, decide_true, Bool.and_true, behind_pass]

theorem ctrGrantCmd_granted (h : (ctrOf c.d (r.f 0 2)).grant.isSome = true) : ctrGrantCmd r c = .fail .policy c [] := by
  rw [ctrGrantCmd_wellFormed hlen hzero hn hm hk, ← Option.not_isSome, h]
  rfl

section
variable (hgrant : (ctrOf c.d (r.f 0 2)).grant = none) (hindex : ∀ e ∈ c.d.ctr.ctr, e.2.grant ≠ some (r.f 2 2, r.f 4 1))
  (hev : ∀ e ∈ admitted (ctrOf c.d (r.f 0 2)).event (ctrOf c.d (r.f 0 2)).eventMask, carriesSlice e = true)
include hgrant hindex hev

theorem ctrGrantCmd_grantable : ctrGrantCmd r c = behind [((sliceOf c.d (r.f 2 2)).state != .free, .sliceState)] c
    (.done (c.mod (setCtr (r.f 0 2) { ctrOf c.d (r.f 0 2) with
      value := 0, ovf := false, sliceEn := true, slice := r.f 2 2, grant := some (r.f 2 2, r.f 4 1) })) [] []) := by
  have hfresh : ((ctrOf c.d (r.f 0 2)).grant.isNone && c.d.ctr.ctr.all (fun e => e.2.grant != some (r.f 2 2, r.f 4 1))) = true := by
    simpa [hgrant] using hindex
  rw [ctrGrantCmd_wellFormed hlen hzero hn hm hk, hfresh, List.all_eq_true.mpr hev, behind_pass, behind_pass]

theorem ctrGrantCmd_free (h : (sliceOf c.d (r.f 2 2)).state = .free) : ctrGrantCmd r c = .fail .sliceState c [] := by
  rw [ctrGrantCmd_grantable hlen hzero hn hm hk hgrant hindex hev, h]
  rfl

theorem ctrGrantCmd_grants (h : (sliceOf c.d (r.f 2 2)).state ≠ .free) :
    ctrGrantCmd r c = .done (c.mod (setCtr (r.f 0 2) { ctrOf c.d (r.f 0 2) with
      value := 0, ovf := false, sliceEn := true, slice := r.f 2 2, grant := some (r.f 2 2, r.f 4 1) })) [] [] := by
  rw [ctrGrantCmd_grantable hlen hzero hn hm hk hgrant hindex hev, bne_iff_ne.mpr h, behind_pass, behind_nil]

end

end

theorem ctrRevokeCmd_revokes (hlen : r.inp.length = 4) (hzero : zeroFrom r.inp 2 4 = true) (hn : r.f 0 2 < 256) :
    ctrRevokeCmd r c = .done (c.mod (fun d => setCtr (r.f 0 2) (ungranted (ctrOf d (r.f 0 2))) d)) [] [] := by
  simp only [ctrRevokeCmd, len_passes hlen, rsv_passes hzero, hn, decide_true, behind_pass, behind_nil]

end

/-- Settles O53: each counter request passes or fails its checks one by one, and the counter, the monitor or the dump is the one stated. -/
theorem counterRequests : Obligations.CounterRequests := by
  unfold Obligations.CounterRequests
  intro q s r c
  refine ⟨?select, ?read, ?dump, ?monitor, ?grant, ?revoke⟩
  case select =>
    intro hadmits hlen n fl old evs hn hfl hpriv hpriv' hmaster hmask hslice hzero hzero'
    have hfields : ctrFieldsOk r = true := by
      simp only [ctrFieldsOk, Bool.and_eq_true, decide_eq_true_iff]
      exact ⟨⟨⟨⟨⟨⟨⟨⟨hn, hfl⟩, hpriv⟩, hpriv'⟩, hmaster⟩, hmask⟩, hslice⟩, hzero⟩, hzero'⟩
    have hrow := exec_ctrSelect q s
    exact ⟨fun hev => answers_fail hrow hadmits (ctrSelectCmd_noEvent hlen hfields hev), fun hev hwindow =>
      ⟨fun hgrant h => answers_fail hrow hadmits (ctrSelectCmd_unsliced hlen hfields hev hwindow hgrant h),
        fun h => answers_done hrow hadmits (ctrSelectCmd_selects hlen hfields hev hwindow h) (Nat.zero_le _)⟩⟩
  case read =>
    intro hadmits hlen ks values hone hmost hlast
    have reads (hflag : leAt r.inp 3 1 ≤ 1) := answers_done (exec_ctrRead q s) hadmits
      (ctrReadCmd_reads (c := c) hlen hone hmost hlast hflag) (Nat.zero_le _)
    refine ⟨fun hflag => ?_, fun hflag => ?_⟩
    · have done := reads (by omega)
      rwa [if_neg (show ¬ r.f 3 1 = 1 from fun h => absurd (h.symm.trans hflag) nofun)] at done
    · have done := reads (by omega)
      rwa [if_pos (show r.f 3 1 = 1 from hflag)] at done
  case dump =>
    intro hadmits hlen addr slots period halign htwo hslots hperiod hperiod' hflag
    have hrow := exec_ctrDumpSet q s
    have hbody := ctrDumpCmd_wellFormed (c := c) hlen halign htwo hslots hperiod hperiod' hflag
    refine ⟨fun hlong => ?_, fun hfits => ⟨fun hon => ?_, fun hoff => ?_⟩⟩
    · rw [decide_eq_false (show ¬ r.f 0 8 + 2240 * r.f 8 4 ≤ 2 ^ 64 from Nat.not_le.mpr hlong), behind_stop] at hbody
      exact answers_fail hrow hadmits hbody
    · rw [decide_eq_true (show r.f 0 8 + 2240 * r.f 8 4 ≤ 2 ^ 64 from hfits), behind_pass, behind_nil] at hbody
      simp only [if_neg (show ¬ r.f 12 4 = 0 from hon)] at hbody
      exact answers_done hrow hadmits hbody (Nat.zero_le _)
    · rw [decide_eq_true (show r.f 0 8 + 2240 * r.f 8 4 ≤ 2 ^ 64 from hfits), behind_pass, behind_nil] at hbody
      simp only [show r.f 12 4 = 0 from hoff, if_true] at hbody
      exact answers_done hrow hadmits hbody (Nat.zero_le _)
  case monitor =>
    intro hadmits hlen hzero hflag hwindow set
    have hrow := exec_bwmonSet q s
    refine ⟨fun hm => ?_, fun hall => ?_, fun hm hm' => ?_⟩
    · have done := answers_done hrow hadmits (bwmonCmd_sets (c := c) hlen hzero hflag hwindow (.inl hm)) (Nat.zero_le _)
      rwa [if_neg (show ¬ r.f 0 1 = 0xFF from fun h => by rw [Req.f] at h; omega)] at done
    · have done := answers_done hrow hadmits (bwmonCmd_sets (c := c) hlen hzero hflag hwindow (.inr hall)) (Nat.zero_le _)
      rwa [if_pos (show r.f 0 1 = 0xFF from hall)] at done
    · exact answers_fail hrow hadmits (bwmonCmd_noMonitor hlen hzero hm hm')
  case grant =>
    intro hadmits hlen hzero n m k x hn hm hk
    have hrow := exec_ctrGrant q s
    exact ⟨fun hgrant => answers_fail hrow hadmits (ctrGrantCmd_granted hlen hzero hn hm hk hgrant), fun hgrant hindex hev =>
      ⟨fun hfree => answers_fail hrow hadmits (ctrGrantCmd_free hlen hzero hn hm hk hgrant hindex hev hfree),
        fun hused => answers_done hrow hadmits (ctrGrantCmd_grants hlen hzero hn hm hk hgrant hindex hev hused) (Nat.zero_le _)⟩⟩
  case revoke =>
    intro hadmits hlen hzero hn
    exact answers_done (exec_ctrRevoke q s) hadmits (ctrRevokeCmd_revokes hlen hzero hn) (Nat.zero_le _)

end Sys2Proof.Machine
end

section
/-! PROOF. Tamper, life-cycle and debug requests (O55): each request's checks one by one, and the whole Erase that a scheduled event begins
with. -/

namespace Sys2Proof.Machine

/-! ## Responses (R366) -/

section
variable {r : Req} {c : Cx}

theorem tamperStatusCmd_reads (hinp : r.inp = []) : tamperStatusCmd r c = .done c
    (((tamperRegs c).map (leBytes 8)).flatten ++ List.replicate 8 0 ++ ((List.range 16).map (alarmBytes c.d.goose)).flatten) [] := by
  rw [tamperStatusCmd, len_empty hinp, behind_pass, behind_nil]

theorem tamperFuseCmd_disables (hlen : r.inp.length = 4) (h : onlyBits (r.f 0 4) [2, 6, 7] = true) :
    tamperFuseCmd r c = .done ⟨raise 0x1003 0xFFFF (r.f 0 4) 0 c.d, { c.f with
      disable0 := c.f.disable0 ||| BitVec.ofNat 12 (r.f 0 4), disable1 := c.f.disable1 ||| BitVec.ofNat 12 (r.f 0 4) }⟩ [] [] := by
  simp only [tamperFuseCmd, len_passes hlen, h, behind_pass, behind_nil]

theorem tamperFuseCmd_otherSource (hlen : r.inp.length = 4) (h : onlyBits (r.f 0 4) [2, 6, 7] = false) :
    tamperFuseCmd r c = .fail .format c [] := by
  simp only [tamperFuseCmd, len_passes hlen, h, behind_pass, behind_stop]

/-- The device once responses are lowered until reset, each change recorded. -/
def responsesSet (up low : Nat) (d : Dev) : Dev :=
  let d1 := modGoose (fun g => { g with lowered := g.lowered ||| BitVec.ofNat 12 low }) d
  let d2 := if up = 0 then d1 else raise 0x1004 0xFFFF up 0 d1
  if low = 0 then d2 else raise 0x1005 0xFFFF low 0 d2

theorem responsesSet_frame (up low : Nat) (d : Dev) :
    (responsesSet up low d).goose = { d.goose with lowered := d.goose.lowered ||| BitVec.ofNat 12 low } ∧
      (responsesSet up low d).slices = d.slices ∧ (responsesSet up low d).sys = d.sys := by
  unfold responsesSet modGoose
  dsimp only
  split_ifs <;> simp

section
variable (hlen : r.inp.length = 4) (hlow : bits (r.f 0 4) 15 12 = 0) (hhigh : bits (r.f 0 4) 31 28 = 0)
  (hraise : onlyBits (bits (r.f 0 4) 11 0) [3, 4, 6, 7, 11] = true) (hlower : onlyBits (bits (r.f 0 4) 27 16) [2, 9] = true)
include hlen hlow hhigh hraise hlower

theorem tamperConfigCmd_wellFormed : tamperConfigCmd r c = behind [
      (bits (r.f 0 4) 27 16 == 0 || c.d.sys.lc == 0, .lifecycle), (bits (r.f 0 4) 27 16 &&& (c.f.raise0 ||| c.f.raise1).toNat == 0, .policy)] c
    (.done ⟨responsesSet (bits (r.f 0 4) 11 0) (bits (r.f 0 4) 27 16) c.d, { c.f with
      raise0 := c.f.raise0 ||| BitVec.ofNat 12 (bits (r.f 0 4) 11 0)
      raise1 := c.f.raise1 ||| BitVec.ofNat 12 (bits (r.f 0 4) 11 0) }⟩ [] []) := by
  simp only [tamperConfigCmd, len_passes hlen, hlow, hhigh, hraise, hlower, beq_self_eq_true, Bool.and_true, behind_pass]
  rfl

theorem tamperConfigCmd_closed (h : bits (r.f 0 4) 27 16 ≠ 0) (hlc : c.d.sys.lc ≠ 0) : tamperConfigCmd r c = .fail .lifecycle c [] := by
  rw [tamperConfigCmd_wellFormed hlen hlow hhigh hraise hlower, beq_false_of_ne h, beq_false_of_ne hlc]
  rfl

theorem tamperConfigCmd_raised (h : bits (r.f 0 4) 27 16 = 0 ∨ c.d.sys.lc = 0)
    (hblown : bits (r.f 0 4) 27 16 &&& (c.f.raise0 ||| c.f.raise1).toNat ≠ 0) : tamperConfigCmd r c = .fail .policy c [] := by
  have hopen : (bits (r.f 0 4) 27 16 == 0 || c.d.sys.lc == 0) = true := by simpa using h
  rw [tamperConfigCmd_wellFormed hlen hlow hhigh hraise hlower, hopen, beq_false_of_ne hblown, behind_pass, behind_stop]

theorem tamperConfigCmd_sets (h : bits (r.f 0 4) 27 16 = 0 ∨ c.d.sys.lc = 0)
    (hblown : bits (r.f 0 4) 27 16 &&& (c.f.raise0 ||| c.f.raise1).toNat = 0) :
    tamperConfigCmd r c = .done ⟨responsesSet (bits (r.f 0 4) 11 0) (bits (r.f 0 4) 27 16) c.d, { c.f with
      raise0 := c.f.raise0 ||| BitVec.ofNat 12 (bits (r.f 0 4) 11 0)
      raise1 := c.f.raise1 ||| BitVec.ofNat 12 (bits (r.f 0 4) 11 0) }⟩ [] [] := by
  have hopen : (bits (r.f 0 4) 27 16 == 0 || c.d.sys.lc == 0) = true := by simpa using h
  rw [tamperConfigCmd_wellFormed hlen hlow hhigh hraise hlower, hopen, hblown]
  rfl

end

/-! ## The life cycle (R367, R368) -/

section
variable {b : OwnerBlk} (hlen : r.inp.length = 7420) (hzero : zeroFrom r.inp 0 4 = true)
include hlen hzero

theorem lcCloseCmd_notOpen (hlc : c.d.sys.lc ≠ 0) : lcCloseCmd r c = .fail .lifecycle c [] := by
  simp only [lcCloseCmd, len_passes hlen, rsv_passes hzero, beq_false_of_ne hlc, behind_pass, behind_stop]

theorem lcCloseCmd_sliceInUse (hlc : c.d.sys.lc = 0) (h : ∃ e ∈ c.d.slices, e.2.state ≠ .free) :
    lcCloseCmd r c = .fail .sliceState c [] := by
  have hused : c.d.slices.all (fun e => e.2.state == .free) = false := by simpa using h
  simp only [lcCloseCmd, len_passes hlen, rsv_passes hzero, hlc, hused, beq_self_eq_true, behind_pass, behind_stop]

theorem lcCloseCmd_closes (howner : r.q.owner = some b) (hlc : c.d.sys.lc = 0) (hfree : ∀ e ∈ c.d.slices, e.2.state = .free)
    (hpair : c.d.pair.state ≠ .paired) (hblock : b.len = 7416) (htag : b.tagOk = true) (hecdsa : b.ecdsaOk = true)
    (hmldsa : b.mldsaOk = true) (hroot : c.f.ownerRoot &&& b.digest = c.f.ownerRoot) :
    lcCloseCmd r c = .done ⟨schedule .lcClose (raise 0x2001 0xFFFF 0 0 c.d), { c.f with
      ownerRoot := c.f.ownerRoot ||| b.digest, lc0 := c.f.lc0 ||| 0x7777777777777777, lc1 := c.f.lc1 ||| 0x7777777777777777
      lc2 := c.f.lc2 ||| 0x7777777777777777 }⟩ [] [] := by
  have hunused : c.d.slices.all (fun e => e.2.state == .free) = true := by simpa using hfree
  simp only [lcCloseCmd, howner, Option.getD_some, len_passes hlen, rsv_passes hzero, hlc, hunused, bne_iff_ne.mpr hpair, hblock, htag, hecdsa,
    hmldsa, hroot, beq_self_eq_true, Bool.and_true, behind_pass, behind_nil]
  rfl

end

theorem lcScrapCmd_schedules (hinp : r.inp = [0, 0, 0, 0]) : lcScrapCmd r c = .done (c.mod (schedule .lcScrap)) [] [] := by
  rw [lcScrapCmd, (fourZeros_pass hinp).1, (fourZeros_pass hinp).2]
  rfl

/-! ## Debug (R369) -/

theorem debugChallengeCmd_notClosed (hlc : c.d.sys.lc ≠ 1) : debugChallengeCmd r c = .fail .lifecycle c [] := by
  simp only [debugChallengeCmd, beq_false_of_ne hlc, behind_stop]

theorem debugChallengeCmd_challenges (hlc : c.d.sys.lc = 1) (hinp : r.inp = []) (hserving : rngServing c.d = true) :
    debugChallengeCmd r c = .done (c.mod (fun d => raise 0x2003 0xFFFF (c.d.dbg.challenges + 1) 0
      (let d1 := cpDraw 32 d
       { d1 with dbg := { d1.dbg with challenge := some (c.d.dbg.challenges + 1), challenges := c.d.dbg.challenges + 1
                                      nonce := drawBytes 32 d } })))
      (challengeBytes c (c.d.dbg.challenges + 1) (drawBytes 32 c.d)) [] := by
  rw [debugChallengeCmd, hlc, len_empty hinp, withRandom_serves _ hserving]
  rfl

section
variable {ok : Bool} (hlen : r.inp.length = 4731) (hzero : zeroFrom r.inp 4 8 = true) (hlc : c.d.sys.lc = 1)
include hlen hzero hlc

theorem debugReopenCmd_closed : debugReopenCmd ok r c = behind [(c.d.dbg.challenge == some (r.f 0 4), .nonce),
      (decide (fuseCount c.f.debugReopen < 8), .lifecycle), (ok, .signature)] c
    (.done (c.mod (fun d => schedule .debugReopen { d with dbg := { d.dbg with challenge := none } })) [] []) := by
  rw [debugReopenCmd, len_passes hlen, rsv_passes hzero, hlc]
  rfl

theorem debugReopenCmd_otherChallenge (h : c.d.dbg.challenge ≠ some (r.f 0 4)) : debugReopenCmd ok r c = .fail .nonce c [] := by
  rw [debugReopenCmd_closed hlen hzero hlc, beq_false_of_ne h, behind_stop]

section
variable (hid : c.d.dbg.challenge = some (r.f 0 4))
include hid

theorem debugReopenCmd_spent (h : 8 ≤ fuseCount c.f.debugReopen) : debugReopenCmd ok r c = .fail .lifecycle c [] := by
  rw [debugReopenCmd_closed hlen hzero hlc, hid, beq_self_eq_true, decide_eq_false (Nat.not_lt.mpr h), behind_pass, behind_stop]

theorem debugReopenCmd_left (h : fuseCount c.f.debugReopen < 8) : debugReopenCmd ok r c = behind [(ok, .signature)] c
    (.done (c.mod (fun d => schedule .debugReopen { d with dbg := { d.dbg with challenge := none } })) [] []) := by
  rw [debugReopenCmd_closed hlen hzero hlc, hid, beq_self_eq_true, decide_eq_true h, behind_pass, behind_pass]

end

end

end

/-! ## A whole Erase (R354, R368, R369) -/

theorem sameUnits_abortItem (id : Nat) (d : Dev) : SameUnits d (abortItem id d) := by
  unfold abortItem
  split
  · exact .refl d
  · split
    · exact sameUnits_abortNow id d
    · exact sameUnits_abortNow id d
    · split
      · exact sameUnits_abortNow id d
      · exact sameUnits_abortNow id d
      · exact sameUnits_abortNow id d
      · exact (sameUnits_modItem id (fun i => { i with abort := true }) d).trans rfl
      · split
        · exact .refl d
        · exact sameUnits_modItem ..
    · exact .refl d

theorem sameUnits_abortAll (d : Dev) : SameUnits d (abortAll d) := .foldl (fun d id => sameUnits_abortItem id d) _ d

theorem sameUnits_endAborted (d : Dev) : SameUnits d (endAborted d) := by
  refine .trans (e := { d with eng := { d.eng with ce := [], de := [], pk := [], queue := [] } }) rfl (.foldl (fun d e => ?_) _ _)
  split
  · exact sameUnits_abortNow ..
  · exact .refl d

theorem relinquish_goose (d : Dev) : (relinquish d).goose = d.goose := by
  unfold relinquish
  split <;> rfl

theorem answerActivate_goose (st : Nat) (payload : List Byte) (d : Dev) : (answerActivate st payload d).goose = d.goose := by
  unfold answerActivate
  split <;> rfl

theorem stopActivation_goose (d : Dev) : (stopActivation d).goose = d.goose := by
  unfold stopActivation
  split
  · rfl
  · dsimp only
    split
    · exact (sameUnits_of_replies (replies_answer ..)).goose.trans (answerActivate_goose ..)
    · exact answerActivate_goose ..

theorem beginLock_goose (src : Nat) (d : Dev) : (beginLock src d).goose = { d.goose with lock := true } := by
  unfold beginLock
  split
  · next h => rw [← h]
  · have aborted : (abortAll (modGoose (fun g => { g with lock := true }) (stopActivation (relinquish d)))).goose
        = { d.goose with lock := true } := by
      rw [(sameUnits_abortAll _).goose, modGoose, stopActivation_goose, relinquish_goose]
    dsimp only
    split
    · exact aborted
    · rw [raise_goose, aborted]

theorem beginErase_goose {src : Nat} {d : Dev} (h : d.goose.eraseBegun = false) :
    (beginErase src d).goose = { d.goose with eraseRunning := true, eraseBegun := true, lock := true } := by
  rw [beginErase, if_neg (by simp [h]), beginLock_goose]
  rfl

theorem wipe_goose (d : Dev) : (wipe d).goose = { d.goose with volatileDone := true } := by
  have h : (clearStaged (endAborted d)).goose = d.goose := (sameUnits_endAborted d).goose
  rw [wipe, h]

/-- A device wholly erased. -/
structure Erased (d : Dev) : Prop where
  erased : d.goose.erased = true
  lock : d.goose.lock = true
  ended : d.goose.eraseRunning = false
  share : d.sys.share = .erased
  ksk : d.sys.ksk = false
  cache : d.keys.cache = []
  inst : d.rng.inst = []
  sessions : d.mg.sessions = []
  migration : d.mg.migration = []

section
variable {c : Cx} (hbegun : c.d.goose.eraseBegun = false) (hdone : c.d.goose.volatileDone = false)
include hbegun hdone

theorem fullErase_eq : fullErase c = ⟨modGoose (fun g => { g with eraseRunning := false, erased := true })
      { wipe (beginErase 0 c.d) with sys := { (wipe (beginErase 0 c.d)).sys with share := .erased } },
    { c.f with eraseCount := blowNext c.f.eraseCount }⟩ := by
  have begun : (beginErase 0 c.d).goose = _ := beginErase_goose hbegun
  have volatile : eraseVolatile (c.mod (beginErase 0)) = ⟨wipe (beginErase 0 c.d), { c.f with eraseCount := blowNext c.f.eraseCount }⟩ :=
    if_neg (by simp [Cx.mod, begun, hdone])
  rw [fullErase, volatile]
  exact if_neg (by simp [wipe_goose, begun])

theorem fullErase_erased : Erased (fullErase c).d := by
  rw [fullErase_eq hbegun hdone]
  refine ⟨rfl, ?_, rfl, rfl, rfl, rfl, rfl, rfl, rfl⟩
  simp [modGoose, wipe_goose, beginErase_goose hbegun]

end

section
variable {s : State} {d : Dev} {f : Fuses} (herase : fullErase s.cx = ⟨d, f⟩)
include herase

theorem lcScrapStart_scraps (h : s.dev.sys.scheduled = some .lcScrap) : DoesAll .lcScrapStart s
    ⟨{ d with sys := { d.sys with scheduled := none, lc := 2 } }, { f with
      lc0 := BitVec.allOnes 64, lc1 := BitVec.allOnes 64, lc2 := BitVec.allOnes 64, secretsBlown := true }⟩ := by
  rw [DoesAll, exec_lcScrapStart, execLcScrapStart, if_neg (not_not.mpr h), herase]
  rfl

theorem debugReopenStart_reopens (h : s.dev.sys.scheduled = some .debugReopen) : DoesAll .debugReopenStart s
    ⟨{ d with sys := { d.sys with scheduled := none }, dbg := { d.dbg with reopened := true } }, { f with
      debugReopen := blowNext f.debugReopen }⟩ := by
  rw [DoesAll, exec_debugReopenStart, execDebugReopenStart, if_neg (not_not.mpr h), herase]
  rfl

end

/-- What is scheduled otherwise leaves an event of its own without effect. -/
theorem lcScrapStart_idle {s : State} (h : s.dev.sys.scheduled ≠ some .lcScrap) : exec .lcScrapStart s = .next s := by
  rw [exec_lcScrapStart, execLcScrapStart, if_pos h, withCx_same]

theorem debugReopenStart_idle {s : State} (h : s.dev.sys.scheduled ≠ some .debugReopen) : exec .debugReopenStart s = .next s := by
  rw [exec_debugReopenStart, execDebugReopenStart, if_pos h, withCx_same]

/-- Settles O55: the requests behind their checks, and a scheduled event that begins with a whole Erase. -/
theorem tamperAndLifeCycleRequests : Obligations.TamperAndLifeCycleRequests := by
  unfold Obligations.TamperAndLifeCycleRequests
  refine ⟨fun q s r c => ⟨?status, ?config, ?fuse, ?close, ?scrap, ?challenge, ?reopen⟩, fun s => ⟨?expiry, lcScrapStart_idle, debugReopenStart_idle,
    fun hbegun hdone => ?starts⟩⟩
  case status =>
    exact fun hadmits hinp => answers_done (exec_tamperStatus q s) hadmits (tamperStatusCmd_reads hinp) (Nat.zero_le _)
  case config =>
    intro hadmits hlen up low hrsv hrsv' hraise hlower
    have hrow := exec_tamperConfig q s
    exact ⟨fun hlow hlc => answers_fail hrow hadmits (tamperConfigCmd_closed hlen hrsv hrsv' hraise hlower hlow hlc),
      fun hlow hblown => answers_fail hrow hadmits (tamperConfigCmd_raised hlen hrsv hrsv' hraise hlower hlow hblown),
      fun hlow hblown => ⟨_, answers_done hrow hadmits (tamperConfigCmd_sets hlen hrsv hrsv' hraise hlower hlow hblown) (Nat.zero_le _),
        responsesSet_frame ..⟩⟩
  case fuse =>
    intro hadmits hlen
    have hrow := exec_tamperFuseDisable q s
    exact ⟨fun h => answers_done hrow hadmits (tamperFuseCmd_disables hlen h) (Nat.zero_le _),
      fun h => answers_fail hrow hadmits (tamperFuseCmd_otherSource hlen h)⟩
  case close =>
    intro b hadmits hlen hzero howner
    have hrow := exec_lcClose q s
    exact ⟨fun hlc => answers_fail hrow hadmits (lcCloseCmd_notOpen hlen hzero hlc),
      fun hlc hused => answers_fail hrow hadmits (lcCloseCmd_sliceInUse hlen hzero hlc hused),
      fun hlc hfree hpair hblock htag hecdsa hmldsa hroot => answers_done hrow hadmits
        (lcCloseCmd_closes hlen hzero howner hlc hfree hpair hblock htag hecdsa hmldsa hroot) (Nat.zero_le _)⟩
  case scrap =>
    exact fun hadmits hinp => answers_done (exec_lcScrap q s) hadmits (lcScrapCmd_schedules hinp) (Nat.zero_le _)
  case challenge =>
    intro hadmits
    have hrow := exec_debugChallenge q s
    exact ⟨fun hlc => answers_fail hrow hadmits (debugChallengeCmd_notClosed hlc),
      fun hlc hinp hserving => answers_done hrow hadmits (debugChallengeCmd_challenges hlc hinp hserving) (Nat.zero_le _)⟩
  case reopen =>
    intro ok hadmits hlen hzero hlc
    have hrow := exec_debugReopen q ok s
    refine ⟨fun h => answers_fail hrow hadmits (debugReopenCmd_otherChallenge hlen hzero hlc h),
      fun hid h => answers_fail hrow hadmits (debugReopenCmd_spent hlen hzero hlc hid h), fun hid h hok => ?_, fun hid h hok => ?_⟩
    · exact answers_fail hrow hadmits ((debugReopenCmd_left hlen hzero hlc hid h).trans (hok ▸ behind_stop ..))
    · exact answers_done hrow hadmits ((debugReopenCmd_left hlen hzero hlc hid h).trans (hok ▸ behind_pass ..)) (Nat.zero_le _)
  case expiry => exact does_of_onDev (exec_debugChallengeExpiry s) rfl
  case starts =>
    have whole : Erased (fullErase s.cx).d := fullErase_erased hbegun hdone
    have fuse : (fullErase s.cx).f = { s.fuse with eraseCount := blowNext s.fuse.eraseCount } :=
      congrArg Cx.f (fullErase_eq (c := s.cx) hbegun hdone)
    rcases herase : fullErase s.cx with ⟨d, f⟩
    rw [herase] at whole fuse
    obtain ⟨erased, lock, ended, share, ksk, cache, inst, sessions, migration⟩ := whole
    replace fuse : f = _ := fuse
    subst fuse
    refine ⟨fun h => ⟨_, lcScrapStart_scraps herase h, ?_⟩, fun h => ⟨_, debugReopenStart_reopens herase h, ?_⟩⟩
    · simp only [watch_sys, watch_goose, watch_keys, watch_rng, watch_mg]
      exact ⟨⟨trivial, erased, lock, ended, share, ksk, cache, inst, sessions, migration, trivial⟩, trivial, trivial⟩
    · simp only [watch_sys, watch_goose, watch_keys, watch_rng, watch_mg, watch_dbg]
      exact ⟨⟨trivial, erased, lock, ended, share, ksk, cache, inst, sessions, migration, trivial⟩, trivial, trivial⟩

end Sys2Proof.Machine
end

section
/-! PROOF. The recorder and what ends by itself (O39): the write of the oldest request, a token, the suppression window, a monitor's window
and a dump's period. -/

namespace Sys2Proof.Machine

/-! ## Commands that leave `DEV_STATUS` as it is -/

/-- A change of the device under which `DEV_STATUS` stays signals nothing. -/
theorem exec_of_onDev {i : Instr} {f : Dev → Dev} {s : State} {d : Dev} (hrow : exec i s = onDev f s) (hf : f s.dev = d)
    (hstatus : devStatus d = devStatus s.dev) : exec i s = .next { s with dev := d } := by
  have hdoes := does_of_onDev hrow hf
  rwa [Does, show watch (fun _ => d) s.dev = d from watch_same _ _ hstatus] at hdoes

theorem exec_of_onUnit {i : Instr} {ok : Bool} {f : Dev → Dev} {s : State} {d : Dev} (hrow : exec i s = onUnit ok f s) (hok : ok = true)
    (hf : f s.dev = d) (hstatus : devStatus d = devStatus s.dev) : exec i s = .next { s with dev := d } :=
  exec_of_onDev (hrow.trans (if_pos hok)) hf hstatus

/-! ## The recorder (R402, R403, R405, R407) -/

/-- A change that leaves the recorder alone for each element of a list. -/
theorem foldl_log {α : Type} {f : Dev → α → Dev} (hf : ∀ d x, (f d x).log = d.log) (l : List α) (d : Dev) : (l.foldl f d).log = d.log := by
  induction l generalizing d with
  | nil => rfl
  | cons x l ih => exact (ih _).trans (hf d x)

theorem releaseRecordWaits_log (d : Dev) : (releaseRecordWaits d).log = d.log := by
  unfold releaseRecordWaits
  split
  · rfl
  · refine foldl_log (fun d m => ?_) _ d
    split
    · exact writeResponse_log ..
    · rfl

/-- A held request that moves up changes neither the areas nor the numbers. -/
theorem refill_areas (d : Dev) : (refill d).log.head = d.log.head ∧ (refill d).log.resEnd = d.log.resEnd ∧
    (refill d).log.circ = d.log.circ ∧ (refill d).log.perm = d.log.perm := by
  unfold refill
  split
  · exact ⟨rfl, rfl, rfl, rfl⟩
  · split <;> exact ⟨rfl, rfl, rfl, rfl⟩

theorem refill_none_held {d : Dev} (h : d.log.held = []) : refill d = d := by
  simp only [refill, h]

/-- The recorder once the oldest request is written: the reservation of its number, the number, and the record in its areas. -/
def recorded (q : EvReq) (qs : List EvReq) (g : Recorder) : Recorder :=
  { g with
    queue := qs
    resEnd := (if g.head < g.resEnd then g.resEnd else g.head + 1024)
    head := g.head + 1
    circ := Tab.put g.circ (g.head % 262144) { seq := g.head, req := q }
    perm := match permSlot g g.head q.code with
      | some k => Tab.put g.perm k { seq := g.head, req := q }
      | none => g.perm }

theorem writeRecord_writes {d : Dev} {q : EvReq} {qs : List EvReq} (hq : d.log.queue = q :: qs) (hksk : d.sys.ksk = true)
    (hsilent : recorderSilent d = false) :
    writeRecord d = refill (count 0x9001 1 none (some 0x303) false none { d with log := recorded q qs d.log }) := by
  simp only [writeRecord, hq, hksk, hsilent, Bool.not_true, Bool.or_self, Bool.false_eq_true, if_false]
  rfl

theorem writeRecord_idle {d : Dev} (h : d.log.queue = [] ∨ d.sys.ksk = false ∨ recorderSilent d = true) : writeRecord d = d := by
  unfold writeRecord
  split
  · rfl
  · next q qs hq =>
    refine if_pos ?_
    rcases h with h | h | h
    · exact absurd (hq.symm.trans h) nofun
    · simp [h]
    · simp [h]

/-- A number has a permanent slot of its own while such slots are left (R407). -/
theorem permSlot_numbered {g : Recorder} {seq code : Nat} (h1 : code ≠ 0x1010) (h2 : code ≠ 0x2004) :
    permSlot g seq code = if seq < 4096 then some seq else none := if_neg (by simp [h1, h2])

theorem recorded_perm_numbered {q : EvReq} {qs : List EvReq} {g : Recorder} (h1 : q.code ≠ 0x1010) (h2 : q.code ≠ 0x2004) :
    (recorded q qs g).perm = if g.head < 4096 then Tab.put g.perm g.head { seq := g.head, req := q } else g.perm := by
  simp only [recorded, permSlot_numbered h1 h2]
  split_ifs <;> rfl

/-! ## Buckets and windows (R408, R409, R420, R421) -/

theorem addToken_spent (code : Nat) (d : Dev) :
    Tab.getD (addToken code d).log.spent code 0 = Tab.getD d.log.spent code 0 - 1 ∧
      ∀ k, k ≠ code → Tab.find (addToken code d).log.spent k = Tab.find d.log.spent k := by
  unfold addToken
  dsimp only
  split
  · next h => exact ⟨by rw [Tab.getD, Tab.find_del_same, Nat.sub_eq_zero_of_le h]; rfl, fun k hk => Tab.find_del_ne hk _⟩
  · exact ⟨Tab.getD_put_same .., fun k hk => Tab.find_put_ne _ _ hk⟩

theorem windowEnd_quiet {d : Dev} (h : d.log.window = []) : windowEnd d = d := by
  have hempty : windowEnd d = { d with log := { d.log with window := [] } } := if_pos (by rw [h]; rfl)
  rw [hempty, ← h]

theorem windowEnd_suppressed {d : Dev} (h : d.log.window ≠ []) : windowEnd d = raise 0xA001 (mostSuppressed d.log.window).1
    d.log.window.length (sat 0xFFFFFFFF (d.log.window.foldl (fun n e => n + e.2) 0)) { d with log := { d.log with window := [] } } :=
  if_neg (by simpa using h)

theorem endWindow_peak {m bytes : Nat} {d : Dev} (h : (monOf d m).peak < bytes) : endWindow m bytes d = { d with ctr := { d.ctr with
    mon := Tab.put d.ctr.mon m { monOf d m with last := bytes, peak := bytes, peakTime := now d } } } := by
  simp only [endWindow, h, decide_true, if_true]

theorem endWindow_below {m bytes : Nat} {d : Dev} (h : bytes ≤ (monOf d m).peak) : endWindow m bytes d = { d with ctr := { d.ctr with
    mon := Tab.put d.ctr.mon m { monOf d m with last := bytes } } } := by
  simp only [endWindow, Nat.not_lt.mpr h, decide_false, Bool.false_eq_true, if_false]

/-- What was put out stays put out when a vector is signalled. -/
theorem mem_signal_out {o : Out} {v : Nat} {d : Dev} (h : o ∈ d.out) : o ∈ (signal v d).out := by
  unfold signal
  dsimp only
  split
  · exact List.mem_cons_of_mem _ h
  · split <;> exact h

theorem mem_watch_out {o : Out} {f : Dev → Dev} {d : Dev} (h : o ∈ (f d).out) : o ∈ (watch f d).out := by
  unfold watch
  split
  · exact h
  · exact mem_signal_out h

theorem writeSnapshot_writes (d : Dev) : (writeSnapshot d).ctr.dumpSeq = d.ctr.dumpSeq + 1 ∧ (writeSnapshot d).ctr.missed = 0 ∧
    .dump (d.ctr.dumpAddr + (d.ctr.dumpSeq + 1) % d.ctr.dumpSlots * 2240) (snapshot (d.ctr.dumpSeq + 1) d) ∈ (writeSnapshot d).out := by
  unfold writeSnapshot
  dsimp only
  split
  · exact ⟨by simp, by simp, mem_signal_out (List.mem_cons_self ..)⟩
  · exact ⟨rfl, rfl, List.mem_cons_self ..⟩

/-! ## The obligation -/

/-- The write of the oldest request, its areas, its reservation and the queue it leaves. -/
theorem eventRecordWrite_writes {s : State} (ha : alive s.dev = true) {q : EvReq} {qs : List EvReq} (hq : s.dev.log.queue = q :: qs)
    (hksk : s.dev.sys.ksk = true) (hsilent : recorderSilent s.dev = false) :
    Does .eventRecordWrite s (releaseRecordWaits (writeRecord s.dev)) ∧
      (releaseRecordWaits (writeRecord s.dev)).log = (refill (count 0x9001 1 none (some 0x303) false none
        { s.dev with log := recorded q qs s.dev.log })).log := by
  refine ⟨does_of_onDev (exec_eventRecordWrite s) (if_pos ha), ?_⟩
  rw [releaseRecordWaits_log, writeRecord_writes hq hksk hsilent]

/-- Settles O39: the write of a record by its areas, and each of the recorder's and the counters' windows by the change it makes. -/
theorem eventRecords : Obligations.EventRecords := by
  unfold Obligations.EventRecords
  intro s ha
  refine ⟨?write, ?idle, ?token, ?window, ?monitor, ?dump⟩
  case write =>
    intro q qs hq hksk hsilent
    obtain ⟨does, hlog⟩ := eventRecordWrite_writes ha hq hksk hsilent
    obtain ⟨hhead, hres, hcirc, hperm⟩ := refill_areas (count 0x9001 1 none (some 0x303) false none
      { s.dev with log := recorded q qs s.dev.log })
    refine ⟨_, does, rfl, ?_⟩
    simp only [watch_log, hlog, hhead, hres, hcirc, hperm, count_log]
    refine ⟨rfl, rfl, find_put_same .., fun k hk => Tab.find_put_ne _ _ hk, fun h1 h2 hfew => ?_, fun h1 h2 hmany => ?_, fun hheld => ?_⟩
    · rw [recorded_perm_numbered h1 h2, if_pos hfew, find_put_same]
    · rw [recorded_perm_numbered h1 h2, if_neg (Nat.not_lt.mpr hmany)]
    · rw [refill_none_held (by exact hheld)]
      rfl
  case idle =>
    intro h
    refine does_of_onDev (exec_eventRecordWrite s) ((if_pos ha).trans ?_)
    rw [writeRecord_idle h]
  case token =>
    intro code
    obtain ⟨hspent, hothers⟩ := addToken_spent code s.dev
    exact ⟨_, exec_of_onDev (exec_tokenAdd code s) (if_pos ha) rfl, hspent, hothers, rfl⟩
  case window =>
    intro hready
    have hon : (alive s.dev && s.dev.sys.ready) = true := by rw [ha, hready]; rfl
    refine ⟨fun h => ?_, fun h => ?_⟩
    · exact exec_of_onDev (exec_suppressionSummary s) ((if_pos hon).trans (windowEnd_quiet h)) rfl
    · exact does_of_onDev (exec_suppressionSummary s) ((if_pos hon).trans (windowEnd_suppressed h))
  case monitor =>
    intro m bytes hm hwindow x
    have hon : (alive s.dev && (monOf s.dev m).window != 0) = true := by simp [ha, hwindow]
    have hrow := exec_bwmonWindowEnd m bytes s
    exact ⟨fun h => exec_of_onUnit hrow (decide_eq_true hm) ((if_pos hon).trans (endWindow_peak h)) rfl,
      fun h => exec_of_onUnit hrow (decide_eq_true hm) ((if_pos hon).trans (endWindow_below h)) rfl⟩
  case dump =>
    intro hfault hperiod
    have hon : ¬ (!alive s.dev || devFault s.dev || s.dev.ctr.dumpPeriod == 0) = true := by simp [ha, hfault, hperiod]
    refine ⟨?_, ?_⟩
    · obtain ⟨hseq, hmissed, hout⟩ := writeSnapshot_writes s.dev
      refine ⟨_, does_of_onDev (exec_dumpPeriodEnd false s) (if_neg hon), ?_, ?_, mem_watch_out hout⟩
      · exact (congrArg (·.dumpSeq) (watch_ctr ..)).trans hseq
      · exact (congrArg (·.missed) (watch_ctr ..)).trans hmissed
    · exact exec_of_onDev (exec_dumpPeriodEnd true s) (if_neg hon) rfl

end Sys2Proof.Machine
end

section
/-! PROOF. The release of a reset (O7): what a start senses, whether or not an Erase left Skerry blank, and the halt of an invalid life cycle. -/

namespace Sys2Proof.Machine

/-- A halt for an invalid life cycle changes the system state and the recorder alone. -/
theorem haltInvalid_rest (d : Dev) : ∃ lg ms ksk up, haltInvalid d = { d with
    sys := { d.sys with stage := 6, haltCause := 2, bootMs := ms, ksk := ksk, cpUp := up }, log := lg } := by
  obtain ⟨g, hg, -⟩ := raise_log 0x0003 0xFFFF 2 0
    { d with sys := { d.sys with stage := 6, haltCause := 2, bootMs := d.sys.uptime / 1000000 } }
  have hstop : stopStart 6 2 0 d = _ := hg
  unfold haltInvalid
  rw [hstop]
  exact ⟨_, _, _, _, rfl⟩

/-- What a start leaves of the device: straps, fuses and cause sensed, Goose armed, no partner; no key, and the stage it had. -/
structure Senses (p : Pins) (cause : Nat) (c : Cx) (t : Dev) : Prop where
  powered : t.sys.powered = true
  inReset : t.sys.inReset = false
  resetLow : t.sys.resetLow = false
  perstHigh : t.sys.perstHigh = c.d.sys.perstHigh
  pairEn : t.sys.pairEn = p.pairEn
  preferPrimary : t.sys.preferPrimary = p.preferPrimary
  lc : t.sys.lc = sensedLc c.f
  part : t.sys.pg40 = (c.f.part == .pg40)
  serial : t.sys.serial = c.f.serial.toNat
  cause : t.sys.cause = BitVec.ofNat 6 (2 ^ cause)
  pufReads : t.sys.pufReads = 1
  pufOk : t.sys.pufOk = (p.pufOk && !c.f.secretsBlown)
  ready : t.sys.ready = c.d.sys.ready
  ksk : t.sys.ksk = c.d.sys.ksk
  stage : t.sys.stage = c.d.sys.stage
  goose : t.goose = { armed := true }
  pair : t.pair = { state := if groupId c.f = 0 then .unpaired else .seeking }

/-- What a start senses, whether or not an Erase left Skerry blank (R356). -/
theorem senses_sensed (p : Pins) (cause : Nat) (c : Cx) : Senses p cause c
    (if c.d.sys.share = .erased then blankSkerry (fuseCount c.f.eraseCount) (sensed p cause c) else sensed p cause c) := by
  split
  · exact ⟨rfl, rfl, rfl, rfl, rfl, rfl, rfl, rfl, rfl, rfl, rfl, rfl, rfl, rfl, rfl, rfl, rfl⟩
  · exact ⟨rfl, rfl, rfl, rfl, rfl, rfl, rfl, rfl, rfl, rfl, rfl, rfl, rfl, rfl, rfl, rfl, rfl⟩

/-- A start senses, records a copy that dissents and passes the known-answer tests; then an invalid life cycle halts it. -/
theorem start_senses {p : Pins} (cause : Nat) (c : Cx) (hkat : p.katFails = 0) : ∃ d, Senses p cause c d ∧ d.rng.kat = true ∧
    start p cause c = if sensedLc c.f = 2 then ⟨haltInvalid d, c.f⟩ else ⟨d, c.f⟩ := by
  have hstart : start p cause c =
      let d2 := if c.d.sys.share = .erased then blankSkerry (fuseCount c.f.eraseCount) (sensed p cause c) else sensed p cause c
      let c1 := (dissent ⟨d2, c.f⟩).mod (startTests p.katFails)
      if c1.d.sys.lc = 2 then c1.mod haltInvalid else c1 := rfl
  have hsenses := senses_sensed p cause c
  generalize (if c.d.sys.share = .erased then blankSkerry (fuseCount c.f.eraseCount) (sensed p cause c) else sensed p cause c) = d2
    at hstart hsenses
  obtain ⟨g, hg, -⟩ := dissent_log ⟨d2, c.f⟩
  obtain ⟨h1, h2, h3, h4, h5, h6, hlc, h8, h9, h10, h11, h12, h13, h14, h15, h16, h17⟩ := hsenses
  refine ⟨{ d2 with log := g, rng := { d2.rng with kat := true } },
    ⟨h1, h2, h3, h4, h5, h6, hlc, h8, h9, h10, h11, h12, h13, h14, h15, h16, h17⟩, rfl, ?_⟩
  simp only [hstart, hg, hkat, startTests, if_true, Cx.mod, modRng, hlc]

/-- Settles O7: either reset's release is a start that senses, halted where the life cycle it senses is invalid. -/
theorem releasesStartTheDevice : Obligations.ReleasesStartTheDevice := by
  unfold Obligations.ReleasesStartTheDevice
  intro s p hkats hready hstage started
  have starts (cause : Nat) (c : Cx) (hf : c.f = s.fuse) (hsys : c.d.sys = { s.dev.sys with perstHigh := c.d.sys.perstHigh })
      (hksk : s.dev.sys.ksk = false) :
      ∃ t, resetTo s (start p cause c) = .next t ∧ started cause t ∧ t.dev.sys.perstHigh = c.d.sys.perstHigh := by
    obtain ⟨d, ⟨hpow, hres, hlow, hperst, hpair, hpref, hlc, hpart, hserial, hcause, hreads, hpuf, hrdy, hkey, hstg, hgoose, hp⟩, hkat, hstart⟩ :=
      start_senses cause c hkats
    rw [hsys] at hrdy hkey hstg
    rw [hf] at hlc hpart hserial hpuf hp hstart
    by_cases hinvalid : sensedLc s.fuse = 2
    · obtain ⟨lg, ms, ksk, up, hhalt⟩ := haltInvalid_rest d
      rw [hstart, if_pos hinvalid, hhalt]
      exact ⟨_, rfl, ⟨rfl, hpow, hres, hlow, hpair, hpref, hlc, hpart, hserial, hcause, hreads, hpuf, hgoose, hrdy.trans hready, hkat, hp,
        fun _ => ⟨rfl, rfl, rfl⟩, fun h => absurd hinvalid h⟩, hperst⟩
    · rw [hstart, if_neg hinvalid]
      exact ⟨_, rfl, ⟨rfl, hpow, hres, hlow, hpair, hpref, hlc, hpart, hserial, hcause, hreads, hpuf, hgoose, hrdy.trans hready, hkat, hp,
        fun h => absurd h hinvalid, fun _ => ⟨hkey.trans hksk, hstg⟩⟩, hperst⟩
  refine ⟨fun hlow hksk => ?_, fun hres hlow hpow hksk => ?_⟩
  · obtain ⟨t, ht, hstarted, -⟩ := starts 0 s.cx rfl rfl hksk
    exact ⟨t, by rw [exec_resetNRelease, execResetNRelease, if_pos hlow, ht], hstarted⟩
  · obtain ⟨t, ht, hstarted, hperst⟩ := starts 1 (s.cx.mod (fun d => { d with sys := { d.sys with perstHigh := true } })) rfl rfl hksk
    refine ⟨t, ?_, hstarted, hperst⟩
    rw [exec_perstNRelease, execPerstNRelease, ← ht]
    exact congrArg (resetTo s) (if_pos (by simp [Cx.mod, State.cx, hres, hlow, hpow]))

end Sys2Proof.Machine
end

section
/-! PROOF. The pair's link (O59): a full resynchronisation that leaves a slice in use. -/

namespace Sys2Proof.Machine

/-- An item of a slice, undispatched. -/
def readyItem (n : Nat) : Item := { slice := n, ring := 0, desc := [] }

/-- A FREE slice whose drain has not been answered. -/
def freeDraining : Slice := { drain := some { start := 0 } }

/-- A secondary that forms its pair. Each of two numbers of its item table stands twice, so that an item of slice 7 shadows one of slice 5, and
one of slice 9 an item of slice 7. -/
def shadowedItems : State where
  dev := {
    sys := { pairEn := true }
    pair := { lanes := 4, key := true, state := .forming, role := .secondary }
    slices := [(5, { state := .active }), (7, freeDraining), (9, freeDraining)]
    sched := { items := [(1, readyItem 7), (1, readyItem 5), (2, readyItem 9), (2, readyItem 7)] } }
  fuse := {}
  pending := []

/-- The state of a slice in the state a command leaves. -/
def sliceAfter (n : Nat) : Ans → Option SliceState
  | .next t => some (sliceOf t.dev n).state
  | _ => none

/-- The item of slice 7 ends in place of that of slice 5, which takes slice 7 into use; its removal ends the item of slice 9 likewise. -/
theorem sliceAfter_resync_shadowedItems : sliceAfter 9 (exec (.resync true {}) shadowedItems) = some .quiesced := by decide

/-- Refutes O59: a `RESYNC` that names no slice leaves slice 9 of `shadowedItems` in QUIESCED and not FREE. -/
theorem not_pairLink : ¬ Obligations.PairLink := by
  unfold Obligations.PairLink
  intro h
  obtain ⟨-, -, -, -, -, -, -, -, -, -, -, -, hresync, -⟩ := h shadowedItems
  obtain ⟨-, hlevel⟩ := hresync ⟨rfl, rfl⟩ {}
  obtain ⟨t, ht, -, -, -, -, -, -, -, hfree⟩ := hlevel rfl rfl
  have hleft : some (sliceOf t.dev 9).state = some .quiesced := by
    rw [← sliceAfter_resync_shadowedItems, ht]
    rfl
  exact absurd ((hfree 9 nofun).symm.trans (Option.some.inj hleft)) nofun

end Sys2Proof.Machine
end

section
/-! PROOF. Partners (O58): the checks of R375 in their order, and each way in which a pair forms with a partner that passes them all. -/

namespace Sys2Proof.Machine

/-! ## The checks (R375) -/

/-- Without a `PAIR` command in service there is none to answer. -/
theorem answerPair_none {d : Dev} (hcmd : d.pair.cmd = none) (st : Status) : answerPair st d = d := by simp only [answerPair, hcmd]

section
variable {c : Cx} {m : HelloMsg} (hcmd : c.d.pair.cmd = none)
include hcmd

theorem pairMode_none : pairMode c.d = none := by rw [pairMode, hcmd]; rfl

/-- Without a `PAIR` command in service the identity is this device's and the serial the recorded one. -/
theorem helloCheck_unasked : helloCheck c m = ([(m.sigOk, 1), (m.lifecycle == c.d.sys.lc && (c.d.sys.lc != 1 || m.chainOk), 2),
    (c.d.sys.lc != 1 || !m.debugOpen, 3), (m.group == groupId c.f, 4),
    (c.d.store.partner == 0 || m.serial == c.d.store.partner, 5), (m.major == 4, 6)].find? (fun e => !e.1)).map (·.2) := by
  unfold helloCheck
  dsimp only
  rw [pairMode_none hcmd, hcmd]

theorem helloCheck_signature (h : m.sigOk = false) : helloCheck c m = some 1 := by
  rw [helloCheck_unasked hcmd, h]
  rfl

section
variable (h1 : m.sigOk = true)
include h1

theorem helloCheck_lifecycle (h2 : m.lifecycle ≠ c.d.sys.lc) : helloCheck c m = some 2 := by
  rw [helloCheck_unasked hcmd, h1, beq_false_of_ne h2]
  rfl

section
variable (h2 : m.lifecycle = c.d.sys.lc)
include h2

theorem helloCheck_chain (hlc : c.d.sys.lc = 1) (hchain : m.chainOk = false) : helloCheck c m = some 2 := by
  rw [helloCheck_unasked hcmd, h1, h2, hlc, hchain]
  rfl

section
variable (hchain : c.d.sys.lc = 1 → m.chainOk = true)
include hchain

/-- A certificate chain is asked for in CLOSED alone. -/
theorem helloCheck_certified : helloCheck c m = ([(c.d.sys.lc != 1 || !m.debugOpen, 3), (m.group == groupId c.f, 4),
    (c.d.store.partner == 0 || m.serial == c.d.store.partner, 5), (m.major == 4, 6)].find? (fun e => !e.1)).map (·.2) := by
  have hcert : (c.d.sys.lc != 1 || m.chainOk) = true := by
    by_cases hlc : c.d.sys.lc = 1
    · simp [hchain hlc]
    · simp [hlc]
  rw [helloCheck_unasked hcmd, h1, h2, beq_self_eq_true, hcert]
  rfl

theorem helloCheck_debug (hlc : c.d.sys.lc = 1) (hdebug : m.debugOpen = true) : helloCheck c m = some 3 := by
  rw [helloCheck_certified hcmd h1 h2 hchain, hlc, hdebug]
  rfl

section
variable (hdebug : c.d.sys.lc = 1 → m.debugOpen = false)
include hdebug

theorem helloCheck_locked : helloCheck c m = ([(m.group == groupId c.f, 4),
    (c.d.store.partner == 0 || m.serial == c.d.store.partner, 5), (m.major == 4, 6)].find? (fun e => !e.1)).map (·.2) := by
  have hclosed : (c.d.sys.lc != 1 || !m.debugOpen) = true := by
    by_cases hlc : c.d.sys.lc = 1
    · simp [hdebug hlc]
    · simp [hlc]
  rw [helloCheck_certified hcmd h1 h2 hchain, hclosed]
  rfl

theorem helloCheck_group (hgroup : m.group ≠ groupId c.f) : helloCheck c m = some 4 := by
  rw [helloCheck_locked hcmd h1 h2 hchain hdebug, beq_false_of_ne hgroup]
  rfl

section
variable (hgroup : m.group = groupId c.f)
include hgroup

theorem helloCheck_serial (hrecorded : c.d.store.partner ≠ 0) (hserial : m.serial ≠ c.d.store.partner) : helloCheck c m = some 5 := by
  rw [helloCheck_locked hcmd h1 h2 hchain hdebug, hgroup, beq_self_eq_true, beq_false_of_ne hrecorded, beq_false_of_ne hserial]
  rfl

theorem helloCheck_known (hserial : c.d.store.partner = 0 ∨ m.serial = c.d.store.partner) :
    helloCheck c m = if m.major = 4 then none else some 6 := by
  have hpartner : (c.d.store.partner == 0 || m.serial == c.d.store.partner) = true := by simpa using hserial
  rw [helloCheck_locked hcmd h1 h2 hchain hdebug, hgroup, beq_self_eq_true, hpartner]
  split
  · next h => rw [h]; rfl
  · next h => rw [beq_false_of_ne h]; rfl

end

end

end

end

end

end

/-- A formation that a check ends: it is recorded, and the device is as if no partner had been seen. -/
def helloRefused (k : Nat) (m : HelloMsg) (d : Dev) : Dev :=
  modPair (fun p => { p with seen := false, key := false, nonce := [], helloSent := false }) (raise 0x8010 0xFFFF k (m.serial % 2 ^ 32) d)

section
variable {c : Cx} {m : HelloMsg} (hseeks : seeks c.d = true) (hnonce : c.d.pair.nonce ≠ []) (hcmd : c.d.pair.cmd = none)
include hseeks hnonce hcmd

theorem takeHello_refused {k : Nat} (h : helloCheck c m = some k) : takeHello m c = c.mod (helloRefused k m) := by
  have hempty : c.d.pair.nonce.isEmpty = false := by simpa using hnonce
  simp only [takeHello, hseeks, hempty, h, Bool.not_true, Bool.false_and, Bool.false_eq_true, if_false]
  have hrefused : (helloRefused k m c.d).pair.cmd = none := by simp [helloRefused, modPair, hcmd]
  exact congrArg (fun d => (⟨d, c.f⟩ : Cx)) (answerPair_none hrefused .policy)

theorem takeHello_accepted (h : helloCheck c m = none) : takeHello m c = formPair m c := by
  have hempty : c.d.pair.nonce.isEmpty = false := by simpa using hnonce
  simp [takeHello, hseeks, hempty, h, meets, pairMode_none hcmd]

end

/-! ## Forming (R377, R381, R392) -/

section
variable {c : Cx} {m : HelloMsg} (hcmd : c.d.pair.cmd = none)
include hcmd

theorem adopt_unasked : adopt m c = c.mod (fun d => { d with store := { d.store with partner := m.serial } }) := by
  unfold adopt
  dsimp only
  rw [pairMode_none hcmd]

end

theorem applyAll_nil {c : Cx} (unm : Bool) (hsteps : c.d.pair.steps = []) : applyAll unm c = c := by
  simp [applyAll, hsteps, applySequenced]

/-- The device as it enters PAIRED. -/
def paired (d : Dev) : Dev :=
  raise 0x8001 0xFFFF (roleCode d.pair.role) (partnerLow d) (modPair (fun p => { p with
    state := .paired, timer := .off, relinquished := false, held := false, missed := 0, resync := false, ahead := 0, commonSeq := 0 }) d)

theorem enterPaired_nil {c : Cx} (hcmd : c.d.pair.cmd = none) (hsteps : c.d.pair.steps = []) : enterPaired c = c.mod paired := by
  have hcmd' : (c.mod paired).d.pair.cmd = none := by simp [paired, Cx.mod, modPair, hcmd]
  have hsteps' : (c.mod paired).d.pair.steps = [] := by simp [paired, Cx.mod, modPair, hsteps]
  have hanswer : (c.mod paired).mod (answerPair .ok) = c.mod paired :=
    congrArg (fun d => (⟨d, c.f⟩ : Cx)) (answerPair_none hcmd' .ok)
  calc enterPaired c = (applyAll false ((c.mod paired).mod (answerPair .ok))).mod askAgain := rfl
    _ = (c.mod paired).mod askAgain := by rw [hanswer, applyAll_nil false hsteps']
    _ = c.mod paired := congrArg (fun d => (⟨d, c.f⟩ : Cx)) (askAgain_nil hsteps')

/-- The pair's key is agreed with the partner that sent a `HELLO`. -/
structure Joined (m : HelloMsg) (d : Dev) : Prop where
  key : d.pair.key = true
  partner : d.store.partner = m.serial

namespace Joined

variable {m : HelloMsg} {d e : Dev}

theorem of_same (h : Joined m d) (hkey : e.pair.key = d.pair.key) (hstore : e.store = d.store) : Joined m e :=
  ⟨hkey.trans h.key, hstore ▸ h.partner⟩

theorem paired (h : Joined m d) : Joined m (paired d) := h.of_same (by simp [Machine.paired, modPair]) (by simp [Machine.paired, modPair])

theorem beginForming (h : Joined m d) (hends : m.ends = []) (role : Role) : Joined m (beginForming role m d) := by
  rw [Machine.beginForming, hends]
  exact h.of_same rfl rfl

theorem sends (h : Joined m d) (l : List Entry) : Joined m (l.foldl (fun d e => strait (.journal e) d) d) := by
  induction l generalizing d with
  | nil => exact h
  | cons e l ih => exact ih (h.of_same rfl rfl)

end Joined

theorem beginForming_cmd {m : HelloMsg} (hends : m.ends = []) (role : Role) (d : Dev) : (beginForming role m d).pair.cmd = d.pair.cmd := by
  rw [beginForming, hends]
  rfl

theorem beginForming_steps {m : HelloMsg} (hends : m.ends = []) (role : Role) {d : Dev} (hsteps : d.pair.steps = []) :
    (beginForming role m d).pair.steps = [] := by
  rw [beginForming, hends]
  simp [holdCommits, modPair, hsteps]

/-- The device once the key is agreed with its partner recorded, before its role is decided. -/
def keyed (m : HelloMsg) (d : Dev) : Dev :=
  modPair (fun p => { p with key := true, frames := 0, seen := true, nonce := [], helloSent := false })
    { d with store := { d.store with partner := m.serial } }

section
variable {c : Cx} {m : HelloMsg} (hcmd : c.d.pair.cmd = none) (hsteps : c.d.pair.steps = []) (hends : m.ends = [])
include hcmd hsteps hends

theorem formPair_joins : Joined m (formPair m c).d := by
  have hkeyed : (adopt m c).mod (modPair (fun p => { p with key := true, frames := 0, seen := true, nonce := [], helloSent := false }))
      = c.mod (keyed m) := by rw [adopt_unasked hcmd]; rfl
  have joined : Joined m (keyed m c.d) := ⟨rfl, rfl⟩
  unfold formPair
  dsimp only
  rw [hkeyed]
  split
  · rw [enterPaired_nil ((beginForming_cmd hends _ (keyed m c.d)).trans hcmd) (beginForming_steps hends _ (d := keyed m c.d) hsteps)]
    exact (joined.beginForming hends _).paired
  · have begun := joined.beginForming hends .primary
    dsimp only [Cx.mod]
    split
    · have hbegun : (strait (.resync (resyncOf (beginForming .primary m (keyed m c.d)))) (beginForming .primary m (keyed m c.d))).pair.cmd
        = none := (beginForming_cmd hends .primary (keyed m c.d)).trans hcmd
      rw [answerPair_none hbegun]
      exact begun.of_same rfl rfl
    · exact begun.sends _
  · exact joined.beginForming hends _
  · dsimp only [Cx.mod]
    rw [resubmit_nil (by simpa [modPair, keyed] using hsteps)]
    exact joined.of_same (by simp [modPair]) (by simp [modPair])

end

/-! ## The obligation -/

theorem exec_hello_linked {s : State} {m : HelloMsg} (hup : linkUp s.dev = true) :
    exec (.hello true m) s = withCx s (takeHello m s.cx) :=
  congrArg (withCx s) ((if_neg (by simp [hup])).trans (if_pos rfl))

/-- Settles O58: each check by the ones before it, and the partner that passes them all is taken in whichever role forms. -/
theorem partnersAreChecked : Obligations.PartnersAreChecked := by
  unfold Obligations.PartnersAreChecked
  intro s m d p lc set known hup hseeks hnonce hcmd fails
  have refuses {k : Nat} (h : helloCheck s.cx m = some k) : fails k := by
    have hrow := exec_hello_linked (m := m) hup
    rw [takeHello_refused (c := s.cx) hseeks hnonce hcmd h] at hrow
    exact does_of_withCx hrow
  refine ⟨fun h => refuses (helloCheck_signature hcmd h), fun h1 h2 => refuses (helloCheck_lifecycle hcmd h1 h2),
    fun h1 h2 hlc hchain => refuses (helloCheck_chain hcmd h1 h2 hlc hchain),
    fun h1 h2 hlc hchain hdebug => refuses (helloCheck_debug hcmd h1 h2 (fun _ => hchain) hlc hdebug),
    fun h1 h2 hchain hdebug hgroup => refuses (helloCheck_group hcmd h1 h2 hchain hdebug hgroup), ?_, ?_, ?_⟩
  · rintro ⟨h1, h2, hchain, hdebug, hgroup⟩ hrecorded hserial
    exact refuses (helloCheck_serial hcmd h1 h2 hchain hdebug hgroup hrecorded hserial)
  · rintro ⟨h1, h2, hchain, hdebug, hgroup⟩ hserial hmajor
    exact refuses ((helloCheck_known hcmd h1 h2 hchain hdebug hgroup hserial).trans (if_neg hmajor))
  · rintro ⟨h1, h2, hchain, hdebug, hgroup⟩ hserial hmajor hsteps hends
    have hpasses := (helloCheck_known (c := s.cx) hcmd h1 h2 hchain hdebug hgroup hserial).trans (if_pos hmajor)
    have hrow := exec_hello_linked (m := m) hup
    rw [takeHello_accepted (c := s.cx) hseeks hnonce hcmd hpasses] at hrow
    have joins := formPair_joins (c := s.cx) hcmd hsteps hends
    refine ⟨_, hrow, ?_, ?_, ?_⟩
    · rw [formPair_f, adopt_unasked hcmd]
      rfl
    · simp only [watch_pair]
      exact joins.key
    · simp only [watch_store]
      exact joins.partner

end Sys2Proof.Machine
end

section
/-! PROOF. The service port (O60): what every frame is refused for, then what each frame does once it is served. -/

namespace Sys2Proof.Machine

/-! ## Reserved bytes -/

theorem slice8_succ (l : List Byte) (o n : Nat) : slice8 l o (n + 1) = l.getD o 0 :: slice8 l (o + 1) n := by
  have hhead : (l.drop o).head? = l[o]? := List.head?_drop
  have htail : (l.drop o).tail = l.drop (o + 1) := List.tail_drop
  rw [slice8, slice8, List.getD_eq_getElem?_getD, ← hhead, ← htail]
  cases l.drop o <;> rfl

theorem slice8_zero {l : List Byte} {n o : Nat} (h : leAt l o n = 0) : (slice8 l o n).all (· == 0) = true := by
  induction n generalizing o with
  | zero => rfl
  | succ n ih =>
    rw [leAt] at h
    have hbyte : l.getD o 0 = 0 := BitVec.eq_of_toNat_eq (Nat.eq_zero_of_add_eq_zero_right h)
    rw [slice8_succ, List.all_cons, hbyte, ih (by omega)]
    rfl

/-- Reserved bytes that read as the number 0. -/
theorem zeroFrom_of_leAt {l : List Byte} {o n : Nat} (h : leAt l o n = 0) : zeroFrom l o (o + n) = true := by
  rw [zeroFrom, Nat.add_sub_cancel_left]
  exact slice8_zero h

/-! ## The rows of the port (R433, R435) -/

/-- The port is up and owes no answer. -/
def PortOpen (d : Dev) : Prop := portUp d = true ∧ d.fw.response = none ∧ d.fw.unanswered = none

/-- The CP or the boot ROM serves frames. -/
def Serves (d : Dev) : Prop := alive d = true ∧ d.sys.cpRestart = false ∧ (d.sys.cpUp = true ∨ d.sys.stage = 5)

/-- The frames of the port but `TEST`: the command, its type, and whether its payload has the right length. -/
def portRows (f : SvcFrame) (v : PkgVerdict) : List (Instr × Nat × Bool) :=
  [(.status f, 0x01, f.payload.length == 0), (.svcLogRead f, 0x02, f.payload.length == 16),
    (.pkgBegin f, 0x10, f.payload.length == 8), (.pkgData f, 0x11, decide (9 ≤ f.payload.length) && decide (f.payload.length ≤ 4096)),
    (.pkgEnd f v, 0x12, f.payload.length == 0), (.pkgAbort f, 0x13, f.payload.length == 0), (.activate f, 0x20, f.payload.length == 4)]

/-- A row is a frame of its type and length; a package's frame meets the refusals of `packageState` before its own body. -/
def IsPortRow (f : SvcFrame) (s : State) (r : Instr × Nat × Bool) : Prop :=
  ∃ lenOk k, exec r.1 s = onPort r.2.1 f lenOk k s ∧ lenOk f.payload.length = r.2.2 ∧
    (0x10 ≤ r.2.1 → ∃ body : Cx → PortRes, k = fun c => barred (packageState c.d) c (body c))

theorem portRows_isPortRow (f : SvcFrame) (v : PkgVerdict) (s : State) : ∀ r ∈ portRows f v, IsPortRow f s r :=
  List.forall_mem_cons.2 ⟨⟨_, _, exec_status f s, rfl, fun h => absurd h (show ¬0x10 ≤ 0x01 by decide)⟩,
    List.forall_mem_cons.2 ⟨⟨_, _, exec_svcLogRead f s, rfl, fun h => absurd h (show ¬0x10 ≤ 0x02 by decide)⟩,
    List.forall_mem_cons.2 ⟨⟨_, _, exec_pkgBegin f s, rfl, fun _ => ⟨_, rfl⟩⟩,
    List.forall_mem_cons.2 ⟨⟨_, _, exec_pkgData f s, rfl, fun _ => ⟨_, rfl⟩⟩,
    List.forall_mem_cons.2 ⟨⟨_, _, exec_pkgEnd f v s, rfl, fun _ => ⟨_, rfl⟩⟩,
    List.forall_mem_cons.2 ⟨⟨_, _, exec_pkgAbort f s, rfl, fun _ => ⟨_, rfl⟩⟩,
    List.forall_mem_cons.2 ⟨⟨_, _, exec_activate f s, rfl, fun _ => ⟨_, rfl⟩⟩, List.forall_mem_nil _⟩⟩⟩⟩⟩⟩⟩

section
variable {f : SvcFrame} {s : State} {r : Instr × Nat × Bool} (hrow : IsPortRow f s r)
include hrow

theorem IsPortRow.shut (h : portUp s.dev = false ∨ s.dev.fw.response ≠ none ∨ s.dev.fw.unanswered ≠ none) : exec r.1 s = .next s := by
  obtain ⟨_, _, hexec, -, -⟩ := hrow
  rw [hexec, port_shut h]

variable (ho : PortOpen s.dev)
include ho

theorem IsPortRow.bad (h : frameOk r.2.1 f = false) : exec r.1 s = withCx s (s.cx.mod (portAnswer r.2.1 f.seq 1 [])) := by
  obtain ⟨_, _, hexec, -, -⟩ := hrow
  rw [hexec, port_bad ho h]

variable (hok : frameOk r.2.1 f = true)
include hok

theorem IsPortRow.length (h : r.2.2 = false) : exec r.1 s = withCx s (s.cx.mod (portAnswer r.2.1 f.seq 3 [])) := by
  obtain ⟨_, _, hexec, hlen, -⟩ := hrow
  rw [hexec, port_length ho hok (hlen.trans h)]

theorem IsPortRow.refused {st : Nat} {p : List Byte} (h : r.2.2 = true) (hty : 0x10 ≤ r.2.1) (hstate : packageState s.dev = some (st, p)) :
    exec r.1 s = withCx s (s.cx.mod (portAnswer r.2.1 f.seq st p)) := by
  obtain ⟨_, _, hexec, hlen, hbody⟩ := hrow
  obtain ⟨body, rfl⟩ := hbody hty
  rw [hexec]
  exact port_served ho hok (hlen.trans h) (by rw [show packageState s.cx.d = _ from hstate, barred])

end

theorem packageState_scrapped {d : Dev} (h : d.sys.lc = 2) : packageState d = some (7, [1]) := if_pos h

theorem packageState_restarting {d : Dev} (hlc : d.sys.lc ≠ 2) (h : d.sys.cpRestart = true) : packageState d = some (5, []) := by
  rw [packageState, if_neg hlc, portState, if_pos h]
  rfl

theorem packageState_busy {d : Dev} (hlc : d.sys.lc ≠ 2) (h : Serves d) (hbusy : ¬(d.fw.staging ≠ .activating ∧ d.fw.staging ≠ .verifying)) :
    packageState d = some (5, []) := by
  rw [packageState, if_neg hlc, portState_none h]
  exact if_pos (by tauto)

/-! ## A frame that is served -/

section
variable {ty : Nat} {f : SvcFrame} {lenOk : Nat → Bool} {body : Cx → PortRes} {s : State} {c : Cx} {st : Nat} {p : List Byte}
variable (ho : PortOpen s.dev) (hok : frameOk ty f = true) (hlen : lenOk f.payload.length = true)
include ho hok hlen

/-- A frame of a package or an activation answers as its body says. -/
theorem package_served (hfree : packageState s.dev = none) (hbody : body s.cx = (c, some (st, p))) :
    onPort ty f lenOk (fun c => barred (packageState c.d) c (body c)) s = withCx s (c.mod (portAnswer ty f.seq st p)) :=
  port_served ho hok hlen (by rw [show packageState s.cx.d = none from hfree, barred, hbody])

/-- The answer comes later. -/
theorem package_waits (hfree : packageState s.dev = none) (hbody : body s.cx = (c, none)) :
    onPort ty f lenOk (fun c => barred (packageState c.d) c (body c)) s
      = withCx s (c.mod (fun d => { d with fw := { d.fw with unanswered := some (ty, f.seq) } })) := by
  obtain ⟨hup, hresponse, hunanswered⟩ := ho
  rw [onPort, if_neg (by simp [hup, hresponse, hunanswered]), if_neg (by simp [hok]), if_neg (by simp [hlen]),
    show packageState s.cx.d = none from hfree, barred, hbody]

end

/-! ## What a package's checks show (R441) -/

/-- How bytes that arrive in order are answered, by the check they fail. -/
def arrived (c : Cx) (new : List Byte) : Option Nat → Cx × Nat × List Byte
  | none => (c.mod (takeBytes c.d.fw.package new), 0, leBytes 4 new.length)
  | some code => ((c.mod (takeBytes c.d.fw.package new)).mod (refusePackage code), 6, [byteOf code])

/-- How the end of a package is answered, by the check it fails. -/
def ended (c : Cx) (img : List Byte) : Option Nat → Cx × Nat × List Byte
  | none => (stageImage img c, 0, [0])
  | some code => (c.mod (refusePackage code), 6, [byteOf code])

section
variable {c : Cx} {old new : List Byte}

theorem arrivalFails_short (h : new.length < 128) : arrivalFails c old new = none := if_pos h

theorem takeBytes_short (h : new.length < 128) (d : Dev) : takeBytes old new d = { d with fw := { d.fw with package := new } } :=
  if_neg (by omega)

variable (hold : old.length < 128) (hnew : 128 ≤ new.length)
include hold hnew

theorem takeBytes_header (d : Dev) :
    takeBytes old new d = raise 0x7001 0xFFFF d.fw.total (leAt new 0x0A 1) { d with fw := { d.fw with package := new } } := if_pos ⟨hold, hnew⟩

theorem arrivalFails_header {k : Nat} (h : headerFails c new c.d.fw.total = some k) : arrivalFails c old new = some k := by
  rw [arrivalFails, if_neg (by omega), if_pos hold, h]
  rfl

theorem arrivalFails_records (h : headerFails c new c.d.fw.total = none) (hrebuilt : (rebuilt c.d new).isSome = true) :
    arrivalFails c old new = none := by
  rw [arrivalFails, if_neg (by omega), if_pos hold, h]
  exact if_neg (by simp [Option.isSome_iff_ne_none.1 hrebuilt])

end

section
variable {c : Cx} {v : PkgVerdict} {img : List Byte} (hlong : 128 ≤ c.d.fw.package.length)
include hlong

theorem endFails_vendor (h : v.vendorOk = false) : endFails c v img = some 6 := by
  rw [endFails, if_neg (by omega), if_pos (by simp [h])]

variable (hvendor : v.vendorOk = true)
include hvendor

theorem endFails_owner (hlc : c.d.sys.lc = 1) (h : v.ownerOk = false) : endFails c v img = some 7 := by
  rw [endFails, if_neg (by omega), if_neg (by simp [hvendor]), if_pos (by simp [hlc, h])]

variable (howner : c.d.sys.lc = 1 → v.ownerOk = true)
include howner

theorem endFails_signed : endFails c v img
    = if !v.digestOk || sha384 img != slice8 c.d.fw.package 0x40 48 then some 8
      else if !imageOk img (leAt c.d.fw.package 0x0C 4) (leAt c.d.fw.package 0x0B 1) then some 12 else none := by
  rw [endFails, if_neg (by omega), if_neg (by simp [hvendor]), if_neg (by simpa using howner)]
  rfl

theorem endFails_digest (h : v.digestOk = false ∨ sha384 img ≠ slice8 c.d.fw.package 0x40 48) : endFails c v img = some 8 := by
  rw [endFails_signed hlong hvendor howner, if_pos (by simpa using h)]

variable (hdigest : v.digestOk = true) (hsha : sha384 img = slice8 c.d.fw.package 0x40 48)
include hdigest hsha

theorem endFails_image (h : imageOk img (leAt c.d.fw.package 0x0C 4) (leAt c.d.fw.package 0x0B 1) = false) : endFails c v img = some 12 := by
  rw [endFails_signed hlong hvendor howner, if_neg (by simp [hdigest, hsha]), if_pos (by simp [h])]

theorem endFails_none (h : imageOk img (leAt c.d.fw.package 0x0C 4) (leAt c.d.fw.package 0x0B 1) = true) : endFails c v img = none := by
  rw [endFails_signed hlong hvendor howner, if_neg (by simp [hdigest, hsha]), if_neg (by simp [h])]

end

/-- The image that a package's header states. -/
def statedBank (img : List Byte) (d : Dev) : Bank :=
  { fw := leAt d.fw.package 0x0C 4, sec := leAt d.fw.package 0x0B 1, digest := slice8 d.fw.package 0x40 48, image := img, owner := d.sys.lc == 1 }

/-- Outside recovery an image that passes is STAGED. -/
theorem stageImage_staged {c : Cx} {img : List Byte} (h : c.d.sys.stage ≠ 5) :
    stageImage img c = c.mod (fun d => raise 0x7002 0xFFFF (statedBank img d).fw (statedBank img d).sec
      { d with fw := { setBank (inactiveBank d.fw) (some (statedBank img d)) d.fw with
        staging := .staged, staged := some (statedBank img d), stagedKind := leAt d.fw.package 0x0A 1, lastResult := 0 } }) := if_pos h

/-- In recovery the start goes on with it. -/
theorem stageImage_recovered {c : Cx} {img : List Byte} (h : c.d.sys.stage = 5) :
    (stageImage img c).d.sys = { c.d.sys with stage := 2, haltCause := 0 } ∧ (stageImage img c).d.fw.active = some (inactiveBank c.d.fw) ∧
      (stageImage img c).d.fw.staging = .none ∧ (stageImage img c).f = { c.f with secVersion := stepFuse (leAt c.d.fw.package 0x0B 1) c.f.secVersion } := by
  rw [stageImage]
  dsimp only
  rw [if_neg (not_not.2 h)]
  exact ⟨by dsimp only; rw [raise_sys], rfl, rfl, rfl⟩

/-! ## The status block and the log (R411, R412, R436) -/

section
variable {f : SvcFrame} {s : State} (ho : PortOpen s.dev)
include ho

theorem status_answers (hok : frameOk 0x01 f = true) (hlen : f.payload = []) :
    exec (.status f) s = withCx s (s.cx.mod (portAnswer 0x01 f.seq 0 (statusBlock s.cx))) := by
  rw [exec_status, execStatus]
  exact port_served ho hok (by rw [hlen]; rfl) rfl

theorem svcLogRead_answers (hok : frameOk 0x02 f = true) (hlen : f.payload.length = 16) (hserves : Serves s.dev)
    (hread : logReadOk f.payload = true) (hn : leAt f.payload 4 4 ≤ 126) {l : List Byte × List Byte}
    (hl : l = readLog s.dev.sys.cpUp (leAt f.payload 0 1) (leAt f.payload 4 4) (leAt f.payload 8 8) s.dev) :
    exec (.svcLogRead f) s = withCx s (s.cx.mod (portAnswer 0x02 f.seq 0 (l.2 ++ l.1))) := by
  have hwanted : (!logReadOk f.payload || decide (126 < leAt f.payload 4 4)) = false := by simp [hread, hn]
  rw [exec_svcLogRead, execSvcLogRead, hl]
  refine port_served ho hok (by rw [hlen]; rfl) ?_
  rw [show portState s.cx.d = none from portState_none hserves, barred]
  dsimp only
  rw [if_neg (by rw [hwanted]; decide)]
  rfl

/-! ## A package begins (R435) -/

variable (hfree : packageState s.dev = none)
include hfree

section
variable (hok : frameOk 0x10 f = true) (hlen : f.payload.length = 8)
include hok hlen

theorem pkgBegin_badSize (h : leAt f.payload 0 4 = 0 ∨ 16777216 < leAt f.payload 0 4) :
    exec (.pkgBegin f) s = withCx s (s.cx.mod (portAnswer 0x10 f.seq 3 [])) := by
  rw [exec_pkgBegin, execPkgBegin]
  exact package_served ho hok (by rw [hlen]; rfl) hfree (if_pos (by tauto))

variable (hn : leAt f.payload 0 4 ≠ 0) (hmax : leAt f.payload 0 4 ≤ 16777216) (hzero : leAt f.payload 4 4 = 0)
include hn hmax hzero

omit ho hfree hok hlen in
theorem pkgBegin_wellFormed : ¬(leAt f.payload 0 4 = 0 ∨ 16777216 < leAt f.payload 0 4 ∨ !zeroFrom f.payload 4 8) := by
  simp [hn, hmax, zeroFrom_of_leAt (n := 4) hzero]

theorem pkgBegin_notNow (h : s.dev.fw.staging ≠ .none) : exec (.pkgBegin f) s = withCx s (s.cx.mod (portAnswer 0x10 f.seq 7 [4])) := by
  have hform := pkgBegin_wellFormed hn hmax hzero
  rw [exec_pkgBegin, execPkgBegin]
  exact package_served ho hok (by rw [hlen]; rfl) hfree ((if_neg hform).trans (if_pos h))

theorem pkgBegin_begins (h : s.dev.fw.staging = .none) :
    exec (.pkgBegin f) s = withCx s ((s.cx.mod (fun d => { d with fw := { setBank (inactiveBank d.fw) none d.fw with
      staging := .receiving, package := [], total := leAt f.payload 0 4, staged := none } })).mod (portAnswer 0x10 f.seq 0 [])) := by
  have hform := pkgBegin_wellFormed hn hmax hzero
  rw [exec_pkgBegin, execPkgBegin]
  exact package_served ho hok (by rw [hlen]; rfl) hfree ((if_neg hform).trans (if_neg (not_not.2 h)))

end

/-! ## Its bytes arrive (R433, R435, R441) -/

section
variable (hok : frameOk 0x11 f = true) (hmin : 9 ≤ f.payload.length) (hmax : f.payload.length ≤ 4096)
include hok hmin hmax

theorem pkgData_notNow (h : s.dev.fw.staging ≠ .receiving) : exec (.pkgData f) s = withCx s (s.cx.mod (portAnswer 0x11 f.seq 7 [4])) := by
  rw [exec_pkgData, execPkgData]
  exact package_served ho hok (by simp [hmin, hmax]) hfree (if_pos h)

variable (hstaging : s.dev.fw.staging = .receiving) (hzero : leAt f.payload 4 4 = 0)
include hstaging hzero

theorem pkgData_outOfOrder (h : leAt f.payload 0 4 ≠ s.dev.fw.package.length) :
    exec (.pkgData f) s = withCx s (s.cx.mod (portAnswer 0x11 f.seq 4 (leBytes 4 s.dev.fw.package.length))) := by
  rw [exec_pkgData, execPkgData]
  exact package_served ho hok (by simp [hmin, hmax]) hfree
    ((if_neg (not_not.2 hstaging)).trans ((if_neg (by simp [zeroFrom_of_leAt (n := 4) hzero])).trans (if_pos h)))

variable (horder : leAt f.payload 0 4 = s.dev.fw.package.length) {new : List Byte} (hnew : s.dev.fw.package ++ f.payload.drop 8 = new)
  (htotal : new.length ≤ s.dev.fw.total)
include horder hnew htotal

theorem pkgData_arrives {fails : Option Nat} (h : arrivalFails s.cx s.dev.fw.package new = fails) :
    exec (.pkgData f) s = withCx s ((arrived s.cx new fails).1.mod
      (portAnswer 0x11 f.seq (arrived s.cx new fails).2.1 (arrived s.cx new fails).2.2)) := by
  subst hnew
  rw [exec_pkgData, execPkgData]
  refine package_served ho hok (by simp [hmin, hmax]) hfree
    ((if_neg (not_not.2 hstaging)).trans ((if_neg (by simp [zeroFrom_of_leAt (n := 4) hzero])).trans
      ((if_neg (not_not.2 horder)).trans ((if_neg (Nat.not_lt.2 htotal)).trans ?_))))
  dsimp only
  rw [show arrivalFails s.cx s.cx.d.fw.package (s.cx.d.fw.package ++ _) = fails from h]
  cases fails <;> rfl

theorem pkgData_short (h : new.length < 128) :
    exec (.pkgData f) s = withCx s ((s.cx.mod (fun d => { d with fw := { d.fw with package := new } })).mod
      (portAnswer 0x11 f.seq 0 (leBytes 4 new.length))) := by
  rw [pkgData_arrives ho hfree hok hmin hmax hstaging hzero horder hnew htotal (arrivalFails_short h), arrived,
    show takeBytes s.cx.d.fw.package new = _ from funext (takeBytes_short h)]

variable (hold : s.dev.fw.package.length < 128) (hlong : 128 ≤ new.length)
include hold hlong

theorem pkgData_badHeader {k : Nat} (h : headerFails s.cx new s.dev.fw.total = some k) :
    ∃ c : Cx, exec (.pkgData f) s = withCx s (c.mod (portAnswer 0x11 f.seq 6 [byteOf k])) ∧ c.f = s.fuse ∧
      c.d.fw = (dropStaging k { s.dev with fw := { s.dev.fw with package := new } }).fw := by
  refine ⟨(s.cx.mod (takeBytes s.dev.fw.package new)).mod (refusePackage k), ?_, rfl, ?_⟩
  · rw [pkgData_arrives ho hfree hok hmin hmax hstaging hzero horder hnew htotal (arrivalFails_header (c := s.cx) hold hlong h), arrived]
    rfl
  · show (refusePackage k (takeBytes s.dev.fw.package new s.dev)).fw = _
    rw [takeBytes_header hold hlong, refusePackage, raise_fw, dropStaging, raise_fw]
    rfl

theorem pkgData_goodHeader (h : headerFails s.cx new s.dev.fw.total = none) (hrebuilt : (rebuilt s.dev new).isSome = true) :
    exec (.pkgData f) s = withCx s ((s.cx.mod (fun d => raise 0x7001 0xFFFF d.fw.total (leAt new 0x0A 1)
      { d with fw := { d.fw with package := new } })).mod (portAnswer 0x11 f.seq 0 (leBytes 4 new.length))) := by
  rw [pkgData_arrives ho hfree hok hmin hmax hstaging hzero horder hnew htotal (arrivalFails_records (c := s.cx) hold hlong h hrebuilt), arrived,
    show takeBytes s.cx.d.fw.package new = _ from funext (takeBytes_header hold hlong)]

end

/-! ## Its end and its abort (R435, R441, R443) -/

section
variable {v : PkgVerdict} (hok : frameOk 0x12 f = true) (hlen : f.payload = [])
include hok hlen

theorem pkgEnd_notNow (h : s.dev.fw.staging ≠ .receiving ∨ s.dev.fw.package.length ≠ s.dev.fw.total) :
    exec (.pkgEnd f v) s = withCx s (s.cx.mod (portAnswer 0x12 f.seq 7 [4])) := by
  rw [exec_pkgEnd, execPkgEnd]
  exact package_served ho hok (by rw [hlen]; rfl) hfree (if_pos h)

variable (hstaging : s.dev.fw.staging = .receiving) (htotal : s.dev.fw.package.length = s.dev.fw.total) {img : List Byte}
  (himg : (rebuilt s.dev s.dev.fw.package).getD [] = img)
include hstaging htotal himg

theorem pkgEnd_ends {fails : Option Nat} (h : endFails s.cx v img = fails) :
    exec (.pkgEnd f v) s = withCx s ((ended s.cx img fails).1.mod (portAnswer 0x12 f.seq (ended s.cx img fails).2.1 (ended s.cx img fails).2.2)) := by
  subst himg
  rw [exec_pkgEnd, execPkgEnd]
  refine package_served ho hok (by rw [hlen]; rfl) hfree ((if_neg (by rintro (hne | hne) <;> exact hne ‹_›)).trans ?_)
  dsimp only
  rw [show endFails s.cx v ((rebuilt s.cx.d s.cx.d.fw.package).getD []) = fails from h]
  cases fails <;> rfl

theorem pkgEnd_refused {k : Nat} (h : endFails s.cx v img = some k) :
    exec (.pkgEnd f v) s = withCx s ((s.cx.mod (refusePackage k)).mod (portAnswer 0x12 f.seq 6 [byteOf k])) := by
  rw [pkgEnd_ends ho hfree hok hlen hstaging htotal himg h, ended]

theorem pkgEnd_passes (h : endFails s.cx v img = none) :
    exec (.pkgEnd f v) s = withCx s ((stageImage img s.cx).mod (portAnswer 0x12 f.seq 0 [0])) := by
  rw [pkgEnd_ends ho hfree hok hlen hstaging htotal himg h, ended]

theorem pkgEnd_staged (h : endFails s.cx v img = none) (hstage : s.dev.sys.stage ≠ 5) :
    exec (.pkgEnd f v) s = withCx s ((s.cx.mod (fun d => raise 0x7002 0xFFFF (statedBank img d).fw (statedBank img d).sec
      { d with fw := { setBank (inactiveBank d.fw) (some (statedBank img d)) d.fw with
        staging := .staged, staged := some (statedBank img d), stagedKind := leAt d.fw.package 0x0A 1, lastResult := 0 } })).mod
      (portAnswer 0x12 f.seq 0 [0])) := by
  rw [pkgEnd_passes ho hfree hok hlen hstaging htotal himg h, stageImage_staged (c := s.cx) hstage]

end

section
variable (hok : frameOk 0x13 f = true) (hlen : f.payload = [])
include hok hlen

theorem pkgAbort_notNow (h : s.dev.fw.staging ≠ .receiving) : exec (.pkgAbort f) s = withCx s (s.cx.mod (portAnswer 0x13 f.seq 7 [4])) := by
  rw [exec_pkgAbort, execPkgAbort]
  exact package_served ho hok (by rw [hlen]; rfl) hfree (if_pos h)

theorem pkgAbort_ends (h : s.dev.fw.staging = .receiving) :
    exec (.pkgAbort f) s = withCx s ((s.cx.mod (endReception 11 2)).mod (portAnswer 0x13 f.seq 0 [])) := by
  rw [exec_pkgAbort, execPkgAbort]
  exact package_served ho hok (by rw [hlen]; rfl) hfree (if_neg (not_not.2 h))

end

/-! ## Activation (R444, R445) -/

section
variable (hok : frameOk 0x20 f = true) (hlen : f.payload.length = 4)
include hok hlen

theorem activate_notStaged (h : s.dev.fw.staging ≠ .staged ∨ leAt f.payload 0 4 ≠ newFw s.dev) :
    exec (.activate f) s = withCx s (s.cx.mod (portAnswer 0x20 f.seq 7 [4])) := by
  rw [exec_activate, execActivate]
  exact package_served ho hok (by rw [hlen]; rfl) hfree (if_pos (h.imp_right .inl))

variable (hstaging : s.dev.fw.staging = .staged) (hfw : leAt f.payload 0 4 = newFw s.dev) (hlock : s.dev.goose.lock = false)
include hstaging hfw hlock

theorem activate_held (h : primaryHeld s.dev = true) : exec (.activate f) s = withCx s (s.cx.mod (portAnswer 0x20 f.seq 7 [2])) := by
  rw [exec_activate, execActivate]
  exact package_served ho hok (by rw [hlen]; rfl) hfree ((if_neg (by simp [State.cx, hstaging, hfw, hlock])).trans (if_pos h))

theorem activate_begins (h : primaryHeld s.dev = false) :
    exec (.activate f) s = withCx s ((s.cx.mod (beginActivation none)).mod
      (fun d => { d with fw := { d.fw with unanswered := some (0x20, f.seq) } })) := by
  rw [exec_activate, execActivate]
  exact package_waits ho hok (by rw [hlen]; rfl) hfree
    ((if_neg (by simp [State.cx, hstaging, hfw, hlock])).trans (if_neg (Bool.eq_false_iff.1 h)))

end

end

/-! ## `TEST` (R435) -/

section
variable {f : SvcFrame} {s : State}

/-- What `TEST` answers where it does not stop. -/
theorem exec_test_answers (h : ¬(s.dev.sys.lc = 0 ∧ portUp s.dev ∧ portServed s.dev ∧ frameOk 0x30 f ∧ s.dev.fw.response.isNone ∧
      s.dev.fw.unanswered.isNone)) :
    exec (.test f) s = onPort 0x30 f (fun _ => true) (fun c => (c, (if c.d.sys.lc ≠ 0 then some (7, [1]) else portState c.d))) s := by
  rw [exec_test, execTest, if_neg h]

theorem test_shut (h : portUp s.dev = false ∨ s.dev.fw.response ≠ none ∨ s.dev.fw.unanswered ≠ none) : exec (.test f) s = .next s := by
  rw [exec_test_answers, port_shut h]
  rintro ⟨-, hup, -, -, hresponse, hunanswered⟩
  rcases h with h | h | h
  · exact absurd hup (Bool.eq_false_iff.1 h)
  · exact h (Option.isNone_iff_eq_none.1 hresponse)
  · exact h (Option.isNone_iff_eq_none.1 hunanswered)

variable (ho : PortOpen s.dev)
include ho

theorem test_bad (hok : frameOk 0x30 f = false) : exec (.test f) s = withCx s (s.cx.mod (portAnswer 0x30 f.seq 1 [])) := by
  rw [exec_test_answers (by simp [hok]), port_bad ho hok]

theorem test_refused (hok : frameOk 0x30 f = true) (hlc : s.dev.sys.lc ≠ 0) :
    exec (.test f) s = withCx s (s.cx.mod (portAnswer 0x30 f.seq 7 [1])) := by
  rw [exec_test_answers (fun h => hlc h.1)]
  exact port_served ho hok rfl (congrArg (Prod.mk s.cx) (if_pos hlc))

theorem test_stops (hok : frameOk 0x30 f = true) (hlc : s.dev.sys.lc = 0) (hserves : Serves s.dev) :
    exec (.test f) s = .refused .vendorTest := by
  obtain ⟨hup, hresponse, hunanswered⟩ := ho
  obtain ⟨halive, hrestart, hcp⟩ := hserves
  have hserved : portServed s.dev = true := by
    rw [portServed, halive, hrestart]
    rcases hcp with hcp | hcp <;> simp [hcp]
  rw [exec_test, execTest, if_pos ⟨hlc, hup, hserved, hok, by rw [hresponse]; rfl, by rw [hunanswered]; rfl⟩]

end

/-! ## Reading the port and its times (R431, R434) -/

section
variable {s : State}

theorem svcResponseRead_drives (hup : portUp s.dev = true) {r : List Byte} (h : s.dev.fw.response = some r) :
    Does .svcResponseRead s (emit (.service r) { s.dev with fw := { s.dev.fw with response := none } }) :=
  does_of_onDev (exec_svcResponseRead s) (by simp only [h, hup, if_true])

theorem svcResponseRead_idle (h : portUp s.dev = false ∨ s.dev.fw.response = none) : exec .svcResponseRead s = .next s := by
  refine exec_of_onDev (exec_svcResponseRead s) ?_ rfl
  rcases h with h | h
  · cases s.dev.fw.response <;> simp [h]
  · simp only [h]

theorem svcBootStatusRead_drives (hup : portUp s.dev = true) :
    Does .svcBootStatusRead s (emit (.service (leBytes 8 (bootStatus s.dev))) s.dev) :=
  does_of_onDev (exec_svcBootStatusRead s) (if_pos hup)

theorem svcBootStatusRead_shut (hup : portUp s.dev = false) : exec .svcBootStatusRead s = .next s :=
  exec_of_onDev (exec_svcBootStatusRead s) (if_neg (Bool.eq_false_iff.1 hup)) rfl

theorem svcReceptionTimeout_ends (halive : alive s.dev = true) (hrestart : s.dev.sys.cpRestart = false)
    (hstaging : s.dev.fw.staging = .receiving) : Does .svcReceptionTimeout s (endReception 10 3 s.dev) :=
  does_of_onDev (exec_svcReceptionTimeout s) (if_pos (by simp [halive, hrestart, hstaging]))

theorem svcReceptionTimeout_idle (hstaging : s.dev.fw.staging ≠ .receiving) : exec .svcReceptionTimeout s = .next s :=
  exec_of_onDev (exec_svcReceptionTimeout s) (if_neg (by simp [hstaging])) rfl

end

/-! ## The obligation -/

/-- Settles O60: the rows share their refusals; a served frame is answered by its own body. -/
theorem servicePort : Obligations.ServicePort := by
  unfold Obligations.ServicePort
  intro s d c w setFw open_ served quiet
  refine ⟨fun f v => ?_, fun hup => ⟨fun r hr => svcResponseRead_drives hup hr, svcBootStatusRead_drives hup⟩, svcResponseRead_idle,
    svcBootStatusRead_shut, does_of_onDev (exec_svcResponseTimeout s) rfl, exec_svcTransactionTimeout s, svcReceptionTimeout_ends,
    svcReceptionTimeout_idle⟩
  intro rows replies
  have hrows : ∀ r ∈ rows, IsPortRow f s r := portRows_isPortRow f v s
  refine ⟨fun hshut => ⟨fun r hr => (hrows r hr).shut hshut, test_shut hshut⟩, fun ho => ⟨fun r hr => ?_, ?_, ?_, ?_, ?_, ?_, ?_⟩⟩
  · have hrow := hrows r hr
    exact ⟨hrow.bad ho, hrow.length ho, fun hok hlen =>
      ⟨fun hty hlc => hrow.refused ho hok hlen hty (packageState_scrapped hlc),
        fun hty hlc hrestart => hrow.refused ho hok hlen hty (packageState_restarting hlc hrestart),
        fun hty hlc hserves hbusy => hrow.refused ho hok hlen hty (packageState_busy hlc hserves hbusy)⟩⟩
  · exact status_answers ho
  · exact fun hok hlen hserves hread hn => svcLogRead_answers ho hok hlen hserves hread hn rfl
  · intro hlc hserves hquiet
    have hfree : packageState s.dev = none := packageState_none hlc hserves hquiet
    refine ⟨fun hok hlen => ?_, fun hok hmin hmax => ?_, fun hok hlen => ?_, fun hok hlen => ?_, fun hok hlen => ?_⟩
    · exact ⟨pkgBegin_badSize ho hfree hok hlen, pkgBegin_notNow ho hfree hok hlen, pkgBegin_begins ho hfree hok hlen⟩
    · exact ⟨pkgData_notNow ho hfree hok hmin hmax, fun hstaging hzero => ⟨pkgData_outOfOrder ho hfree hok hmin hmax hstaging hzero,
        fun horder hshort htotal => pkgData_short ho hfree hok hmin hmax hstaging hzero horder rfl htotal hshort,
        fun horder hold hlong htotal => ⟨fun k hk => pkgData_badHeader ho hfree hok hmin hmax hstaging hzero horder rfl htotal hold hlong hk,
          pkgData_goodHeader ho hfree hok hmin hmax hstaging hzero horder rfl htotal hold hlong⟩⟩⟩
    · refine ⟨pkgEnd_notNow ho hfree hok hlen, fun hstaging htotal hlong => ?_⟩
      intro img b refused good
      have hrefused {k : Nat} (h : endFails s.cx v img = some k) : refused k := pkgEnd_refused ho hfree hok hlen hstaging htotal rfl h
      refine ⟨fun hvendor => hrefused (endFails_vendor (c := s.cx) hlong hvendor),
        fun hvendor hlc howner => hrefused (endFails_owner (c := s.cx) hlong hvendor hlc howner),
        fun hvendor howner hbad => hrefused (endFails_digest (c := s.cx) hlong hvendor howner hbad), ?_, ?_, ?_⟩
      · rintro ⟨hvendor, howner, hdigest, hsha⟩ himage
        exact hrefused (endFails_image (c := s.cx) hlong hvendor howner hdigest hsha himage)
      · rintro ⟨hvendor, howner, hdigest, hsha⟩ himage hstage
        have hpasses := endFails_none (c := s.cx) hlong hvendor howner hdigest hsha himage
        exact pkgEnd_staged ho hfree hok hlen hstaging htotal rfl hpasses hstage
      · rintro ⟨hvendor, howner, hdigest, hsha⟩ himage hstage
        have hpasses := endFails_none (c := s.cx) hlong hvendor howner hdigest hsha himage
        exact ⟨_, pkgEnd_passes ho hfree hok hlen hstaging htotal rfl hpasses, stageImage_recovered (c := s.cx) hstage⟩
    · exact ⟨pkgAbort_notNow ho hfree hok hlen, pkgAbort_ends ho hfree hok hlen⟩
    · exact ⟨activate_notStaged ho hfree hok hlen, activate_held ho hfree hok hlen, activate_begins ho hfree hok hlen⟩
  · exact fun hlc hok => test_refused ho hok hlc
  · exact test_bad ho
  · exact fun hlc hok hserves => test_stops ho hok hlc hserves

end Sys2Proof.Machine
end
